-- ==== Sys2Proof/Word.lean ====
section
/-! DEFINITION. The words of the wire (10 R190): bytes, two-byte and three-byte fields, and fixed tables of cells. -/

namespace Sys2Proof

/-- One byte of a frame, a header or a record. -/
abbrev Byte := BitVec 8

/-- A two-byte field. -/
abbrev Half := BitVec 16

/-- A three-byte field: a second of day, or a count of seconds that can exceed 65535 (10 R190). -/
abbrev Triple := BitVec 24

/-- Replace one cell of a fixed table. -/
def put (v : Vector α n) (i : Fin n) (x : α) : Vector α n := v.set i.val x i.isLt

end Sys2Proof
end

