-- ==== Sys2Proof/Syntax/Vocabulary.lean ====
section
/-! DEFINITION. The manual's names and records: roles, blocks, profiles, screens' contents, passes, schedules, the stored image. -/

namespace Sys2Proof

/-! ### Roles, blocks, notices -/

/-- 00 Table 2-1: the address a processor uses fixes its role. -/
inductive Role where
  | console | panel | relay
  deriving DecidableEq, Repr, Inhabited

/-- 00 Table 2-3: the nine blocks. -/
inductive Block where
  | port | profile | metering | screen | passes | receiver | cache | signal | store
  deriving DecidableEq, Repr, Inhabited

/-- 08 R163: the notice categories. -/
inductive Category where
  | screen | time | guide | authority | store | port
  deriving DecidableEq, Repr, Inhabited

/-- 08 R163: a notice concerns all three roles, or (PORT) one. -/
inductive Concerned where
  | every
  | only (r : Role)
  deriving DecidableEq, Repr, Inhabited

/-- A value for each of the three roles. -/
structure PerRole (α : Type) where
  console : α
  panel : α
  relay : α
  deriving DecidableEq, Repr, Inhabited

/-- The same value for every role. -/
def PerRole.same (x : α) : PerRole α := { console := x, panel := x, relay := x }

/-- The value of one role. -/
def PerRole.get (v : PerRole α) : Role → α
  | .console => v.console
  | .panel => v.panel
  | .relay => v.relay

/-- Replace the value of one role. -/
def PerRole.set (v : PerRole α) (r : Role) (x : α) : PerRole α :=
  match r with
  | .console => { v with console := x }
  | .panel => { v with panel := x }
  | .relay => { v with relay := x }

/-! ### Identities -/

/-- Profile slot 0..7 (01 R1). -/
abbrev Slot := Fin 8

/-- Screen 0..3 (03 R56). -/
abbrev ScreenNo := Fin 4

/-- A set of the content flags, bits 0..4 VIOLENCE, LANGUAGE, THEMES, FEAR, PURCHASE (10 Table 10-1). -/
abbrev FlagSet := BitVec 5

/-- A set of the six notice categories, in the bit order of 10 Table 10-1. -/
abbrev NoticeSet := BitVec 6

/-- A set of screens, bit n for screen n (10 Table 10-1). -/
abbrev ScreenSet := BitVec 4

/-- A content rating: a scheme and a native value (01 R5). -/
structure Rating where
  scheme : Fin 4
  value : Fin 32
  deriving DecidableEq, Repr, Inhabited

/-- A schedule time: day serial and minute of day (00 section 4.1). -/
structure MinuteTime where
  day : Nat
  minute : Nat
  deriving DecidableEq, Repr, Inhabited

/-- A household time: day serial and second of day (00 section 4.1). -/
structure SecondTime where
  day : Nat
  second : Nat
  deriving DecidableEq, Repr, Inhabited

/-! ### Profiles (01 R1) -/

/-- SCHOOL or FREE (02 R30). -/
inductive DayKind where
  | school | free
  deriving DecidableEq, Repr, Inhabited

/-- The days a curfew window applies to (01 R1). -/
inductive Applicability where
  | school | free | both
  deriving DecidableEq, Repr, Inhabited

/-- How seconds viewed on several screens at once are charged (01 Table 1-2). -/
inductive ChargeMode where
  | shared | each
  deriving DecidableEq, Repr, Inhabited

/-- How a screen that runs out of time closes (01 Table 1-2). -/
inductive CloseMode where
  | atOnce | atBoundary
  deriving DecidableEq, Repr, Inhabited

/-- The treatment of content with no mapped rating (01 Table 1-1). -/
inductive UnratedPolicy where
  | allow | block
  | step (n : Fin 16)
  deriving DecidableEq, Repr, Inhabited

/-- A curfew window: start minute, end minute, applicability (01 R1). -/
structure CurfewWindow where
  start : Nat
  stop : Nat
  applies : Applicability
  deriving DecidableEq, Repr, Inhabited

/-- The common part of a profile record (01 Table 1-1); PIN digits first to last. -/
structure CommonPart where
  label : List Byte
  pin : Option (List (Fin 10))
  ceiling : Fin 16
  blocked : FlagSet
  unrated : UnratedPolicy
  seatLimit : Nat
  deriving DecidableEq, Repr, Inhabited

/-- The child part of a profile record (01 Table 1-2). -/
structure ChildPart where
  school : Nat
  free : Nat
  bonusCap : Nat
  mode : ChargeMode
  lead : Nat
  close : CloseMode
  grace : Nat
  windows : List CurfewWindow
  deriving DecidableEq, Repr, Inhabited

/-- A profile record. An EMPTY record holds its kind and no other field; only CHILD has a child part (01 R1, R2). -/
inductive Profile where
  | empty
  | child (c : CommonPart) (k : ChildPart)
  | adult (c : CommonPart)
  deriving DecidableEq, Repr, Inhabited

/-- A scheme map: an entry for each native value, a step or UNMAPPED (01 R4). -/
abbrev SchemeMap := Vector (Option (Fin 16)) 32

/-- The household record, in seconds (01 R7). -/
structure Household where
  authorityLength : Nat
  lockoutLength : Nat
  deriving DecidableEq, Repr, Inhabited

/-- The slot a PROFILE_CHANGED names, or all (01 R25). -/
inductive ProfileRef where
  | one (p : Slot)
  | all
  deriving DecidableEq, Repr, Inhabited

/-! ### Time messages and charges -/

/-- The reason of a WARN (02 R39, R43). -/
inductive WarnReason where
  | allowance | curfew
  deriving DecidableEq, Repr, Inhabited

/-- NONE, VIEW or OVERRUN (02 R35, 03 R59). -/
inductive ChargeKind where
  | nothing | view | overrun
  deriving DecidableEq, Repr, Inhabited

/-- The curfew state of an account, OUT or IN (02 R42). -/
inductive CurfewState where
  | outside | inside
  deriving DecidableEq, Repr, Inhabited

/-! ### Screens and passes -/

/-- LOCAL or REMOTE (03 R56). -/
inductive ScreenKind where
  | localKind | remoteKind
  deriving DecidableEq, Repr, Inhabited

/-- The seven screen states (03 Table 3-3). -/
inductive ScreenState where
  | dark | waiting | showing | winding | closing | refused | expired
  deriving DecidableEq, Repr, Inhabited

/-- Why a screen is in its state (03 Table 3-1). -/
inductive Reason where
  | rating | flags | unrated | allowance | curfew | clock
  deriving DecidableEq, Repr, Inhabited

/-- AWAKE or STANDBY (03 R78). -/
inductive BoxState where
  | awake | standby
  deriving DecidableEq, Repr, Inhabited

/-- A non-broadcast content description (03 R57). -/
structure Descriptor where
  contentId : Half
  rating : Option Rating
  flags : Option FlagSet
  duration : Option Nat
  deriving DecidableEq, Repr, Inhabited

/-- An event record's fields but the service (05 R107, 06 R125). -/
structure EventRecord where
  id : Half
  start : MinuteTime
  duration : Nat
  rating : Option Rating
  flags : Option FlagSet
  deriving DecidableEq, Repr, Inhabited

/-- A content identity (03 R57): (service, event id), (service, none) or (0, content id). -/
inductive ContentId where
  | event (service id : Half)
  | noEvent (service : Half)
  | source (id : Half)
  deriving DecidableEq, Repr, Inhabited

/-- What a pass covers: kind, target and content identity (04 R88). -/
inductive PassScope where
  | content (screen : ScreenNo) (identity : ContentId)
  | curfew (p : Slot)
  deriving DecidableEq, Repr, Inhabited

/-- The pass that PASS_ADDED and PASS_REMOVED name (04 R99). -/
structure PassNote where
  id : Nat
  scope : PassScope
  deriving DecidableEq, Repr, Inhabited

/-! ### The guide -/

/-- A completed link symbol: its kind and its eight bits (05 R102). -/
inductive Symbol where
  | data (b : Byte)
  | control (code : Byte)
  deriving DecidableEq, Repr, Inhabited

/-- The table a COMMIT carries (05 R118). -/
structure GuideTable where
  service : Half
  version : Nat
  spanStart : MinuteTime
  spanEnd : MinuteTime
  records : List EventRecord
  deriving DecidableEq, Repr, Inhabited

/-- The outcome a COMMIT_DONE carries (05 R119). -/
inductive CommitOutcome where
  | committed | directoryFull | cacheFull
  deriving DecidableEq, Repr, Inhabited

/-! ### Input lines -/

/-- NONE, BOUNDARY(s) or STANDBY (08 R168). -/
inductive LineFunction where
  | nothing
  | boundary (n : ScreenNo)
  | standby
  deriving DecidableEq, Repr, Inhabited

/-- The active level of an input line (08 R168). -/
inductive Polarity where
  | high | low
  deriving DecidableEq, Repr, Inhabited

/-! ### The stored image (09 Table 9-1) -/

/-- The stored fields of one account (02 Table 2-2). -/
structure StoredAccount where
  bonus : Nat
  used : Nat
  overrun : Nat
  warned : Bool
  curfewWarned : List Bool
  deriving DecidableEq, Repr, Inhabited

/-- A screen's stored configuration (03 R56). -/
structure ScreenConfig where
  kind : ScreenKind
  guideWait : Nat
  deriving DecidableEq, Repr, Inhabited

/-- An input line's stored setting (08 R168). -/
structure LineSetting where
  function : LineFunction
  polarity : Polarity
  deriving DecidableEq, Repr, Inhabited

/-- The content of the nonvolatile image (09 Table 9-1). -/
structure Content where
  household : Household
  table : Vector Profile 8
  maps : Vector SchemeMap 4
  plan : Vector DayKind 7
  accountDay : Nat
  accounts : Vector (Option StoredAccount) 8
  screens : Vector ScreenConfig 4
  lines : Vector LineSetting 4
  deriving DecidableEq, Repr, Inhabited

/-- An image as it is read: whether the format mark is present, the integrity check, the content (09 R174). -/
structure Image where
  formatMark : Bool
  check : Half
  content : Content
  deriving DecidableEq, Repr, Inhabited

end Sys2Proof
end

