-- ==== Sys2Proof/Syntax.lean ====
section
/-! DEFINITION. The commands: one constructor per row of spec/opcode_table.json. Requests carry their role and the
fields of their body at the widths of 10 Table 10-2; messages carry what they name; line and pin events carry what the
part samples at that moment (log 3, log 10). -/

namespace Sys2Proof

/-- A PIN as a body carries it: the count, then three bytes of digit pairs (10 R190). -/
structure RawPin where
  count : Byte
  d1 : Byte
  d2 : Byte
  d3 : Byte
  deriving DecidableEq, Repr, Inhabited

/-- The descriptor of a TUNE body (10 R191). -/
structure RawDescriptor where
  contentId : Half
  presence : Byte
  scheme : Byte
  value : Byte
  flags : Byte
  duration : Half
  deriving DecidableEq, Repr, Inhabited

/-- One curfew window of an edit image (10 Table 10-7). -/
structure RawWindow where
  start : Half
  stop : Half
  applies : Byte
  deriving DecidableEq, Repr, Inhabited

/-- The edit image of EDIT_PROFILE (10 Table 10-7): twelve label bytes, three windows. -/
structure EditImage where
  kind : Byte
  label : List Byte
  pin : RawPin
  ceiling : Byte
  blocked : Byte
  unrated : Byte
  seatLimit : Byte
  school : Half
  free : Half
  bonusCap : Byte
  modes : Byte
  lead : Byte
  grace : Half
  windowCount : Byte
  windows : List RawWindow
  deriving DecidableEq, Repr, Inhabited

/-- The end time of a GRANT_PASS body, or the time of a set or a lookup. -/
structure RawTime where
  day : Half
  second : Triple
  deriving DecidableEq, Repr, Inhabited

/-- The steps of the part. -/
inductive Instr where
  -- requests of the Management Port
  | identify (r : Role)
  | readPortCounts (r : Role)
  | reset (r : Role)
  -- requests of the Profile Unit
  | readProfile (r : Role) (slot : Byte)
  | editProfile (r : Role) (slot : Byte) (image : EditImage)
  | clearProfile (r : Role) (slot : Byte)
  | verifyPin (r : Role) (slot : Byte) (pin : RawPin)
  | endAuthority (r : Role)
  | readAuthority (r : Role)
  | readSchemeMap (r : Role) (scheme : Byte)
  | setSchemeMap (r : Role) (scheme : Byte) (entries : List Byte)
  | setHousehold (r : Role) (authority lockout : Half)
  -- requests of the Metering Unit
  | readClock (r : Role)
  | setClock (r : Role) (time : RawTime) (weekday : Byte)
  | setTrim (r : Role) (trim : Half)
  | readAccount (r : Role) (slot : Byte)
  | grantBonus (r : Role) (slot minutes : Byte)
  | setWeekPlan (r : Role) (kinds : List Byte)
  | setTodayKind (r : Role) (kind : Byte)
  -- requests of the Screen Controller
  | configureScreen (r : Role) (n kind guideWait : Byte)
  | seat (r : Role) (n slot : Byte) (pin : RawPin)
  | tune (r : Role) (n : Byte) (service : Half) (descriptor : Option RawDescriptor)
  | screenOff (r : Role) (n : Byte)
  | mark (r : Role) (n : Byte)
  | readScreen (r : Role) (n : Byte)
  | setBox (r : Role) (box : Byte)
  -- requests of the Pass List
  | grantPass (r : Role) (kind target : Byte) (endTime : Option RawTime)
  | revokePass (r : Role) (id : Byte)
  | listPasses (r : Role)
  -- requests of the Guide Receiver
  | linkReset (r : Role)
  | readLinkCounts (r : Role)
  -- requests of the Guide Cache (the time is a day serial and a minute; none is NOW)
  | readEvent (r : Role) (service : Half) (time : Option (Half × Half))
  | listEvents (r : Role) (service day minute : Half)
  | readDirectory (r : Role) (index : Byte)
  -- requests of the Signal Unit
  | getNotices (r : Role)
  | setNoticeMask (r : Role) (mask : Byte)
  | setLineFunction (r : Role) (line function screen polarity : Byte)
  | readLines (r : Role)
  -- requests of the Profile Store
  | factoryClear (r : Role)
  | readStoreState (r : Role)
  -- events on the management port's two lines
  | startCondition (withinByte : Bool)
  | stopCondition (withinByte : Bool)
  | addressByte (b : Byte)
  | codeByte (b : Byte)
  | lengthByte (b : Byte)
  | bodyByte (b : Byte)
  | checkByte (b : Byte)
  | responseByteSent (masterAcks : Bool)
  | transactionTimeout
  -- the guide link: arrivals, gaps, and the receiver's takes from the FIFO
  | symbolArrival (samples : Vector Bool 9)
  | quietGap (bitsSampled : Nat)
  | sot
  | dataByte (b : Byte)
  | sor
  | eor
  | eot
  | abt
  | unknownControl (code : Byte)
  -- the Guide Cache
  | commit (table : GuideTable)
  | commitCompletion
  | commitDone (outcome : CommitOutcome)
  | minute
  | eventChange (service : Half)
  -- time
  | secondTick
  | lockoutExpiry (p : Slot)
  | windowExpiry (r : Role)
  -- messages between blocks
  | standbyEntryReport
  | profileChangedMetering (which : ProfileRef)
  | profileChanged (which : ProfileRef)
  | charge (n : ScreenNo) (p : Slot) (kind : ChargeKind)
  | warn (p : Slot) (reason : WarnReason)
  | exhausted (p : Slot)
  | replenished (p : Slot)
  | curfewOn (p : Slot)
  | curfewOff (p : Slot)
  | rolloverTaken
  | clockSet
  | passListClockSet
  | passAdded (pass : PassNote)
  | passRemoved (pass : PassNote)
  | curfewPassChange (id : Nat) (p : Slot)
  | dropScreen (n : ScreenNo)
  | dropProfile (p : Slot)
  | expiryCheck
  | guideWaitExpiry (n : ScreenNo)
  | graceExpiry (n : ScreenNo)
  | boundaryMark (n : ScreenNo)
  | standbyLevel (asserted : Bool)
  -- the Signal Unit
  | levelChange (line : Fin 4) (high : Bool)
  | notice (source : Block) (category : Category) (roles : Concerned) (screens : ScreenSet)
  -- the Profile Store
  | dirtyMark (source : Block) (rollover : Bool)
  | accountActivity
  | snapshotTimerExpiry
  | settleExpiry
  | writeAttemptEnd (verified : Bool)
  | softReset
  -- loads, pins and supply (straps: ADDRSEL1..0; pins: bit n is INn high)
  | loadBegin (straps : BitVec 2)
  | powerOn (straps : BitVec 2)
  | resetNAssert
  | resetNRelease (straps : BitVec 2)
  | loadEnd (pins : BitVec 4)
  | powerLoss
  deriving DecidableEq, Repr, Inhabited

/-- The role whose request a command is, if it is a request (07 Table 7-4). -/
def Instr.requester : Instr → Option Role
  | .identify r | .readPortCounts r | .reset r | .readProfile r _ | .editProfile r _ _ | .clearProfile r _
  | .verifyPin r _ _ | .endAuthority r | .readAuthority r | .readSchemeMap r _ | .setSchemeMap r _ _
  | .setHousehold r _ _ | .readClock r | .setClock r _ _ | .setTrim r _ | .readAccount r _ | .grantBonus r _ _
  | .setWeekPlan r _ | .setTodayKind r _ | .configureScreen r _ _ _ | .seat r _ _ _ | .tune r _ _ _
  | .screenOff r _ | .mark r _ | .readScreen r _ | .setBox r _ | .grantPass r _ _ _ | .revokePass r _
  | .listPasses r | .linkReset r | .readLinkCounts r | .readEvent r _ _ | .listEvents r _ _ _
  | .readDirectory r _ | .getNotices r | .setNoticeMask r _ | .setLineFunction r _ _ _ _ | .readLines r
  | .factoryClear r | .readStoreState r => some r
  | _ => none

/-- The path of a message: the block that sends it and the block that takes it (00 Table 2-4); none for a command that
is no message. Messages on one path are taken in the order sent (log 2). -/
def Instr.path : Instr → Option (Block × Block)
  | .charge _ _ _ => some (.screen, .metering)
  | .dropScreen _ => some (.screen, .passes)
  | .standbyEntryReport => some (.screen, .profile)
  | .warn _ _ | .exhausted _ | .replenished _ | .curfewOn _ | .curfewOff _ | .rolloverTaken | .clockSet =>
    some (.metering, .screen)
  | .passListClockSet => some (.metering, .passes)
  | .minute => some (.metering, .cache)
  | .accountActivity => some (.metering, .store)
  | .profileChangedMetering _ => some (.profile, .metering)
  | .profileChanged _ => some (.profile, .screen)
  | .dropProfile _ => some (.profile, .passes)
  | .passAdded _ | .passRemoved _ => some (.passes, .screen)
  | .curfewPassChange _ _ => some (.passes, .metering)
  | .commit _ => some (.receiver, .cache)
  | .commitDone _ => some (.cache, .receiver)
  | .eventChange _ => some (.cache, .screen)
  | .boundaryMark _ | .standbyLevel _ => some (.signal, .screen)
  | .notice source _ _ _ => some (source, .signal)
  | .dirtyMark source _ => some (source, .store)
  | .softReset => some (.port, .store)
  | _ => none

end Sys2Proof
end

