-- ==== Sys2Proof/Config.lean ====
section
/-! DEFINITION. What the part fixes, and the free values the manual leaves open. -/

namespace Sys2Proof

/-- Free value (log 11): what reading a partly written image gives, for the n-th such reading.
09 R181 says only that the next load is likely to find it invalid; the load judges it by R182. -/
opaque Config.tornImage : Nat → Image

/-- Free value (log 11): whether a factory image whose write failed twice is found valid, for the n-th reading of an image
that no write has verified. 09 R185 says only that the load may find it lost. -/
opaque Config.factoryFound : Nat → Bool

/-- 10 Table 10-2, IDENTIFY. -/
def Config.vendorCode : Nat := 0x53D1
/-- 10 Table 10-2, IDENTIFY. -/
def Config.partCode : Nat := 0x0340
/-- 10 Table 10-2, IDENTIFY. -/
def Config.revision : Nat := 1
/-- 05 R103: symbols the FIFO holds. -/
def Config.fifoSize : Nat := 64
/-- 05 R108: records the staging holds. -/
def Config.stagingSize : Nat := 48
/-- 06 R125: records the event store holds. -/
def Config.storeSize : Nat := 384
/-- 04 R89: passes the list holds. -/
def Config.passLimit : Nat := 16
/-- 07 R143: the longest request body. -/
def Config.bodyLimit : Nat := 48

end Sys2Proof
end

