-- ==== Sys2Proof/Machine/State.lean ====
section
/-! DEFINITION. The state of the part as plain data, block by block, the reasons a step can stop, and the state after
reset. Views that the manual derives (gates, alert lines, base, remaining, record counts) are functions elsewhere. -/

namespace Sys2Proof.Machine

/-! ### Profile Unit (01) -/

/-- An OPEN authority window (R12). Seconds 0 stands for an expiry that is due and not yet taken (log 8). -/
structure Window where
  opener : Slot
  seconds : Nat
  deriving DecidableEq, Repr, Inhabited

/-- 01: profile table, maps, household record, PIN failure counters, lockout timers, authority windows. -/
structure ProfileUnit where
  table : Vector Profile 8
  maps : Vector SchemeMap 4
  household : Household
  failures : Vector Nat 8
  lockouts : Vector (Option Nat) 8
  windows : PerRole (Option Window)
  deriving DecidableEq, Repr

/-! ### Metering Unit (02) -/

/-- The terms an account was created or last kept with, read from the profile's child part (R34, log 14). -/
structure AccountTerms where
  school : Nat
  free : Nat
  bonusCap : Nat
  mode : ChargeMode
  lead : Nat
  windows : List CurfewWindow
  deriving DecidableEq, Repr, Inhabited

/-- One allowance account (R31, R34): one curfew warned flag for each window of the copy. -/
structure Account where
  terms : AccountTerms
  bonus : Nat
  used : Nat
  overrun : Nat
  warned : Bool
  curfewWarned : List Bool
  curfew : CurfewState
  deriving DecidableEq, Repr, Inhabited

/-- A charge table entry: a profile and a charge kind (R35). -/
structure ChargeEntry where
  profile : Slot
  kind : ChargeKind
  deriving DecidableEq, Repr, Inhabited

/-- 02: the household clock, day kinds, account day, accounts, charge table. running says the clock state is RUNNING. -/
structure MeteringUnit where
  running : Bool
  day : Nat
  second : Nat
  weekday : Fin 7
  trim : Int
  plan : Vector DayKind 7
  override : Option DayKind
  yesterday : DayKind
  accountDay : Nat
  accounts : Vector (Option Account) 8
  charges : Vector ChargeEntry 4
  deriving DecidableEq, Repr

/-! ### Screen Controller (03) -/

/-- A screen record (R56), with the last pair sent (R59) and the resolved step kept for READ_SCREEN (R60).
A timer of 0 is an expiry that is due and not yet taken (log 8). -/
structure Screen where
  kind : ScreenKind
  guideWait : Nat
  seat : Slot
  state : ScreenState
  reason : Option Reason
  service : Option Half
  descriptor : Option Descriptor
  event : Option EventRecord
  override : Bool
  timer : Option Nat
  charge : ChargeKind
  lastPair : ChargeEntry
  step : Option (Fin 16)
  deriving DecidableEq, Repr, Inhabited

/-- 03: four screen records, the requested box state, the standby level as last taken (R78). -/
structure ScreenController where
  cells : Vector Screen 4
  requested : BoxState
  standbyLevel : Bool
  deriving DecidableEq, Repr

/-! ### Pass List (04) -/

/-- A pass record (R88). -/
structure Pass where
  id : Nat
  scope : PassScope
  expiry : SecondTime
  granter : Option Slot
  deriving DecidableEq, Repr, Inhabited

/-- 04: the passes in expiry order, and the next id (R89). -/
structure PassList where
  held : List Pass
  nextId : Nat
  deriving DecidableEq, Repr, Inhabited

/-! ### Guide Receiver (05) -/

/-- The receiver states (Table 5-5). -/
inductive ReceiverState where
  | idle | header | body | skip | handoff
  deriving DecidableEq, Repr, Inhabited

/-- A judged table header (Table 5-2), without its check. -/
structure TableHeader where
  service : Half
  version : Nat
  spanStart : MinuteTime
  spanEnd : MinuteTime
  recordCount : Nat
  deriving DecidableEq, Repr, Inhabited

/-- The eight link counters (Table 5-7). -/
structure LinkCounts where
  committed : Nat
  refused : Nat
  damaged : Nat
  abandoned : Nat
  duplicate : Nat
  stray : Nat
  framing : Nat
  overrun : Nat
  deriving DecidableEq, Repr, Inhabited

/-- 05: the FIFO, the receiver record (Table 5-4), and whether symbols are aligned since the last load (R102). -/
structure GuideReceiver where
  fifo : List Symbol
  state : ReceiverState
  header : List Byte
  recordOpen : Bool
  record : List Byte
  damaged : Bool
  staged : Option TableHeader
  records : List EventRecord
  tableHeld : Bool
  commitOutstanding : Bool
  lossMark : Bool
  counts : LinkCounts
  aligned : Bool
  deriving DecidableEq, Repr

/-! ### Guide Cache (06) -/

/-- A HELD directory entry (Table 6-1) with its service's records in start order (R125, log 22). -/
structure Entry where
  service : Half
  version : Nat
  reference : MinuteTime
  records : List EventRecord
  current : Option EventRecord
  deriving DecidableEq, Repr, Inhabited

/-- A commit in flight: the table and the present minute it read at its beginning (R127). -/
structure Commit where
  table : GuideTable
  present : Option MinuteTime
  deriving DecidableEq, Repr, Inhabited

/-- 06: the directory (none is UNUSED), the commit in flight, a held MINUTE (R134). -/
structure GuideCache where
  directory : Vector (Option Entry) 32
  inFlight : Option Commit
  heldMinute : Bool
  deriving DecidableEq, Repr

/-! ### Management Port (07) -/

/-- Result codes (Table 7-3A), NONE and NOT_READY being statuses only. -/
inductive Result where
  | ok | nothing | notReady | unknownRequest | badLength | notPermitted | noAuthority | badPin | lockedOut
  | badValue | wrongState | seatLimit | inUse | listFull | notFound | standby
  deriving DecidableEq, Repr, Inhabited

/-- An answer: one result code and a body (R152). -/
structure Answer where
  result : Result
  body : List Byte
  deriving DecidableEq, Repr, Inhabited

/-- The exchange state of a role (R152). IN_FLIGHT keeps the request handed to its owner until the owner takes it;
none once it is taken and no answer is to come (R160). -/
inductive Exchange where
  | noResponse
  | inFlight (request : Option Instr)
  | held (answer : Answer)
  deriving DecidableEq, Repr, Inhabited

/-- Which byte of the frame the next byte is (Table 7-2). -/
inductive Phase where
  | code | length | body | check
  deriving DecidableEq, Repr, Inhabited

/-- A frame assembly record that is not empty (Table 7-2). -/
structure Frame where
  phase : Phase
  code : Option Byte
  length : Option Nat
  body : List Byte
  check : Byte
  deriving DecidableEq, Repr, Inhabited

/-- The port's bus states (Table 7-1). -/
inductive BusState where
  | free | address
  | write (r : Role)
  | read (r : Role)
  | ignore
  deriving DecidableEq, Repr, Inhabited

/-- A role's five port counters (Table 7-3). -/
structure PortCounts where
  check : Nat
  truncated : Nat
  timeout : Nat
  bus : Nat
  overlong : Nat
  deriving DecidableEq, Repr, Inhabited

/-- The response frame a read has begun to send: the bytes left, and whether it is a held response (R155, R156). -/
structure Sending where
  rest : List Byte
  fromHeld : Bool
  deriving DecidableEq, Repr, Inhabited

/-- 07: base address, bus state, and per role the frame record (none is empty), exchange and counters; the silent flag;
the read under way; the acknowledge bit last given and the byte last sent. -/
structure ManagementPort where
  base : Nat
  bus : BusState
  frames : PerRole (Option Frame)
  exchanges : PerRole Exchange
  counts : PerRole PortCounts
  silent : Bool
  sending : Option Sending
  acked : Bool
  sent : Option Byte
  deriving DecidableEq, Repr

/-! ### Signal Unit (08) -/

/-- An input line record (Table 8-2); level true is high. -/
structure Line where
  setting : LineSetting
  level : Bool
  deriving DecidableEq, Repr, Inhabited

/-- 08: pending sets, changed-screen sets, masks, input lines, the standby level last reported. -/
structure SignalUnit where
  notices : PerRole NoticeSet
  changed : PerRole ScreenSet
  masks : PerRole NoticeSet
  lines : Vector Line 4
  reported : Bool
  deriving DecidableEq, Repr

/-! ### Profile Store (09) -/

/-- The store states (R175). -/
inductive StoreState where
  | loading | idle | writing | failed
  deriving DecidableEq, Repr, Inhabited

/-- Which attempt at the snapshot is under way (Table 9-2). -/
inductive Attempt where
  | first | retry
  deriving DecidableEq, Repr, Inhabited

/-- How far an accepted FACTORY_CLEAR has come (R185 steps 3 to 6). -/
inductive FactoryStage where
  | waiting | writing | written
  deriving DecidableEq, Repr, Inhabited

/-- Reset under way (Table 9-2); a factory clear keeps the account day at the request (R185). -/
inductive UnderWay where
  | nothing
  | reset
  | factoryClear (accountDay : Nat) (stage : FactoryStage)
  deriving DecidableEq, Repr, Inhabited

/-- The nonvolatile image: never written, one that reads as i, partly written and not read since (R174, R180, R181), the
factory image whose write failed twice, of which R185 says that a load uses it or finds the image lost, or one that a load has
found lost and no commit has written since (R183). -/
inductive Nonvolatile where
  | blank
  | whole (i : Image)
  | torn
  | factoryFailed (i : Image)
  | lost
  deriving DecidableEq, Repr, Inhabited

/-- 09: the store record (Table 9-2), the image, and whether the load under way follows power-on or RESET_N. -/
structure ProfileStore where
  state : StoreState
  dirty : Bool
  settle : Option Nat
  snapshotTimer : Option Nat
  activity : Bool
  snapshot : Option Image
  attempt : Option Attempt
  lost : Bool
  writeFailed : Bool
  underWay : UnderWay
  rolloverUnsaved : Bool
  image : Nonvolatile
  hardLoad : Bool
  deriving DecidableEq, Repr

/-- The stream of reference seconds (02 R28): periods elapsed in the second under way, its length, and second ticks due
but not yet taken (log 8). -/
structure Reference where
  phase : Nat
  length : Nat
  ticksDue : Nat
  deriving DecidableEq, Repr, Inhabited

/-- The machine. transit holds the messages sent and not yet taken, oldest first, each as the command that takes it
(log 2); pending is the queue of waiting commands. -/
structure State where
  power : Bool
  resetHeld : Bool
  ref : Reference
  profiles : ProfileUnit
  metering : MeteringUnit
  screens : ScreenController
  passes : PassList
  receiver : GuideReceiver
  cache : GuideCache
  port : ManagementPort
  signal : SignalUnit
  store : ProfileStore
  transit : List Instr
  freeCount : Nat
  pending : List Instr
  deriving DecidableEq, Repr

/-- Reasons a step faults. None: the manual names no event that stops the part (INVENTORY, Faults). -/
inductive Fault where
  deriving DecidableEq, Repr

/-- Reasons a step is refused. -/
inductive Refusal where
  /-- Raised by exec's arm of a command that has no meaning yet; safe, since nothing is claimed of it. No arm raises it. -/
  | notModelled (mnemonic : String)
  deriving DecidableEq, Repr

/-! ### One update per field of State -/

def State.withPower (s : State) (x : Bool) : State := { s with power := x }
def State.withResetHeld (s : State) (x : Bool) : State := { s with resetHeld := x }
def State.withRef (s : State) (x : Reference) : State := { s with ref := x }
def State.withProfiles (s : State) (x : ProfileUnit) : State := { s with profiles := x }
def State.withMetering (s : State) (x : MeteringUnit) : State := { s with metering := x }
def State.withScreens (s : State) (x : ScreenController) : State := { s with screens := x }
def State.withPasses (s : State) (x : PassList) : State := { s with passes := x }
def State.withReceiver (s : State) (x : GuideReceiver) : State := { s with receiver := x }
def State.withCache (s : State) (x : GuideCache) : State := { s with cache := x }
def State.withPort (s : State) (x : ManagementPort) : State := { s with port := x }
def State.withSignal (s : State) (x : SignalUnit) : State := { s with signal := x }
def State.withStore (s : State) (x : ProfileStore) : State := { s with store := x }
def State.withTransit (s : State) (x : List Instr) : State := { s with transit := x }
def State.withFreeCount (s : State) (x : Nat) : State := { s with freeCount := x }
def State.withPending (s : State) (x : List Instr) : State := { s with pending := x }

/-! ### Factory content and reset -/

/-- 01 R3: profile 0 as the factory content gives it; its label is Household. -/
def factoryCommon : CommonPart where
  label := [0x48, 0x6F, 0x75, 0x73, 0x65, 0x68, 0x6F, 0x6C, 0x64]
  pin := none
  ceiling := 15
  blocked := 0
  unrated := .allow
  seatLimit := 4

/-- 01 R3: the child part of profile 0. -/
def factoryChild : ChildPart where
  school := 1440
  free := 1440
  bonusCap := 0
  mode := .shared
  lead := 0
  close := .atOnce
  grace := 0
  windows := []

/-- 01 R3: the factory profile table. -/
def factoryTable : Vector Profile 8 :=
  #v[.child factoryCommon factoryChild, .empty, .empty, .empty, .empty, .empty, .empty, .empty]

/-- 01 R4: scheme 0 maps v to v up to 15 and to 15 above. -/
def factoryMapZero : SchemeMap :=
  #v[some 0, some 1, some 2, some 3, some 4, some 5, some 6, some 7, some 8, some 9, some 10, some 11, some 12,
     some 13, some 14, some 15, some 15, some 15, some 15, some 15, some 15, some 15, some 15, some 15, some 15,
     some 15, some 15, some 15, some 15, some 15, some 15, some 15]

/-- 01 R4: schemes 1 to 3 are UNMAPPED throughout. -/
def factoryMaps : Vector SchemeMap 4 :=
  #v[factoryMapZero, Vector.replicate 32 none, Vector.replicate 32 none, Vector.replicate 32 none]

/-- 02 R30: SCHOOL for weekdays 0 to 4, FREE for 5 and 6. -/
def factoryPlan : Vector DayKind 7 := #v[.school, .school, .school, .school, .school, .free, .free]

/-- The terms of profile 0's account (R34) in the factory content. -/
def factoryTerms : AccountTerms where
  school := 1440
  free := 1440
  bonusCap := 0
  mode := .shared
  lead := 0
  windows := []

/-- A screen record as a load sets it (03 Table 3-7), with the given configuration. -/
def Screen.dark (k : ScreenKind) (wait : Nat) : Screen where
  kind := k
  guideWait := wait
  seat := 0
  state := .dark
  reason := none
  service := none
  descriptor := none
  event := none
  override := false
  timer := none
  charge := .nothing
  lastPair := { profile := 0, kind := .nothing }
  step := none

/-- The receiver as a load or LINK_RESET empties it (05 Table 5-9), but for commit outstanding and alignment. -/
def GuideReceiver.cleared (commitOutstanding aligned : Bool) : GuideReceiver where
  fifo := []
  state := .idle
  header := []
  recordOpen := false
  record := []
  damaged := false
  staged := none
  records := []
  tableHeld := false
  commitOutstanding := commitOutstanding
  lossMark := false
  counts := { committed := 0, refused := 0, damaged := 0, abandoned := 0, duplicate := 0, stray := 0, framing := 0,
              overrun := 0 }
  aligned := aligned

/-- The cache as a load empties it (06 Table 6-5). -/
def GuideCache.empty : GuideCache where
  directory := Vector.replicate 32 none
  inFlight := none
  heldMinute := false

/-- Zero port counters (07 R161). -/
def PortCounts.zero : PortCounts where
  check := 0
  truncated := 0
  timeout := 0
  bus := 0
  overlong := 0

/-- The port as a load sets it (07 Table 7-6), silent. -/
def ManagementPort.silenced (base : Nat) : ManagementPort where
  base := base
  bus := .ignore
  frames := .same none
  exchanges := .same .noResponse
  counts := .same .zero
  silent := true
  sending := none
  acked := false
  sent := none

/-- The machine right after reset: the load that follows power-on has begun (09 R181), over a blank image (log 5),
with the stored registers at their factory content until LOAD_END (log 6) and the straps read as 00 (log 7). -/
def State.reset : State where
  power := true
  resetHeld := false
  ref := { phase := 0, length := 32768, ticksDue := 0 }
  profiles := {
    table := factoryTable
    maps := factoryMaps
    household := { authorityLength := 120, lockoutLength := 300 }
    failures := Vector.replicate 8 0
    lockouts := Vector.replicate 8 none
    windows := .same none }
  metering := {
    running := false
    day := 0
    second := 0
    weekday := 0
    trim := 0
    plan := factoryPlan
    override := none
    yesterday := .free
    accountDay := 0
    accounts := put (Vector.replicate 8 none) 0 (some {
      terms := factoryTerms, bonus := 0, used := 0, overrun := 0, warned := false, curfewWarned := [],
      curfew := .outside })
    charges := Vector.replicate 4 { profile := 0, kind := .nothing } }
  screens := {
    cells := #v[.dark .localKind 5, .dark .localKind 5, .dark .remoteKind 5, .dark .remoteKind 5]
    requested := .awake
    standbyLevel := false }
  passes := { held := [], nextId := 1 }
  receiver := .cleared false false
  cache := .empty
  port := .silenced 0x30
  signal := {
    notices := .same 0
    changed := .same 0
    masks := .same 0
    lines := Vector.replicate 4 { setting := { function := .nothing, polarity := .high }, level := false }
    reported := false }
  store := {
    state := .loading
    dirty := false
    settle := none
    snapshotTimer := none
    activity := false
    snapshot := none
    attempt := none
    lost := false
    writeFailed := false
    underWay := .nothing
    rolloverUnsaved := false
    image := .blank
    hardLoad := true }
  transit := []
  freeCount := 0
  pending := []

end Sys2Proof.Machine
end

