-- ==== Sys2Proof/Machine/Ops.lean ====
section
/-! DEFINITION. The operations every block shares: the two check codes, reckoning of time, timers, messages in transit,
notices and dirty marks, the handing of requests and answers, the authority check. -/

namespace Sys2Proof.Machine

/-! ### Check codes -/

/-- One shift of the CRC-8 register (10 R189). -/
def crc8Shift (x : Byte) : Byte := if x.msb then (x <<< 1) ^^^ 0x31#8 else x <<< 1

/-- The CRC-8 register after one byte (10 R189): exclusive-or, then eight shifts. -/
def crc8Byte (x b : Byte) : Byte :=
  crc8Shift (crc8Shift (crc8Shift (crc8Shift (crc8Shift (crc8Shift (crc8Shift (crc8Shift (x ^^^ b))))))))

/-- The CRC-8 of a list of bytes, the register starting at 0 (10 R189). -/
def crc8 (bs : List Byte) : Byte := bs.foldl crc8Byte 0

/-- One shift of the CRC-16 register (09 R174: x¹⁶ + x¹² + x⁵ + 1). -/
def crc16Shift (x : Half) : Half := if x.msb then (x <<< 1) ^^^ 0x1021#16 else x <<< 1

/-- The CRC-16 register after one byte, most significant bit first (the bit order is log 12's choice). -/
def crc16Byte (x : Half) (b : Byte) : Half :=
  crc16Shift (crc16Shift (crc16Shift (crc16Shift (crc16Shift (crc16Shift (crc16Shift (crc16Shift
    (x ^^^ (b.setWidth 16 <<< 8)))))))))

/-- The CRC-16 of a list of bytes, initial value all ones (09 R174). -/
def crc16 (bs : List Byte) : Half := bs.foldl crc16Byte 0xFFFF#16

/-! ### Reckoning of time -/

/-- Days of the cycle on which times are compared (04 R90, 05 R105). -/
def cycleDays : Nat := 65536

/-- Seconds of the cycle (04 R90). -/
def cycleSeconds : Nat := cycleDays * 86400

/-- Half the cycle in seconds (04 R90). -/
def halfSeconds : Nat := 32768 * 86400

/-- Minutes of the cycle, C of 06 R126. -/
def cycleMinutes : Nat := cycleDays * 1440

/-- Half the cycle in minutes, H of 06 R126. -/
def halfMinutes : Nat := 32768 * 1440

/-- The position of a household time (04 R90). -/
def secondPosition (t : SecondTime) : Nat := t.day * 86400 + t.second

/-- The distance ahead from a to b in seconds, counted forward around the cycle (04 R90). -/
def secondsAhead (a b : SecondTime) : Nat := (secondPosition b + (cycleSeconds - secondPosition a % cycleSeconds)) % cycleSeconds

/-- The time lying n seconds ahead; day 65535 is followed by day 0 (04 R92). -/
def secondPlus (t : SecondTime) (n : Nat) : SecondTime where
  day := ((secondPosition t + n) / 86400) % cycleDays
  second := (secondPosition t + n) % 86400

/-- The position of a schedule time (05 R105). -/
def minutePosition (t : MinuteTime) : Nat := t.day * 1440 + t.minute

/-- The distance ahead from a to b in minutes (05 R105). -/
def minutesAhead (a b : MinuteTime) : Nat := (minutePosition b + (cycleMinutes - minutePosition a % cycleMinutes)) % cycleMinutes

/-- The time lying n minutes ahead (06 R126, End). -/
def minutePlus (t : MinuteTime) (n : Nat) : MinuteTime where
  day := ((minutePosition t + n) / 1440) % cycleDays
  minute := (minutePosition t + n) % 1440

/-- The household clock as a time (02 R27). -/
def State.now (s : State) : SecondTime := { day := s.metering.day, second := s.metering.second }

/-- 06 R126: the present minute, none while the clock is UNSET. -/
def State.presentMinute (s : State) : Option MinuteTime :=
  if s.metering.running then some { day := s.metering.day, minute := s.metering.second / 60 } else none

/-! ### Timers (02 R28) -/

/-- A running timer falls by one; at 0 its expiry is due and it stays there until the expiry is taken (log 8). -/
def timerFalls (t : Option Nat) : Option Nat := t.map (· - 1)

/-- The seconds a running timer reports: one whose expiry is due and not taken still reports 1 (log 8). -/
def secondsShown (n : Nat) : Nat := max n 1

/-! ### Whether the part is in a state to act -/

/-- The supply is valid and RESET_N is released (09 R181). -/
def State.awake (s : State) : Bool := s.power && !s.resetHeld

/-- A load is under way (09 R175). -/
def State.loading (s : State) : Bool := s.store.state == .loading

/-- All profile slots in order. -/
def slots : List Slot := [0, 1, 2, 3, 4, 5, 6, 7]

/-- All screens in order. -/
def screenNumbers : List ScreenNo := [0, 1, 2, 3]

/-! ### Messages in transit (log 2) -/

/-- Take m out of the messages in transit, if it is the oldest on its path. -/
def takeFrom (m : Instr) : List Instr → Option (List Instr)
  | [] => none
  | x :: rest =>
    if x = m then some rest
    else if x.path = m.path then none
    else (takeFrom m rest).map (x :: ·)

/-- Send messages, in this order. -/
def State.sendAll (s : State) (ms : List Instr) : State := s.withTransit (s.transit ++ ms)

/-- Send one message. -/
def State.send (s : State) (m : Instr) : State := s.sendAll [m]

/-- A block takes the message m as one act, when m is the oldest message on its path; otherwise m is not there to be
taken and nothing happens (log 1). -/
def onMessage (m : Instr) (s : State) (act : State → State) : Host.Outcome State Fault Refusal :=
  match takeFrom m s.transit with
  | some rest => .next (act (s.withTransit rest))
  | none => .next s

/-- A step whose occasion is the condition c; without it nothing happens (log 1). -/
def onOccasion (c : Bool) (s : State) (act : State → State) : Host.Outcome State Fault Refusal :=
  .next (if c then act s else s)

/-! ### Notices and dirty marks -/

/-- A block raises a notice for every role (08 R163): one message for each act and category (log 16). -/
def State.raise (s : State) (source : Block) (category : Category) : State :=
  s.send (.notice source category .every 0)

/-- Raise a notice when the condition holds. -/
def State.raiseIf (s : State) (c : Bool) (source : Block) (category : Category) : State :=
  if c then s.raise source category else s

/-- The Screen Controller raises SCREEN, naming the screens that changed (03 R72). -/
def State.raiseScreens (s : State) (changed : ScreenSet) : State :=
  s.send (.notice .screen .screen .every changed)

/-- The port raises PORT for one role (07 R157). -/
def State.raisePort (s : State) (r : Role) : State := s.send (.notice .port .port (.only r) 0)

/-- A block sends the Profile Store a dirty mark (09 R176). -/
def State.markDirty (s : State) (source : Block) : State := s.send (.dirtyMark source false)

/-- Send a dirty mark when the condition holds. -/
def State.markDirtyIf (s : State) (c : Bool) (source : Block) : State := if c then s.markDirty source else s

/-! ### Requests and answers (07 R147, R153, R154) -/

/-- The exchange state of a role. -/
def State.exchange (s : State) (r : Role) : Exchange := s.port.exchanges.get r

/-- Set the exchange state of a role. -/
def State.setExchange (s : State) (r : Role) (e : Exchange) : State :=
  s.withPort { s.port with exchanges := s.port.exchanges.set r e }

/-- R154: the port places an answer in role r's slot. -/
def State.place (s : State) (r : Role) (a : Answer) : State := s.setExchange r (.held a)

/-- An answer without a body (10 R190: every answer whose result is not OK has none). -/
def Answer.bare (result : Result) : Answer := { result := result, body := [] }

/-- OK with a body. -/
def Answer.ok (body : List Byte) : Answer := { result := .ok, body := body }

/-- Role r's request i has been handed to its owner and not yet taken (R147, R153). -/
def State.handed (s : State) (r : Role) (i : Instr) : Bool := s.exchange r == .inFlight (some i)

/-- The owning block takes request i of role r as one act and returns its answer, which the port places. A request that
is not handed on is not there to be taken, and nothing happens (R160, log 1, log 3). -/
def onRequest (i : Instr) (r : Role) (s : State) (act : State → State × Answer) : Host.Outcome State Fault Refusal :=
  .next (if s.handed r i then ((act s).1).place r (act s).2 else s)

/-- The same for the two requests that may reset the part: none places no answer, and the exchange stays IN_FLIGHT
(R160). -/
def onResetRequest (i : Instr) (r : Role) (s : State) (act : State → State × Option Answer) :
    Host.Outcome State Fault Refusal :=
  .next (if s.handed r i then
      match (act s).2 with
      | some a => ((act s).1).place r a
      | none => ((act s).1).setExchange r (.inFlight none)
    else s)

/-- A read: nothing changes but the answer placed. -/
def reading (a : State → Answer) (s : State) : State × Answer := (s, a s)

/-- A refused request changes nothing but the answer placed (00 section 4.6). -/
def refuse (s : State) (result : Result) : State × Answer := (s, .bare result)

/-! ### The authority check (01 R15, 11 R196) -/

/-- The profile is ADULT. -/
def isAdult : Profile → Bool
  | .adult _ => true
  | _ => false

/-- R196: the profile table holds no ADULT profile. -/
def ProfileUnit.noAdult (u : ProfileUnit) : Bool := slots.all fun p => !isAdult u.table[p]

/-- R15: none when a protected request of role r is refused; otherwise the opener it acts under, absent under R196. -/
def State.authority (s : State) (r : Role) : Option (Option Slot) :=
  match s.profiles.windows.get r with
  | some w => some (some w.opener)
  | none => if s.profiles.noAdult then some none else none

/-- A protected request goes on only when it passes the authority check (R15). -/
def underAuthority (r : Role) (s : State) (act : Option Slot → State × Answer) : State × Answer :=
  match s.authority r with
  | none => refuse s .noAuthority
  | some opener => act opener

/-! ### Bytes of a field (10 R190) -/

/-- The byte of a number. -/
def byteOf (n : Nat) : Byte := BitVec.ofNat 8 n

/-- A number in two bytes, least significant first. -/
def le2 (n : Nat) : List Byte := [byteOf n, byteOf (n / 256)]

/-- A number in three bytes, least significant first. -/
def le3 (n : Nat) : List Byte := [byteOf n, byteOf (n / 256), byteOf (n / 65536)]

/-- A Boolean: 0 for no or clear, 1 for yes or set. -/
def boolByte (b : Bool) : Byte := if b then 1 else 0

/-- Two bytes as a field, least significant first. -/
def halfOf (lo hi : Byte) : Half := hi ++ lo

/-- Three bytes as a field, least significant first. -/
def tripleOf (lo mid hi : Byte) : Triple := (hi ++ mid ++ lo).cast (by decide)

/-- A slot given as a byte, in range 0..7. -/
def slotOf (b : Byte) : Option Slot := if h : b.toNat < 8 then some ⟨b.toNat, h⟩ else none

/-- A screen given as a byte, in range 0..3. -/
def screenOf (b : Byte) : Option ScreenNo := if h : b.toNat < 4 then some ⟨b.toNat, h⟩ else none

/-- The number of a role (10 Table 10-1). -/
def roleCode : Role → Byte
  | .console => 0
  | .panel => 1
  | .relay => 2

/-- The number of a role as an offset from the base address (00 Table 2-1). -/
def roleOffset : Role → Nat
  | .console => 0
  | .panel => 1
  | .relay => 2

/-- A count that stays at its limit (05 R120, 07 R157). -/
def saturate (limit n : Nat) : Nat := min (n + 1) limit

end Sys2Proof.Machine
end

