-- ==== Sys2Proof/Machine/Operands.lean ====
section
/-! DEFINITION. The fields of request bodies, records and answers (10 Wire Formats): reading raw fields into the
manual's values, none where a field cannot take the value given, and writing values as bytes. -/

namespace Sys2Proof.Machine

/-! ### Reading -/

/-- The value of a byte that must lie below n. -/
def below (n : Nat) (b : Byte) : Option (Fin n) := if h : b.toNat < n then some ⟨b.toNat, h⟩ else none

/-- A decimal digit from one half of a byte (10 section 10.2). -/
def digitOf (n : Nat) : Option (Fin 10) := if h : n < 10 then some ⟨n, h⟩ else none

/-- The six half bytes of the packed PIN digits, first digit in the high half of the first byte. -/
def pinHalves (p : RawPin) : List Nat :=
  [p.d1.toNat / 16, p.d1.toNat % 16, p.d2.toNat / 16, p.d2.toNat % 16, p.d3.toNat / 16, p.d3.toNat % 16]

/-- All digits of a list of half bytes, none when one is above 9. -/
def digitsOf : List Nat → Option (List (Fin 10))
  | [] => some []
  | n :: rest =>
    match digitOf n, digitsOf rest with
    | some d, some ds => some (d :: ds)
    | _, _ => none

/-- A PIN of 4 to 6 decimal digits; only as many digits as the count are read (10 R190). -/
def pinOf (p : RawPin) : Option (List (Fin 10)) :=
  if 4 ≤ p.count.toNat ∧ p.count.toNat ≤ 6 then digitsOf ((pinHalves p).take p.count.toNat) else none

/-- The PIN argument of SEAT: a count of 0 is an absent PIN (10 R190, 03 R82 step 4). -/
def pinArgument (p : RawPin) : Option (Option (List (Fin 10))) :=
  if p.count = 0 then some none else (pinOf p).map some

/-- A content rating in range (01 R5). -/
def ratingOf (scheme value : Byte) : Option Rating :=
  match below 4 scheme, below 32 value with
  | some s, some v => some { scheme := s, value := v }
  | _, _ => none

/-- A content flag set without reserved bits (10 R190). -/
def flagsOf (b : Byte) : Option FlagSet := if b.toNat < 32 then some (b.setWidth 5) else none

/-- A field whose presence bit may be clear: absent, or read by f (10 R190: an absent field is not checked). -/
def optionalField (present : Bool) (f : Option α) : Option (Option α) :=
  if present then f.map some else some none

/-- A duration of 1..1440 minutes. -/
def durationOf (d : Half) : Option Nat := if 1 ≤ d.toNat ∧ d.toNat ≤ 1440 then some d.toNat else none

/-- A TUNE descriptor with every field in range (03 R57, 10 R191); presence bits 0 rating, 1 flags, 2 duration. -/
def descriptorOf (d : RawDescriptor) : Option Descriptor :=
  if d.presence.toNat < 8 then
    match optionalField (d.presence.getLsbD 0) (ratingOf d.scheme d.value),
        optionalField (d.presence.getLsbD 1) (flagsOf d.flags),
        optionalField (d.presence.getLsbD 2) (durationOf d.duration) with
    | some r, some f, some t => some { contentId := d.contentId, rating := r, flags := f, duration := t }
    | _, _, _ => none
  else none

/-- SCHOOL 0, FREE 1. -/
def dayKindOf (b : Byte) : Option DayKind :=
  if b = 0 then some .school else if b = 1 then some .free else none

/-- SCHOOL 0, FREE 1, BOTH 2. -/
def applicabilityOf (b : Byte) : Option Applicability :=
  if b = 0 then some .school else if b = 1 then some .free else if b = 2 then some .both else none

/-- STEP(n) n, ALLOW 0x40, BLOCK 0x41. -/
def unratedOf (b : Byte) : Option UnratedPolicy :=
  if b = 0x40 then some .allow else if b = 0x41 then some .block else (below 16 b).map .step

/-- The day kinds of a week plan, none when one is bad. -/
def dayKindsOf : List Byte → Option (List DayKind)
  | [] => some []
  | b :: rest =>
    match dayKindOf b, dayKindsOf rest with
    | some k, some ks => some (k :: ks)
    | _, _ => none

/-- A scheme map entry: a step, or 0xFF for UNMAPPED (10 R190). -/
def mapEntryOf (b : Byte) : Option (Option (Fin 16)) :=
  if b = 0xFF then some none else (below 16 b).map some

/-- The entries of a scheme map, none when one is bad. -/
def mapEntriesOf : List Byte → Option (List (Option (Fin 16)))
  | [] => some []
  | b :: rest =>
    match mapEntryOf b, mapEntriesOf rest with
    | some e, some es => some (e :: es)
    | _, _ => none

/-- A label: the characters before the first 0x00, each from 0x20 to 0x7E, and 0x00 after it (10 R195). -/
def labelOf : List Byte → Option (List Byte)
  | [] => some []
  | b :: rest =>
    if b = 0 then (if rest.all (· == 0) then some [] else none)
    else if 0x20 ≤ b.toNat ∧ b.toNat ≤ 0x7E then (labelOf rest).map (b :: ·)
    else none

/-- A curfew window in range, with start different from end (01 R2, R17). -/
def windowOf (w : RawWindow) : Option CurfewWindow :=
  if w.start.toNat < 1440 ∧ w.stop.toNat < 1440 ∧ w.start ≠ w.stop then
    (applicabilityOf w.applies).map fun a => { start := w.start.toNat, stop := w.stop.toNat, applies := a }
  else none

/-- Curfew windows, none when one is bad. -/
def windowsOf : List RawWindow → Option (List CurfewWindow)
  | [] => some []
  | w :: rest =>
    match windowOf w, windowsOf rest with
    | some x, some xs => some (x :: xs)
    | _, _ => none

/-- The PIN choice of an edit (01 R17). -/
inductive PinChoice where
  | keep
  | remove
  | fresh (pin : List (Fin 10))
  deriving DecidableEq, Repr

/-- KEEP 0, NONE 1, a new PIN of 4, 5 or 6 digits (10 Table 10-7); other counts are refused. -/
def pinChoiceOf (p : RawPin) : Option PinChoice :=
  if p.count = 0 then some .keep else if p.count = 1 then some .remove else (pinOf p).map .fresh

/-- The child part of an edit image, every field in range (01 Table 1-2, 10 Table 10-7). -/
def childPartOf (e : EditImage) : Option ChildPart :=
  if e.school.toNat ≤ 1440 ∧ e.free.toNat ≤ 1440 ∧ e.bonusCap.toNat ≤ 240 ∧ e.modes.toNat < 4 ∧ e.lead.toNat ≤ 30 ∧
      e.grace.toNat ≤ 600 ∧ e.windowCount.toNat ≤ 3 then
    (windowsOf (e.windows.take e.windowCount.toNat)).map fun ws =>
      { school := e.school.toNat, free := e.free.toNat, bonusCap := e.bonusCap.toNat
        mode := if e.modes.getLsbD 0 then .each else .shared
        lead := e.lead.toNat
        close := if e.modes.getLsbD 1 then .atBoundary else .atOnce
        grace := e.grace.toNat, windows := ws }
  else none

/-- The common part of an edit image but for the PIN, which the edit supplies (01 Table 1-1). -/
def commonPartOf (e : EditImage) : Option CommonPart :=
  match labelOf (e.label.take 12), below 16 e.ceiling, flagsOf e.blocked, unratedOf e.unrated with
  | some l, some c, some f, some u =>
    if 1 ≤ e.seatLimit.toNat ∧ e.seatLimit.toNat ≤ 4 then
      some { label := l, pin := none, ceiling := c, blocked := f, unrated := u, seatLimit := e.seatLimit.toNat }
    else none
  | _, _, _, _ => none

/-- A well-formed record of kind CHILD or ADULT (01 R17 step 4): its common part without PIN, the PIN choice, and the
child part for CHILD. For ADULT the child part is not examined. -/
structure Edit where
  common : CommonPart
  choice : PinChoice
  child : Option ChildPart
  deriving DecidableEq, Repr

/-- Reading an edit image (01 R17 step 4). Kinds: CHILD 1, ADULT 2. -/
def editOf (e : EditImage) : Option Edit :=
  match commonPartOf e, pinChoiceOf e.pin with
  | some c, some p =>
    if e.kind = 1 then (childPartOf e).map fun k => { common := c, choice := p, child := some k }
    else if e.kind = 2 then some { common := c, choice := p, child := none }
    else none
  | _, _ => none

/-! ### Writing -/

/-- SCHOOL 0, FREE 1. -/
def dayKindByte : DayKind → Byte
  | .school => 0
  | .free => 1

/-- SCHOOL 0, FREE 1, BOTH 2. -/
def applicabilityByte : Applicability → Byte
  | .school => 0
  | .free => 1
  | .both => 2

/-- STEP(n) n, ALLOW 0x40, BLOCK 0x41. -/
def unratedByte : UnratedPolicy → Byte
  | .allow => 0x40
  | .block => 0x41
  | .step n => byteOf n

/-- NONE 0, VIEW 1, OVERRUN 2. -/
def chargeByte : ChargeKind → Byte
  | .nothing => 0
  | .view => 1
  | .overrun => 2

/-- OUT 0, IN 1. -/
def curfewByte : CurfewState → Byte
  | .outside => 0
  | .inside => 1

/-- LOCAL 0, REMOTE 1. -/
def screenKindByte : ScreenKind → Byte
  | .localKind => 0
  | .remoteKind => 1

/-- DARK 0 to EXPIRED 6. -/
def screenStateByte : ScreenState → Byte
  | .dark => 0
  | .waiting => 1
  | .showing => 2
  | .winding => 3
  | .closing => 4
  | .refused => 5
  | .expired => 6

/-- Absent 0, RATING 1 to CLOCK 6. -/
def reasonByte : Option Reason → Byte
  | none => 0
  | some .rating => 1
  | some .flags => 2
  | some .unrated => 3
  | some .allowance => 4
  | some .curfew => 5
  | some .clock => 6

/-- AWAKE 0, STANDBY 1. -/
def boxByte : BoxState → Byte
  | .awake => 0
  | .standby => 1

/-- IDLE 0 to HANDOFF 4. -/
def receiverByte : ReceiverState → Byte
  | .idle => 0
  | .header => 1
  | .body => 2
  | .skip => 3
  | .handoff => 4

/-- IDLE 1, WRITING 2, FAILED 3; LOADING is never reported (09 R186, log 19) and has no value. -/
def storeStateByte : StoreState → Byte
  | .loading => 0
  | .idle => 1
  | .writing => 2
  | .failed => 3

/-- Absent 0, first 1, retry 2. -/
def attemptByte : Option Attempt → Byte
  | none => 0
  | some .first => 1
  | some .retry => 2

/-- An absent resolved step or UNMAPPED entry is 0xFF (10 R190). -/
def stepByte : Option (Fin 16) → Byte
  | none => 0xFF
  | some n => byteOf n

/-- An absent slot, opener or granter is 0xFF (10 R190). -/
def slotByte : Option Slot → Byte
  | none => 0xFF
  | some p => byteOf p

/-- The seconds of a timer, 0 when absent (10 R190). -/
def timerSeconds : Option Nat → Nat
  | none => 0
  | some n => secondsShown n

/-- The value of each result code (10 Table 10-4). -/
def resultByte : Result → Byte
  | .ok => 0x00
  | .nothing => 0x01
  | .notReady => 0x02
  | .unknownRequest => 0x10
  | .badLength => 0x11
  | .notPermitted => 0x12
  | .noAuthority => 0x20
  | .badPin => 0x21
  | .lockedOut => 0x22
  | .badValue => 0x30
  | .wrongState => 0x31
  | .seatLimit => 0x32
  | .inUse => 0x33
  | .listFull => 0x34
  | .notFound => 0x35
  | .standby => 0x36

/-- Presence, scheme, native value and flags of a content; absent bytes are 0 (10 R190). -/
def contentBytes (rating : Option Rating) (flags : Option FlagSet) : List Byte :=
  [boolByte rating.isSome ||| (boolByte flags.isSome <<< 1)] ++
  (match rating with
    | some r => [byteOf r.scheme, byteOf r.value]
    | none => [0, 0]) ++
  [(flags.getD 0).setWidth 8]

/-- An event block of an event record (10 Table 10-3). -/
def eventBlock (e : EventRecord) : List Byte :=
  le2 e.id.toNat ++ le2 e.start.day ++ le2 e.start.minute ++ le2 e.duration ++ contentBytes e.rating e.flags

/-- An event block of a descriptor: the start is 0, and an absent duration is 0 (10 Table 10-3). -/
def descriptorBlock (d : Descriptor) : List Byte :=
  le2 d.contentId.toNat ++ [0, 0, 0, 0] ++ le2 (d.duration.getD 0) ++ contentBytes d.rating d.flags

/-- An event block sent as 0 (10 R191). -/
def zeroBlock : List Byte := List.replicate 12 0

/-- The label of a profile image: the characters, then 0x00 fill to twelve bytes. -/
def labelBytes (l : List Byte) : List Byte := l ++ List.replicate (12 - l.length) 0

/-- One curfew window of a profile image. -/
def windowBytes (w : CurfewWindow) : List Byte := le2 w.start ++ le2 w.stop ++ [applicabilityByte w.applies]

/-- Bytes 21 to 45 of a profile image for a CHILD; windows beyond the count are 0 (10 R195). -/
def childBytes (k : ChildPart) : List Byte :=
  le2 k.school ++ le2 k.free ++ [byteOf k.bonusCap] ++
  [boolByte (k.mode == .each) ||| (boolByte (k.close == .atBoundary) <<< 1)] ++ [byteOf k.lead] ++ le2 k.grace ++
  [byteOf k.windows.length] ++ k.windows.flatMap windowBytes ++ List.replicate (15 - 5 * k.windows.length) 0

/-- Bytes 1 to 20 of a read image, with PIN present, failure counter and lockout seconds (10 Table 10-7). -/
def commonBytes (c : CommonPart) (failures : Nat) (lockout : Option Nat) : List Byte :=
  labelBytes c.label ++ [boolByte c.pin.isSome] ++ [byteOf failures] ++ le2 (timerSeconds lockout) ++
  [byteOf c.ceiling, c.blocked.setWidth 8, unratedByte c.unrated, byteOf c.seatLimit]

/-- The read image of READ_PROFILE, 46 bytes (10 R195). -/
def readImage (p : Profile) (failures : Nat) (lockout : Option Nat) : List Byte :=
  match p with
  | .empty => List.replicate 46 0
  | .child c k => [1] ++ commonBytes c failures lockout ++ childBytes k
  | .adult c => [2] ++ commonBytes c failures lockout ++ List.replicate 25 0

/-- A pass entry of LIST_PASSES (10 Table 10-3), the present time given. -/
def passEntry (now : SecondTime) (p : Pass) : List Byte :=
  (match p.scope with
    | .curfew q => [byteOf q, byteOf p.id, 0, 0, 0, 0]
    | .content n (.event service id) => [0x10 ||| byteOf n, byteOf p.id] ++ le2 service.toNat ++ le2 id.toNat
    | .content n (.noEvent service) => [0x20 ||| byteOf n, byteOf p.id] ++ le2 service.toNat ++ [0, 0]
    | .content n (.source id) => [0x30 ||| byteOf n, byteOf p.id, 0, 0] ++ le2 id.toNat) ++
  le2 p.expiry.day ++ le3 p.expiry.second ++ [slotByte p.granter] ++
  le3 (min (secondsAhead now p.expiry) 16777215)

end Sys2Proof.Machine
end

