-- ==== Sys2Proof/Machine/Flags.lean ====
section
/-! DEFINITION. The flags and sets the part computes: content verdicts, notice sets and alert lines, gates, the marks of
an account. -/

namespace Sys2Proof.Machine

/-! ### Content (01 R5, R6) -/

/-- R5: a rating resolves to a step by the maps as they stand; none is unrated. -/
def resolve (maps : Vector SchemeMap 4) : Option Rating → Option (Fin 16)
  | none => none
  | some r => maps[r.scheme][r.value]

/-- The content verdict (R6). -/
inductive Verdict where
  | pass | unrated | rating | flags
  deriving DecidableEq, Repr

/-- Table 1-3: the step compared with the ceiling; none is no comparison. -/
def comparedStep (policy : UnratedPolicy) : Option (Fin 16) → Option (Fin 16)
  | some k => some k
  | none =>
    match policy with
    | .step n => some n
    | .allow => none
    | .block => none

/-- The compared step is above the ceiling. -/
def aboveCeiling (ceiling : Fin 16) : Option (Fin 16) → Bool
  | none => false
  | some k => decide (ceiling < k)

/-- R6: the verdict of a profile for a content, given the content's resolved step and its flags. -/
def verdict (c : CommonPart) (step : Option (Fin 16)) (flags : Option FlagSet) : Verdict :=
  if step = none ∧ c.unrated = .block then .unrated
  else if aboveCeiling c.ceiling (comparedStep c.unrated step) then .rating
  else if (flags.getD 0) &&& c.blocked ≠ 0 then .flags
  else .pass

/-- The common part of a profile that is not EMPTY. -/
def commonOf : Profile → Option CommonPart
  | .empty => none
  | .child c _ => some c
  | .adult c => some c

/-- The child part of a CHILD profile. -/
def childOf : Profile → Option ChildPart
  | .child _ k => some k
  | _ => none

/-! ### Screens -/

/-- R58: the gate of a screen in this state is open. -/
def gateOpen : ScreenState → Bool
  | .showing | .winding | .closing => true
  | .dark | .waiting | .refused | .expired => false

/-- GATEn (03 R58). -/
def State.gate (s : State) (n : ScreenNo) : Bool := gateOpen s.screens.cells[n].state

/-- R56: a screen that is not DARK is live. -/
def Screen.live (x : Screen) : Bool := x.state != .dark

/-- R59: the charge kind of a state and a seated profile. An EMPTY seat does not arise (log 19). -/
def chargeKind (st : ScreenState) (p : Profile) : ChargeKind :=
  match childOf p with
  | none => .nothing
  | some _ =>
    match st with
    | .showing | .winding => .view
    | .closing => .overrun
    | .dark | .waiting | .refused | .expired => .nothing

/-- R78: the box state derived from the requested box state and the standby level. -/
def ScreenController.box (c : ScreenController) : BoxState :=
  if c.requested = .standby ∨ c.standbyLevel then .standby else .awake

/-- R72: a change of a screen is a change of its configuration, seat, state, reason, service, descriptor, current-event
copy or override. -/
def screenDiffers (a b : Screen) : Bool :=
  a.kind != b.kind || a.guideWait != b.guideWait || a.seat != b.seat || a.state != b.state || a.reason != b.reason ||
  a.service != b.service || a.descriptor != b.descriptor || a.event != b.event || a.override != b.override

/-- The set holding one screen. -/
def screenBit (n : ScreenNo) : ScreenSet := 1#4 <<< n.val

/-- The screens that changed between two controllers (R72). -/
def changedScreens (a b : ScreenController) : ScreenSet :=
  screenNumbers.foldl (fun acc n => if screenDiffers a.cells[n] b.cells[n] then acc ||| screenBit n else acc) 0

/-! ### Notices (08 R163, R165) -/

/-- The set holding one category (10 Table 10-1). -/
def categoryBit : Category → NoticeSet
  | .screen => 1#6
  | .time => 2#6
  | .guide => 4#6
  | .authority => 8#6
  | .store => 16#6
  | .port => 32#6

/-- Whether a notice concerns a role (R163). -/
def concerns : Concerned → Role → Bool
  | .every, _ => true
  | .only q, r => q == r

/-- R165: a role's alert line is asserted if and only if its pending set holds a category that its mask does not; from
the beginning of a load to its end every line is released. -/
def State.alert (s : State) (r : Role) : Bool :=
  !s.loading && (s.signal.notices.get r &&& ~~~(s.signal.masks.get r) != 0)

/-- R168: the asserted field of an input line. -/
def Line.asserted (l : Line) : Bool :=
  match l.setting.polarity with
  | .high => l.level
  | .low => !l.level

/-- R170: the standby level is asserted while a line with function STANDBY is asserted. -/
def SignalUnit.standbyLevel (u : SignalUnit) : Bool :=
  screenNumbers.any fun i => u.lines[i].setting.function == .standby && Line.asserted u.lines[i]

/-! ### Allowance accounts (02 R31, R32) -/

/-- The profile's allowance for a day kind, in seconds. -/
def Account.base (k : DayKind) (a : Account) : Nat :=
  match k with
  | .school => a.terms.school * 60
  | .free => a.terms.free * 60

/-- The larger of used and base + bonus. -/
def Account.entitlement (k : DayKind) (a : Account) : Nat := max a.used (a.base k + a.bonus)

/-- entitlement − used. -/
def Account.remaining (k : DayKind) (a : Account) : Nat := a.entitlement k - a.used

/-- remaining is 0. -/
def Account.exhausted (k : DayKind) (a : Account) : Bool := a.remaining k == 0

/-- R32: allowance warned is set and remaining is at most the warning lead × 60. -/
def Account.warningInForce (k : DayKind) (a : Account) : Bool := a.warned && decide (a.remaining k ≤ a.terms.lead * 60)

/-- R41: the window applies to the day kind. -/
def appliesTo (w : CurfewWindow) (k : DayKind) : Bool :=
  match w.applies, k with
  | .both, _ => true
  | .school, .school => true
  | .free, .free => true
  | .school, .free => false
  | .free, .school => false

/-- R41: the window covers minute m, given today's and yesterday's kinds. -/
def windowCovers (today yesterday : DayKind) (m : Nat) (w : CurfewWindow) : Bool :=
  if w.start < w.stop then decide (w.start ≤ m ∧ m < w.stop) && appliesTo w today
  else (decide (w.start ≤ m) && appliesTo w today) || (decide (m < w.stop) && appliesTo w yesterday)

/-- R43: a curfew warning is in force: a window's flag is set, it applies to today's kind, and it starts after m. -/
def Account.curfewWarningInForce (today : DayKind) (m : Nat) (a : Account) : Bool :=
  (a.terms.windows.zip a.curfewWarned).any fun x => x.2 && appliesTo x.1 today && decide (m < x.1.start)

/-- R30: today's kind. -/
def MeteringUnit.today (u : MeteringUnit) : DayKind := u.override.getD u.plan[u.weekday]

/-- R27: the minute of day. -/
def MeteringUnit.minute (u : MeteringUnit) : Nat := u.second / 60

/-- R35: the number of charge entries holding the profile and the kind. -/
def MeteringUnit.chargeCount (u : MeteringUnit) (p : Slot) (k : ChargeKind) : Nat :=
  (screenNumbers.filter fun n => u.charges[n].profile == p && u.charges[n].kind == k).length

end Sys2Proof.Machine
end

