-- ==== Sys2Proof/Machine/Passes.lean ====
section
/-! DEFINITION. The Pass List (04): the order of passes, grants, removals and announcements. -/

namespace Sys2Proof.Machine

/-! ### Content identity (03 R57) -/

/-- R57: the content identity of a live screen's record. -/
def identityOf (x : Screen) : Option ContentId :=
  match x.service with
  | none => none
  | some v =>
    if v = 0 then x.descriptor.map fun d => .source d.contentId
    else match x.event with
      | some e => some (.event v e.id)
      | none => some (.noEvent v)

/-- R88: the list holds a CONTENT pass that covers screen n with the identity. -/
def PassList.covers (l : PassList) (n : ScreenNo) (identity : Option ContentId) : Bool :=
  match identity with
  | none => false
  | some c => l.held.any fun x => x.scope == .content n c

/-! ### Order and expiry (R89, R90) -/

/-- R90: the expiry is reached at the present time. -/
def expiryReached (now : SecondTime) (p : Pass) : Bool := decide (secondsAhead p.expiry now < halfSeconds)

/-- R90: the place of an expiry around the present: reached expiries first, then those ahead, each in order. -/
def expiryKey (now expiry : SecondTime) : Nat := (secondsAhead now expiry + (halfSeconds - 1)) % cycleSeconds

/-- R94, R89: insertion after every held pass whose expiry is not later. -/
def insertPass (now : SecondTime) (x : Pass) : List Pass → List Pass
  | [] => [x]
  | y :: ys =>
    if (y :: ys).any fun z => decide (expiryKey now z.expiry ≤ expiryKey now x.expiry) then y :: insertPass now x ys
    else x :: y :: ys

/-- R89: the ids in the order searched, from the next id upward, wrapping from 255 to 1. -/
def idsFrom (next : Nat) : List Nat := (List.range 255).map fun i => (next - 1 + i) % 255 + 1

/-- R89: the first id that no held pass uses. -/
def PassList.freeId (l : PassList) : Nat :=
  ((idsFrom l.nextId).find? fun i => l.held.all fun x => x.id != i).getD l.nextId

/-- R89: the next id after the id taken. -/
def idAfter (i : Nat) : Nat := if i = 255 then 1 else i + 1

/-! ### Announcements (R99) -/

/-- What a message names of a pass. -/
def noteOf (p : Pass) : PassNote := { id := p.id, scope := p.scope }

/-- R99: PASS_ADDED, to the Screen Controller and for CURFEW also to the Metering Unit. -/
def announceAdded (p : Pass) : List Instr :=
  match p.scope with
  | .content _ _ => [.passAdded (noteOf p)]
  | .curfew q => [.curfewPassChange p.id q, .passAdded (noteOf p)]

/-- R99: PASS_REMOVED, to the same blocks. -/
def announceRemoved (p : Pass) : List Instr :=
  match p.scope with
  | .content _ _ => [.passRemoved (noteOf p)]
  | .curfew q => [.curfewPassChange p.id q, .passRemoved (noteOf p)]

/-- The passes in gone leave the list in list order, those in kept stay (R95, R97, R98). -/
def State.dropPasses (s : State) (gone kept : List Pass) : State :=
  ((s.withPasses { s.passes with held := kept }).sendAll (gone.flatMap announceRemoved)).raiseIf
    (!gone.isEmpty) .passes .authority

/-- R95, R96: every reached pass leaves from the head of the list. -/
def State.expirePasses (s : State) : State :=
  s.dropPasses (s.passes.held.takeWhile (expiryReached s.now)) (s.passes.held.dropWhile (expiryReached s.now))

/-- The passes that a condition names leave the list (R97, R98). -/
def State.removeWhere (s : State) (c : Pass → Bool) : State :=
  s.dropPasses (s.passes.held.filter c) (s.passes.held.filter fun p => !c p)

/-! ### Grants -/

/-- R94: the answer to an accepted grant. -/
def grantBody (p : Pass) (replaced : Bool) : List Byte :=
  [byteOf p.id] ++ le2 p.expiry.day ++ le3 p.expiry.second ++ [boolByte replaced]

/-- R94: a new pass is entered into the list. -/
def enterPass (scope : PassScope) (expiry : SecondTime) (granter : Option Slot) (s : State) : State × Answer :=
  match s.passes.held.find? fun x => x.scope == scope with
  | some old =>
    let p : Pass := { id := old.id, scope := scope, expiry := expiry, granter := granter }
    ((s.withPasses { s.passes with
        held := insertPass s.now p (s.passes.held.filter fun x => x.scope != scope) }).raise .passes .authority,
      .ok (grantBody p true))
  | none =>
    if Config.passLimit ≤ s.passes.held.length then refuse s .listFull
    else
      let p : Pass := { id := s.passes.freeId, scope := scope, expiry := expiry, granter := granter }
      (((s.withPasses { held := insertPass s.now p s.passes.held, nextId := idAfter p.id }).sendAll
        (announceAdded p)).raise .passes .authority, .ok (grantBody p false))

/-- R92, Table 4-3: the expiry of a CONTENT pass for the screen's content. -/
def contentExpiry (now : SecondTime) (x : Screen) : SecondTime :=
  match x.descriptor with
  | some d =>
    match d.duration with
    | some m => secondPlus now (m * 60)
    | none => secondPlus now 14400
  | none =>
    match x.event with
    | some e =>
      { day := (minutePlus e.start e.duration).day, second := (minutePlus e.start e.duration).minute * 60 }
    | none => secondPlus now 14400

/-- R92: a CONTENT grant for screen n. -/
def grantContent (n : ScreenNo) (granter : Option Slot) (s : State) : State × Answer :=
  let x := s.screens.cells[n]
  if x.state = .dark ∨ x.state = .waiting then refuse s .wrongState
  else
    match identityOf x with
    | none => refuse s .wrongState
    | some c =>
      let expiry := contentExpiry s.now x
      if secondsAhead expiry s.now < halfSeconds then refuse s .wrongState
      else enterPass (.content n c) expiry granter s

/-- R93: a CURFEW grant for profile p. -/
def grantCurfew (p : Slot) (expiry : SecondTime) (granter : Option Slot) (s : State) : State × Answer :=
  if (childOf s.profiles.table[p]).isNone then refuse s .notFound
  else if 1 ≤ secondsAhead s.now expiry ∧ secondsAhead s.now expiry ≤ 43200 then enterPass (.curfew p) expiry granter s
  else refuse s .badValue

/-- R91 step 2: a pass kind, its target and its end time, as a GRANT_PASS asks for them. -/
inductive GrantAsked where
  | content (n : ScreenNo)
  | curfew (p : Slot) (expiry : SecondTime)
  deriving DecidableEq, Repr

/-- R91 step 2: kinds CONTENT 0 and CURFEW 1. -/
def grantAsked (kind target : Byte) (endTime : Option RawTime) : Option GrantAsked :=
  if kind = 0 then
    match endTime with
    | none => (screenOf target).map .content
    | some _ => none
  else if kind = 1 then
    match endTime, slotOf target with
    | some t, some p =>
      if t.second.toNat < 86400 then some (.curfew p { day := t.day.toNat, second := t.second.toNat }) else none
    | _, _ => none
  else none

/-- GRANT_PASS (R91). -/
def execGrantPass (r : Role) (kind target : Byte) (endTime : Option RawTime) (s : State) :
    Host.Outcome State Fault Refusal :=
  onRequest (.grantPass r kind target endTime) r s fun s => underAuthority r s fun opener =>
    match grantAsked kind target endTime with
    | none => refuse s .badValue
    | some asked =>
      if s.metering.running then
        match asked with
        | .content n => grantContent n opener s
        | .curfew p t => grantCurfew p t opener s
      else refuse s .wrongState

/-- REVOKE_PASS (R97). -/
def execRevokePass (r : Role) (id : Byte) (s : State) : Host.Outcome State Fault Refusal :=
  onRequest (.revokePass r id) r s fun s => underAuthority r s fun _ =>
    if id = 0 then refuse s .badValue
    else if s.passes.held.any fun p => p.id == id.toNat then (s.removeWhere fun p => p.id == id.toNat, .ok [])
    else refuse s .notFound

/-- LIST_PASSES (R100). -/
def execListPasses (r : Role) (s : State) : Host.Outcome State Fault Refusal :=
  onRequest (.listPasses r) r s (reading fun s =>
    .ok ([byteOf s.passes.held.length] ++ s.passes.held.flatMap (passEntry s.now)))

/-! ### Events -/

/-- EXPIRY_CHECK (R95), while the clock is RUNNING (log 9). -/
def execExpiryCheck (s : State) : Host.Outcome State Fault Refusal :=
  onOccasion (s.awake && s.metering.running) s fun s => s.expirePasses

/-- CLOCK_SET taken by the Pass List (R96). -/
def execPassListClockSet (s : State) : Host.Outcome State Fault Refusal :=
  onMessage .passListClockSet s fun s => s.expirePasses

/-- The pass is a CONTENT pass for screen n. -/
def contentFor (n : ScreenNo) (p : Pass) : Bool :=
  match p.scope with
  | .content m _ => m == n
  | .curfew _ => false

/-- DROP_SCREEN (R98). -/
def execDropScreen (n : ScreenNo) (s : State) : Host.Outcome State Fault Refusal :=
  onMessage (.dropScreen n) s fun s => s.removeWhere (contentFor n)

/-- DROP_PROFILE (R98). -/
def execDropProfile (p : Slot) (s : State) : Host.Outcome State Fault Refusal :=
  onMessage (.dropProfile p) s fun s => s.removeWhere fun x => x.scope == .curfew p

end Sys2Proof.Machine
end

