-- ==== Sys2Proof/Machine/Admission.lean ====
section
/-! DEFINITION. The admission test (03 R60 to R63), the charges that follow a screen's state (R59), and the acts on one
screen that the events and requests share. -/

namespace Sys2Proof.Machine

/-! ### Reading the guide -/

/-- R126: the entry held for a service. -/
def GuideCache.entryFor (c : GuideCache) (service : Half) : Option Entry :=
  (c.directory.toList.filterMap id).find? fun e => e.service == service

/-- R126: the service's current event, as the cache tracks it. -/
def GuideCache.currentOf (c : GuideCache) (service : Half) : Option EventRecord :=
  (c.entryFor service).bind fun e => e.current

/-! ### Judging -/

/-- The outcome of a test (R60, R61). -/
inductive Judgement where
  | admitted (winding : Bool)
  | refused (r : Reason)
  | expired (r : Reason)
  deriving DecidableEq, Repr

/-- R60: the current-event copy of a broadcast screen is refreshed from the cache. -/
def refreshed (c : GuideCache) (x : Screen) : Screen :=
  match x.service with
  | some v => if v = 0 then x else { x with event := c.currentOf v }
  | none => x

/-- The rating of a screen's content. -/
def contentRating (x : Screen) : Option Rating :=
  match x.descriptor with
  | some d => d.rating
  | none => x.event.bind fun e => e.rating

/-- The flags of a screen's content. -/
def contentFlags (x : Screen) : Option FlagSet :=
  match x.descriptor with
  | some d => d.flags
  | none => x.event.bind fun e => e.flags

/-- R60: the refusal a verdict gives; none goes on to the time part. -/
def refusalOf : Verdict → Option Reason
  | .unrated => some .unrated
  | .rating => some .rating
  | .flags => some .flags
  | .pass => none

/-- R60: the content check of a seated profile. An EMPTY seat does not arise; it is refused as unrated (log 19). -/
def contentRefusal (p : Profile) (step : Option (Fin 16)) (flags : Option FlagSet) : Option Reason :=
  match commonOf p with
  | none => some .unrated
  | some c => refusalOf (verdict c step flags)

/-- R61 steps 2 to 5 for an account. -/
def accountJudgement (u : MeteringUnit) (a : Account) : Judgement :=
  if a.exhausted u.today then .expired .allowance
  else if a.curfew = .inside then .expired .curfew
  else .admitted (a.warningInForce u.today || a.curfewWarningInForce u.today u.minute)

/-- R61: the time part for slot p; an ADULT seat skips it. -/
def timeJudgement (table : Vector Profile 8) (u : MeteringUnit) (p : Slot) : Judgement :=
  if (childOf table[p]).isNone then .admitted false
  else if !u.running then .expired .clock
  else
    match u.accounts[p] with
    | none => .expired .allowance
    | some a => accountJudgement u a

/-- R60: the record with its content as the test reads it: copy, resolved step, override. A test made in the act that
sends DROP_SCREEN counts no CONTENT pass (noPass). -/
def State.contentRead (s : State) (n : ScreenNo) (noPass : Bool) : Screen :=
  let x := refreshed s.cache s.screens.cells[n]
  { x with
    step := resolve s.profiles.maps (contentRating x)
    override := !noPass && s.passes.covers n (identityOf x) }

/-- R60, R61: the outcome for a record whose content has been read. -/
def State.judge (s : State) (x : Screen) : Judgement :=
  match if x.override then none else contentRefusal s.profiles.table[x.seat] x.step (contentFlags x) with
  | some r => .refused r
  | none => timeJudgement s.profiles.table s.metering x.seat

/-! ### Applying (R62, Table 3-2) -/

/-- Move a record to a state with its reason and timer. -/
def Screen.become (x : Screen) (st : ScreenState) (r : Option Reason) (timer : Option Nat) : Screen :=
  { x with state := st, reason := r, timer := timer }

/-- Table 3-2: leaving SHOWING or WINDING for a time reason. -/
def closeFor (p : Profile) (r : Reason) (x : Screen) : Screen :=
  match childOf p with
  | some k =>
    if r ≠ .clock ∧ k.close = .atBoundary ∧ 0 < k.grace then x.become .closing (some r) (some k.grace)
    else x.become .expired (some r) none
  | none => x.become .expired (some r) none

/-- Table 3-2: an EXPIRED outcome on a CLOSING screen. EXPIRED(CLOCK) does not arise there (log 19). -/
def stayClosing (r : Reason) (x : Screen) : Screen :=
  if r = .clock then x.become .expired (some r) none else { x with reason := some r }

/-- Table 3-2: an outcome applied to a record, from an open or a closed gate. -/
def applied (fromOpen : Bool) (p : Profile) (x : Screen) : Judgement → Screen
  | .admitted winding => x.become (if winding then .winding else .showing) none none
  | .refused r => x.become .refused (some r) none
  | .expired r =>
    if fromOpen then (if x.state = .closing then stayClosing r x else closeFor p r x)
    else x.become .expired (some r) none

/-! ### Acts on one screen -/

/-- Replace one screen record. -/
def State.setScreen (s : State) (n : ScreenNo) (x : Screen) : State :=
  s.withScreens { s.screens with cells := put s.screens.cells n x }

/-- R59: whether a pair differs from the last pair sent; two pairs of kind NONE count as the same. -/
def pairDiffers (a b : ChargeEntry) : Bool := a != b && !(a.kind == .nothing && b.kind == .nothing)

/-- R59: the charge kind follows the state and seat, and CHARGE is sent when the pair differs from the last one sent. -/
def State.settleCharge (s : State) (n : ScreenNo) : State :=
  let x := s.screens.cells[n]
  let pair : ChargeEntry := { profile := x.seat, kind := chargeKind x.state s.profiles.table[x.seat] }
  if pairDiffers pair x.lastPair then
    (s.setScreen n { x with charge := pair.kind, lastPair := pair }).send (.charge n pair.profile pair.kind)
  else s.setScreen n { x with charge := pair.kind }

/-- R59, R64, R69, R77: a charge of kind VIEW or OVERRUN ends: CHARGE(n, p, NONE) is sent. -/
def State.endCharge (s : State) (n : ScreenNo) : State :=
  let x := s.screens.cells[n]
  if x.charge = .nothing then s
  else
    (s.setScreen n { x with charge := .nothing, lastPair := { profile := x.seat, kind := .nothing } }).send
      (.charge n x.seat .nothing)

/-- R60 to R62: screen n is tested, the outcome applied, and its charge settled. -/
def State.test (s : State) (n : ScreenNo) (fromOpen noPass : Bool) : State :=
  let x := s.contentRead n noPass
  (s.setScreen n (applied fromOpen s.profiles.table[x.seat] x (s.judge x))).settleCharge n

/-- R73 to R75: a screen that is live and not WAITING is tested, from the gate it has. -/
def State.retest (s : State) (n : ScreenNo) : State :=
  if s.screens.cells[n].state = .dark ∨ s.screens.cells[n].state = .waiting then s
  else s.test n (s.gate n) false

/-- The screens that a condition on their records names are tested, 0 to 3 in order, the model's choice (log 38). -/
def State.retestWhere (s : State) (c : ScreenNo → Screen → Bool) : State :=
  screenNumbers.foldl (fun t n => if c n t.screens.cells[n] then t.retest n else t) s

/-- R69: a live screen goes DARK; the seat is kept. -/
def State.darken (s : State) (n : ScreenNo) : State :=
  if s.screens.cells[n].live then
    let t := s.endCharge n
    let x := t.screens.cells[n]
    (t.setScreen n { x with
      state := .dark, reason := none, timer := none, service := none, descriptor := none, event := none
      override := false, step := none }).send (.dropScreen n)
  else s

/-- R67: a CLOSING screen goes to EXPIRED with its CLOSING reason; any other screen is left alone. -/
def State.endClosing (s : State) (n : ScreenNo) : State :=
  if s.screens.cells[n].state = .closing then
    (s.setScreen n (s.screens.cells[n].become .expired s.screens.cells[n].reason none)).settleCharge n
  else s

/-- R72: an act of the Screen Controller that began at before raises one SCREEN notice for the screens it changed. -/
def State.tellChanges (s : State) (before : ScreenController) : State :=
  if changedScreens before s.screens = 0 then s else s.raiseScreens (changedScreens before s.screens)

/-- R72: an act of the Screen Controller, with its SCREEN notice. -/
def State.screenAct (s : State) (act : State → State) : State := (act s).tellChanges s.screens

/-! ### Standby (R78 to R80) -/

/-- R79 step 2: every screen's seat becomes 0. -/
def ScreenController.unseated (c : ScreenController) : ScreenController :=
  { c with cells := screenNumbers.foldl (fun v n => put v n { v[n] with seat := 0 }) c.cells }

/-- R79: entry to STANDBY. DROP_SCREEN is sent for each screen, live or not, once; screens 0 to 3 in order, each with its
CHARGE before its DROP_SCREEN, the model's choice (log 38). -/
def State.enterStandby (s : State) : State :=
  let dark := screenNumbers.foldl (fun t n => if t.screens.cells[n].live then t.darken n else t.send (.dropScreen n)) s
  let t := (dark.withScreens dark.screens.unseated).send .standbyEntryReport
  t.raiseScreens (changedScreens s.screens t.screens)

/-- R78: an input of the box state is replaced; entry or departure follows when the box state changes. -/
def State.setBoxInputs (s : State) (requested : BoxState) (level : Bool) : State :=
  let c : ScreenController := { s.screens with requested := requested, standbyLevel := level }
  if s.screens.box = c.box then s.withScreens c
  else if c.box = .standby then (s.withScreens c).enterStandby
  else (s.withScreens c).raiseScreens 0

end Sys2Proof.Machine
end

