-- ==== Sys2Proof/Machine/Cache.lean ====
section
/-! DEFINITION. The Guide Cache (06): reckoning of records, the commit and its completion, current events, lookups. -/

namespace Sys2Proof.Machine

/-! ### Lists in order -/

/-- Insertion before the first element whose key is larger. -/
def insertBy (key : α → Nat) (x : α) : List α → List α
  | [] => [x]
  | y :: ys => if key x < key y then x :: y :: ys else y :: insertBy key x ys

/-- A list in rising order of a key; equal keys keep their order. -/
def sortBy (key : α → Nat) (xs : List α) : List α := xs.foldl (fun acc x => insertBy key x acc) []

/-! ### Reckoning (R126) -/

/-- A record's end. -/
def recordEnd (e : EventRecord) : MinuteTime := minutePlus e.start e.duration

/-- The record covers minute m. -/
def covers (e : EventRecord) (m : MinuteTime) : Bool := decide (minutesAhead e.start m < e.duration)

/-- The record has ended, at a present minute. -/
def hasEnded (m : MinuteTime) (e : EventRecord) : Bool := decide (minutesAhead (recordEnd e) m < halfMinutes)

/-- Two periods overlap. -/
def periodsOverlap (a : MinuteTime) (x : Nat) (b : MinuteTime) (y : Nat) : Bool :=
  decide (minutesAhead a b < x ∨ minutesAhead b a < y)

/-- The offset of a start from a reference, plus H, so that it is counted from 0. -/
def offsetKey (reference : MinuteTime) (e : EventRecord) : Nat :=
  (minutesAhead reference e.start + halfMinutes) % cycleMinutes

/-- The record is placeable against the reference: its offset plus its duration is at most H. -/
def placeable (reference : MinuteTime) (e : EventRecord) : Bool :=
  decide (offsetKey reference e + e.duration ≤ cycleMinutes)

/-! ### The directory (R124) -/

/-- The 32 entry numbers in order. -/
def entryNumbers : List (Fin 32) := List.finRange 32

/-- The entry is free: UNUSED, or HELD with record count 0. -/
def entryFree : Option Entry → Bool
  | none => true
  | some e => e.records.isEmpty

/-- R125: the records of all services. -/
def storedRecords (d : Vector (Option Entry) 32) : List EventRecord :=
  d.toList.flatMap fun e => (e.map fun x => x.records).getD []

/-- R128: the entry that will hold the service. -/
def entryForCommit (d : Vector (Option Entry) 32) (service : Half) : Option (Fin 32) :=
  match entryNumbers.find? fun i => d[i].any fun e => e.service == service with
  | some i => some i
  | none =>
    match entryNumbers.find? fun i => d[i].isNone with
    | some i => some i
    | none => entryNumbers.find? fun i => entryFree d[i]

/-! ### The commit's decisions (R129, R130) -/

/-- R129: the length of the table's reach. -/
def reachOf (t : GuideTable) : Nat :=
  max (minutesAhead t.spanStart t.spanEnd)
    (match t.records.getLast? with
      | some e => minutesAhead t.spanStart e.start + e.duration
      | none => 0)

/-- R129: the record of the service is marked for removal. -/
def replacedBy (t : GuideTable) (e : EventRecord) : Bool :=
  periodsOverlap t.spanStart (reachOf t) e.start e.duration || !placeable t.spanStart e

/-- R129: the directory without the records marked for removal. -/
def withoutReplaced (t : GuideTable) (d : Vector (Option Entry) 32) : Vector (Option Entry) 32 :=
  d.map fun e => e.map fun x =>
    if x.service = t.service then { x with records := x.records.filter fun r => !replacedBy t r } else x

/-- A record that may be evicted: its entry, its place there, and how long ago it ended. -/
structure Candidate where
  entry : Fin 32
  place : Nat
  ago : Nat
  deriving DecidableEq, Repr

/-- R130: the ended records of one entry. -/
def candidatesIn (m : MinuteTime) (i : Fin 32) (records : List EventRecord) : List Candidate :=
  records.zipIdx.filterMap fun x =>
    if hasEnded m x.1 then some { entry := i, place := x.2, ago := minutesAhead (recordEnd x.1) m } else none

/-- R130: the ended records of the store, by directory entry and then by the service's order. -/
def candidates (m : MinuteTime) (d : Vector (Option Entry) 32) : List Candidate :=
  entryNumbers.flatMap fun i => candidatesIn m i ((d[i].map fun e => e.records).getD [])

/-- R130: the candidate with the earliest end, the first of those whose ends are equal. -/
def earliestEnded : List Candidate → Option Candidate
  | [] => none
  | c :: cs =>
    match earliestEnded cs with
    | none => some c
    | some b => if c.ago < b.ago then some b else some c

/-- One evicted record leaves its entry, whose tracked current event stays until the next MINUTE, also when it was the
entry's last record (log 39). -/
def evictAt (d : Vector (Option Entry) 32) (c : Candidate) : Vector (Option Entry) 32 :=
  put d c.entry (d[c.entry].map fun e => { e with records := e.records.eraseIdx c.place })

/-- R130: n records are evicted; none when no ended record is left to mark. -/
def evict (present : Option MinuteTime) : Nat → Vector (Option Entry) 32 → Option (Vector (Option Entry) 32)
  | 0, d => some d
  | n + 1, d =>
    match present with
    | none => none
    | some m =>
      match earliestEnded (candidates m d) with
      | none => none
      | some c => evict present n (evictAt d c)

/-- R130: how many records must be evicted to make room for the table. -/
def shortfall (t : GuideTable) (d : Vector (Option Entry) 32) : Nat :=
  t.records.length - (Config.storeSize - (storedRecords d).length)

/-! ### Current events (R133) -/

/-- R133: the current event among a service's records at the present minute. -/
def currentAt (present : Option MinuteTime) (records : List EventRecord) : Option EventRecord :=
  present.bind fun m => records.find? fun e => covers e m

/-- R131 steps 2 to 4: the entry after the commit; kept is the entry as it stood, less what left. -/
def committedEntry (c : Commit) (kept : Option Entry) : Entry :=
  let mine := kept.filter fun e => e.service == c.table.service
  let records := sortBy (offsetKey c.table.spanStart) ((mine.map fun e => e.records).getD [] ++ c.table.records)
  { service := c.table.service, version := c.table.version, reference := c.table.spanStart, records := records
    current := currentAt c.present records }

/-- What a commit comes to: a refusal (R132), or the new directory and whether the current event changed (R131). -/
inductive CommitResult where
  | refused (outcome : CommitOutcome)
  | committed (directory : Vector (Option Entry) 32) (currentChanged : Bool)
  deriving DecidableEq, Repr

/-- R128 to R131: the commit's decisions. -/
def commitResult (c : Commit) (d : Vector (Option Entry) 32) : CommitResult :=
  match entryForCommit d c.table.service with
  | none => .refused .directoryFull
  | some i =>
    let cut := withoutReplaced c.table d
    match evict c.present (shortfall c.table cut) cut with
    | none => .refused .cacheFull
    | some e =>
      let before := (d[i].filter fun x => x.service == c.table.service).bind fun x => x.current
      .committed (put e i (some (committedEntry c e[i]))) (before != (committedEntry c e[i]).current)

/-- R134: one entry's current event is found anew at the present minute; EVENT_CHANGE when it differs. -/
def State.minuteAt (s : State) (i : Fin 32) : State :=
  match s.cache.directory[i] with
  | none => s
  | some e =>
    let current := currentAt s.presentMinute e.records
    if e.current = current then s
    else
      (s.withCache { s.cache with directory := put s.cache.directory i (some { e with current := current }) }).send
        (.eventChange e.service)

/-- R134: the cache takes a MINUTE, entry by entry. -/
def State.takeMinute (s : State) : State := entryNumbers.foldl (fun t i => t.minuteAt i) s

/-- R131, R132: the commit completes as one act. -/
def State.completeCommit (s : State) (c : Commit) : State :=
  match commitResult c s.cache.directory with
  | .refused outcome =>
    ((s.withCache { s.cache with inFlight := none }).raise .cache .guide).send (.commitDone outcome)
  | .committed d changed =>
    let t := s.withCache { s.cache with directory := d, inFlight := none }
    ((if changed then t.send (.eventChange c.table.service) else t).raise .cache .guide).send (.commitDone .committed)

/-- R134: a MINUTE held during the commit is taken as soon as it has completed. -/
def State.takeHeldMinute (s : State) : State :=
  if s.cache.heldMinute then (s.withCache { s.cache with heldMinute := false }).takeMinute else s

/-! ### Events -/

/-- COMMIT (R127): the commit is in flight, with the present minute it read. -/
def execCommit (table : GuideTable) (s : State) : Host.Outcome State Fault Refusal :=
  onMessage (.commit table) s fun s =>
    s.withCache { s.cache with inFlight := some { table := table, present := s.presentMinute } }

/-- COMMIT_COMPLETION (R131, R132), with the MINUTE held meanwhile (R134). -/
def execCommitCompletion (s : State) : Host.Outcome State Fault Refusal :=
  .next (match s.cache.inFlight with
    | none => s
    | some c => (s.completeCommit c).takeHeldMinute)

/-- MINUTE (R134): held while a commit is in flight. -/
def execMinute (s : State) : Host.Outcome State Fault Refusal :=
  onMessage .minute s fun s =>
    if s.cache.inFlight.isSome then s.withCache { s.cache with heldMinute := true } else s.takeMinute

/-! ### Lookups (R136 to R138) -/

/-- R136: the time a READ_EVENT asks for, none when out of range; inner none is NOW. -/
def timeAsked (time : Option (Half × Half)) : Option (Option MinuteTime) :=
  match time with
  | none => some none
  | some (day, minute) => if minute.toNat < 1440 then some (some { day := day.toNat, minute := minute.toNat }) else none

/-- R136: the answer with a record. -/
def eventAnswer (e : Entry) (r : EventRecord) : Answer := .ok (eventBlock r ++ [boolByte (e.current == some r)])

/-- R136 step 3. -/
def lookUp (e : Entry) (time : Option MinuteTime) : Answer :=
  match (match time with
    | none => e.current
    | some m => e.records.find? fun r => covers r m) with
  | none => .bare .notFound
  | some r => eventAnswer e r

/-- READ_EVENT (R136). -/
def execReadEvent (r : Role) (service : Half) (time : Option (Half × Half)) (s : State) :
    Host.Outcome State Fault Refusal :=
  onRequest (.readEvent r service time) r s (reading fun s =>
    if service = 0 then .bare .badValue
    else
      match timeAsked time with
      | none => .bare .badValue
      | some t =>
        match s.cache.entryFor service with
        | none => .bare .notFound
        | some e => lookUp e t)

/-- R137: the records that start after a time, nearest first. -/
def startingAfter (t : MinuteTime) (records : List EventRecord) : List EventRecord :=
  sortBy (fun e => minutesAhead t e.start)
    (records.filter fun e => decide (1 ≤ minutesAhead t e.start ∧ minutesAhead t e.start < halfMinutes))

/-- R137: the body of LIST_EVENTS. -/
def eventList (found : List EventRecord) : List Byte :=
  [byteOf (found.take 4).length, boolByte (decide (4 < found.length))] ++ (found.take 4).flatMap eventBlock

/-- LIST_EVENTS (R137). -/
def execListEvents (r : Role) (service day minute : Half) (s : State) : Host.Outcome State Fault Refusal :=
  onRequest (.listEvents r service day minute) r s (reading fun s =>
    if service = 0 ∨ 1440 ≤ minute.toNat then .bare .badValue
    else
      match s.cache.entryFor service with
      | none => .bare .notFound
      | some e => .ok (eventList (startingAfter { day := day.toNat, minute := minute.toNat } e.records)))

/-- R138: the fields of an entry from held to the event block. -/
def entryImage : Option Entry → List Byte
  | none => List.replicate 24 0
  | some e =>
    [1] ++ le2 e.service.toNat ++ [byteOf e.version] ++ le2 e.reference.day ++ le2 e.reference.minute ++
    le2 e.records.length ++ [boolByte e.records.isEmpty, boolByte e.current.isSome] ++
    (match e.current with
      | some r => eventBlock r
      | none => zeroBlock)

/-- R138: the directory image. -/
def GuideCache.image (c : GuideCache) (i : Fin 32) : List Byte :=
  entryImage c.directory[i] ++ le2 (storedRecords c.directory).length ++
  [byteOf (entryNumbers.filter fun j => entryFree c.directory[j]).length, boolByte c.inFlight.isSome]

/-- READ_DIRECTORY (R138). -/
def execReadDirectory (r : Role) (index : Byte) (s : State) : Host.Outcome State Fault Refusal :=
  onRequest (.readDirectory r index) r s (reading fun s =>
    match below 32 index with
    | none => .bare .badValue
    | some i => .ok (s.cache.image i))

end Sys2Proof.Machine
end

