-- ==== Sys2Proof/Machine/Link.lean ====
section
/-! DEFINITION. The Guide Receiver (05): symbols and the FIFO, header and record judgement, the receiver states, the
hand-off, the link counters. -/

namespace Sys2Proof.Machine

/-! ### Symbols -/

/-- IDL (10 Table 10-5). -/
def idlCode : Byte := 0x00
/-- SOT. -/
def sotCode : Byte := 0x01
/-- SOR. -/
def sorCode : Byte := 0x02
/-- EOR. -/
def eorCode : Byte := 0x03
/-- EOT. -/
def eotCode : Byte := 0x04
/-- ABT. -/
def abtCode : Byte := 0x0F

/-- A control code that is none of the six (R102). -/
def unknownCode (c : Byte) : Bool :=
  c != idlCode && c != sotCode && c != sorCode && c != eorCode && c != eotCode && c != abtCode

/-- R193: the value bits of a symbol, the one sampled first the most significant. -/
def valueOf (bits : List Bool) : Byte := byteOf (bits.foldl (fun n b => 2 * n + b.toNat) 0)

/-- R102, R193: the symbol of nine samples of LDAT in the order taken: the kind bit, then eight value bits. -/
def symbolOf (samples : Vector Bool 9) : Symbol :=
  if samples[0] then .control (valueOf (samples.toList.drop 1)) else .data (valueOf (samples.toList.drop 1))

/-! ### Counters (R120) -/

/-- A link counter rises by 1 and stays at 65535. -/
def countUp (n : Nat) : Nat := saturate 65535 n

def GuideReceiver.withCounts (u : GuideReceiver) (f : LinkCounts → LinkCounts) : GuideReceiver :=
  { u with counts := f u.counts }

/-- One more COMMITTED. -/
def GuideReceiver.addCommitted (u : GuideReceiver) : GuideReceiver :=
  u.withCounts fun c => { c with committed := countUp c.committed }
/-- One more REFUSED. -/
def GuideReceiver.addRefused (u : GuideReceiver) : GuideReceiver :=
  u.withCounts fun c => { c with refused := countUp c.refused }
/-- One more DAMAGED. -/
def GuideReceiver.addDamaged (u : GuideReceiver) : GuideReceiver :=
  u.withCounts fun c => { c with damaged := countUp c.damaged }
/-- One more ABANDONED. -/
def GuideReceiver.addAbandoned (u : GuideReceiver) : GuideReceiver :=
  u.withCounts fun c => { c with abandoned := countUp c.abandoned }
/-- One more DUPLICATE. -/
def GuideReceiver.addDuplicate (u : GuideReceiver) : GuideReceiver :=
  u.withCounts fun c => { c with duplicate := countUp c.duplicate }
/-- One more STRAY. -/
def GuideReceiver.addStray (u : GuideReceiver) : GuideReceiver :=
  u.withCounts fun c => { c with stray := countUp c.stray }
/-- One more FRAMING. -/
def GuideReceiver.addFraming (u : GuideReceiver) : GuideReceiver :=
  u.withCounts fun c => { c with framing := countUp c.framing }
/-- One more OVERRUN. -/
def GuideReceiver.addOverrun (u : GuideReceiver) : GuideReceiver :=
  u.withCounts fun c => { c with overrun := countUp c.overrun }

/-! ### Judging headers and records -/

/-- R106: the fields of a valid header, the check apart. -/
def headerFields (service : Half) (version : Nat) (spanStart spanEnd : MinuteTime) (count : Nat) : Option TableHeader :=
  if service ≠ 0 ∧ version < 32 ∧ spanStart.minute < 1440 ∧ spanEnd.minute < 1440 ∧ count ≤ 48 ∧
      1 ≤ minutesAhead spanStart spanEnd ∧ minutesAhead spanStart spanEnd ≤ 20160 then
    some { service := service, version := version, spanStart := spanStart, spanEnd := spanEnd, recordCount := count }
  else none

/-- R106, 10 Table 10-6: the header of thirteen bytes; none is a header fault. -/
def headerOf : List Byte → Option TableHeader
  | [s0, s1, v, a0, a1, b0, b1, c0, c1, d0, d1, n, check] =>
    if crc8 [s0, s1, v, a0, a1, b0, b1, c0, c1, d0, d1, n] = check then
      headerFields (halfOf s0 s1) v.toNat { day := (halfOf a0 a1).toNat, minute := (halfOf b0 b1).toNat }
        { day := (halfOf c0 c1).toNat, minute := (halfOf d0 d1).toNat } n.toNat
    else none
  | _ => none

/-- R107: rating and flags as the presence byte calls for them; none when the length or a value is wrong. -/
def presentFields (presence : Byte) (rest : List Byte) : Option (Option Rating × Option FlagSet) :=
  if presence = 0 then (match rest with
    | [] => some (none, none)
    | _ => none)
  else if presence = 1 then (match rest with
    | [s, v] => (ratingOf s v).map fun r => (some r, none)
    | _ => none)
  else if presence = 2 then (match rest with
    | [f] => (flagsOf f).map fun x => (none, some x)
    | _ => none)
  else if presence = 3 then (match rest with
    | [s, v, f] =>
      match ratingOf s v, flagsOf f with
      | some r, some x => some (some r, some x)
      | _, _ => none
    | _ => none)
  else none

/-- R107: the fields of a record without its check. -/
def recordFields : List Byte → Option EventRecord
  | i0 :: i1 :: a0 :: a1 :: b0 :: b1 :: u0 :: u1 :: presence :: rest =>
    match durationOf (halfOf u0 u1), presentFields presence rest with
    | some duration, some f =>
      if (halfOf b0 b1).toNat < 1440 then
        some { id := halfOf i0 i1, start := { day := (halfOf a0 a1).toNat, minute := (halfOf b0 b1).toNat }
               duration := duration, rating := f.1, flags := f.2 }
      else none
    | _, _ => none
  | _ => none

/-- R107: a well-formed record; none is a record fault. -/
def recordOf (bytes : List Byte) : Option EventRecord :=
  match bytes.getLast? with
  | none => none
  | some check => if crc8 bytes.dropLast = check then recordFields bytes.dropLast else none

/-- R107: the record is placed after the last record staged. -/
def placed (h : TableHeader) (staged : List EventRecord) (e : EventRecord) : Bool :=
  decide (minutesAhead h.spanStart e.start < minutesAhead h.spanStart h.spanEnd) &&
  (match staged.getLast? with
    | none => true
    | some l => decide (minutesAhead h.spanStart l.start + l.duration ≤ minutesAhead h.spanStart e.start))

/-! ### The receiver's record -/

/-- R104: a lost symbol sets the loss mark and marks a table open in HEADER or BODY. -/
def GuideReceiver.loseSymbol (u : GuideReceiver) : GuideReceiver :=
  { u with
    lossMark := true
    damaged := u.damaged || u.state == .header || u.state == .body }

/-- The open table is marked damaged (R115). -/
def GuideReceiver.markDamaged (u : GuideReceiver) : GuideReceiver := { u with damaged := true }

/-- A framing fault in HEADER or BODY (R108). -/
def GuideReceiver.framingFault (u : GuideReceiver) : GuideReceiver := u.addFraming.markDamaged

/-- The receiver goes to IDLE with its staging emptied. -/
def GuideReceiver.toIdle (u : GuideReceiver) : GuideReceiver :=
  { u with
    state := .idle, header := [], recordOpen := false, record := [], damaged := false, staged := none, records := []
    tableHeld := false }

/-- R110: a new table opens, marked when the loss mark is set. -/
def GuideReceiver.openTable (u : GuideReceiver) : GuideReceiver := { u.toIdle with state := .header, damaged := u.lossMark }

/-- The duplicate check (R112). -/
def GuideCache.holdsVersion (c : GuideCache) (h : TableHeader) : Bool :=
  (c.entryFor h.service).any fun e => e.version == h.version

/-- R112: the completed header is judged. -/
def GuideReceiver.judgeHeader (c : GuideCache) (u : GuideReceiver) : GuideReceiver :=
  let body := { u with state := ReceiverState.body, header := [], recordOpen := false, record := [] }
  if u.damaged then body
  else
    match headerOf u.header with
    | none => body.markDamaged
    | some h => if c.holdsVersion h then { u.toIdle with state := .skip } else { body with staged := some h }

/-- R114: the record just closed is judged. -/
def GuideReceiver.judgeRecord (u : GuideReceiver) : GuideReceiver :=
  let closed := { u with recordOpen := false, record := [] }
  if u.damaged then closed
  else
    match recordOf u.record, u.staged with
    | some e, some h =>
      if Config.stagingSize ≤ u.records.length then closed.markDamaged
      else if placed h u.records e then { closed with records := u.records ++ [e] }
      else closed.markDamaged
    | _, _ => closed.markDamaged

/-- R115: at an EOT the table is marked, or its count differs from the records staged, or it has no judged header. -/
def GuideReceiver.endsDamaged (u : GuideReceiver) : Bool :=
  u.damaged || (match u.staged with
    | some h => h.recordCount != u.records.length
    | none => true)

/-! ### Acts of the receiver -/

/-- The receiver's record is replaced. -/
def State.receive (s : State) (f : GuideReceiver → GuideReceiver) : State := s.withReceiver (f s.receiver)

/-- R115: the open table is discarded as damaged. -/
def State.discardDamaged (s : State) : State :=
  (s.receive fun u => u.toIdle.addDamaged).raise .receiver .guide

/-- R116, R110: the open table is abandoned. -/
def State.abandonTable (s : State) : State :=
  (s.receive fun u => u.toIdle.addAbandoned).raise .receiver .guide

/-- R117: a table in SKIP ends as a duplicate. -/
def State.endDuplicate (s : State) : State := s.receive fun u => u.toIdle.addDuplicate

/-- The COMMIT of the staged table (R118 step 2). -/
def tableStaged (h : TableHeader) (records : List EventRecord) : GuideTable where
  service := h.service
  version := h.version
  spanStart := h.spanStart
  spanEnd := h.spanEnd
  records := records

/-- R118: the table held in HANDOFF is handed off when no commit is outstanding. -/
def State.handOff (s : State) : State :=
  match s.receiver.staged with
  | none => s
  | some h =>
    if s.receiver.commitOutstanding then s
    else if s.cache.holdsVersion h then s.endDuplicate
    else
      (s.receive fun u => { u with staged := none, records := [], tableHeld := false, commitOutstanding := true }).send
        (.commit (tableStaged h s.receiver.records))

/-- R115, R118: an EOT ends a table in HEADER or BODY. -/
def State.endTable (s : State) : State :=
  if s.receiver.endsDamaged then s.discardDamaged
  else (s.receive fun u => { u with state := .handoff, tableHeld := true }).handOff

/-- R104: a take that leaves the FIFO empty clears the loss mark, once the symbol has been handled. -/
def GuideReceiver.afterTake (u : GuideReceiver) : GuideReceiver :=
  if u.fifo.isEmpty then { u with lossMark := false } else u

/-- R103: the receiver takes the symbol at the head of the FIFO, in a state other than HANDOFF, and handles it. -/
def onSymbol (sym : Symbol) (s : State) (act : State → State) : Host.Outcome State Fault Refusal :=
  onOccasion (s.receiver.fifo.head? == some sym && s.receiver.state != .handoff) s fun s =>
    (act (s.receive fun u => { u with fifo := u.fifo.tail })).receive GuideReceiver.afterTake

/-! ### Table 5-6 by symbol -/

/-- A data byte (R109, R111, R113, R117). -/
def GuideReceiver.takeData (c : GuideCache) (b : Byte) (u : GuideReceiver) : GuideReceiver :=
  match u.state with
  | .idle => u.addStray
  | .header =>
    if u.header.length < 12 then { u with header := u.header ++ [b] }
    else GuideReceiver.judgeHeader c { u with header := u.header ++ [b] }
  | .body =>
    if !u.recordOpen then u.framingFault
    else if u.record.length < 13 then { u with record := u.record ++ [b] }
    else u.framingFault
  | .skip | .handoff => u

/-- SOR (R109, R111, R113, R117). -/
def GuideReceiver.takeSor (u : GuideReceiver) : GuideReceiver :=
  match u.state with
  | .idle => u.addStray
  | .header => u.framingFault
  | .body =>
    if u.recordOpen then { u.framingFault with record := [] }
    else if Config.stagingSize ≤ u.records.length then { u.markDamaged with recordOpen := true, record := [] }
    else { u with recordOpen := true, record := [] }
  | .skip | .handoff => u

/-- EOR (R109, R111, R113, R114, R117). -/
def GuideReceiver.takeEor (u : GuideReceiver) : GuideReceiver :=
  match u.state with
  | .idle => u.addStray
  | .header => u.framingFault
  | .body => if u.recordOpen then u.judgeRecord else u.framingFault
  | .skip | .handoff => u

/-- An unknown control (R109, R111, R113, R117). -/
def GuideReceiver.takeUnknown (u : GuideReceiver) : GuideReceiver :=
  match u.state with
  | .idle | .skip => u.addFraming
  | .header | .body => u.framingFault
  | .handoff => u

/-- EOT (R109, R111, R113, R115, R117). -/
def State.takeEot (s : State) : State :=
  match s.receiver.state with
  | .idle => s.receive GuideReceiver.addStray
  | .header => s.discardDamaged
  | .body => if s.receiver.recordOpen then (s.receive GuideReceiver.framingFault).discardDamaged else s.endTable
  | .skip => s.endDuplicate
  | .handoff => s

/-- ABT (R109, R116). -/
def State.takeAbt (s : State) : State :=
  match s.receiver.state with
  | .idle => s.receive GuideReceiver.addStray
  | .header | .body => s.abandonTable
  | .skip => s.endDuplicate
  | .handoff => s

/-- SOT (R110): the open table ends, then the new one opens. -/
def State.takeSot (s : State) : State :=
  (match s.receiver.state with
    | .idle | .handoff => s
    | .header | .body => s.abandonTable
    | .skip => s.endDuplicate).receive GuideReceiver.openTable

/-! ### Commands -/

/-- SOT taken (R110). -/
def execSot (s : State) : Host.Outcome State Fault Refusal := onSymbol (.control sotCode) s fun s => s.takeSot

/-- A data byte taken (R111, R113). -/
def execDataByte (b : Byte) (s : State) : Host.Outcome State Fault Refusal :=
  onSymbol (.data b) s fun s => s.receive (GuideReceiver.takeData s.cache b)

/-- SOR taken (R113). -/
def execSor (s : State) : Host.Outcome State Fault Refusal :=
  onSymbol (.control sorCode) s fun s => s.receive GuideReceiver.takeSor

/-- EOR taken (R114). -/
def execEor (s : State) : Host.Outcome State Fault Refusal :=
  onSymbol (.control eorCode) s fun s => s.receive GuideReceiver.takeEor

/-- EOT taken (R115). -/
def execEot (s : State) : Host.Outcome State Fault Refusal := onSymbol (.control eotCode) s fun s => s.takeEot

/-- ABT taken (R116). -/
def execAbt (s : State) : Host.Outcome State Fault Refusal := onSymbol (.control abtCode) s fun s => s.takeAbt

/-- An unknown control taken (R108, R109, R117). -/
def execUnknownControl (code : Byte) (s : State) : Host.Outcome State Fault Refusal :=
  if unknownCode code then onSymbol (.control code) s fun s => s.receive GuideReceiver.takeUnknown else .next s

/-- R103: an arrival joins the tail, or is lost at a full FIFO. -/
def GuideReceiver.arrive (sym : Symbol) (u : GuideReceiver) : GuideReceiver :=
  if u.fifo.length < Config.fifoSize then { u with fifo := u.fifo ++ [sym] } else u.addOverrun.loseSymbol

/-- SYMBOL_ARRIVAL (R102, R103, R193): the ninth sample completes a symbol; a completed IDL is discarded; before the first
quiet gap no symbol completes. -/
def execSymbolArrival (samples : Vector Bool 9) (s : State) : Host.Outcome State Fault Refusal :=
  onOccasion (s.awake && !s.loading && s.receiver.aligned) s fun s =>
    if symbolOf samples = .control idlCode then s else s.receive (GuideReceiver.arrive (symbolOf samples))

/-- R102: a quiet gap aligns the symbols; a partial symbol dropped by it is a framing fault and a lost symbol, unless it
was sampled before the first quiet gap after a load. -/
def GuideReceiver.quiet (bits : Nat) (u : GuideReceiver) : GuideReceiver :=
  if u.aligned && decide (0 < bits) then u.addFraming.loseSymbol else { u with aligned := true }

/-- QUIET_GAP (R102), after the given number of bits of a symbol have been sampled. -/
def execQuietGap (bits : Nat) (s : State) : Host.Outcome State Fault Refusal :=
  onOccasion (s.awake && !s.loading) s fun s => s.receive (GuideReceiver.quiet bits)

/-- R119 step 1: the outcome is counted, and the outstanding commit ends. -/
def GuideReceiver.commitEnds (outcome : CommitOutcome) (u : GuideReceiver) : GuideReceiver :=
  { (if outcome = .committed then u.addCommitted else u.addRefused) with commitOutstanding := false }

/-- R119. -/
def State.takeCommitDone (s : State) (outcome : CommitOutcome) : State :=
  if s.receiver.commitOutstanding then
    let t := s.receive (GuideReceiver.commitEnds outcome)
    if s.receiver.state = .handoff then (if s.receiver.tableHeld then t.handOff else t.receive GuideReceiver.toIdle)
    else t
  else s

/-- COMMIT_DONE (R119). -/
def execCommitDone (outcome : CommitOutcome) (s : State) : Host.Outcome State Fault Refusal :=
  onMessage (.commitDone outcome) s fun s => s.takeCommitDone outcome

/-- LINK_RESET (R121): commit outstanding and the alignment of symbols are kept. -/
def execLinkReset (r : Role) (s : State) : Host.Outcome State Fault Refusal :=
  onRequest (.linkReset r) r s fun s =>
    (s.receive fun u => .cleared u.commitOutstanding u.aligned, .ok [])

/-- R122: the body of READ_LINK_COUNTS. -/
def linkBody (u : GuideReceiver) : List Byte :=
  le2 u.counts.committed ++ le2 u.counts.refused ++ le2 u.counts.damaged ++ le2 u.counts.abandoned ++
  le2 u.counts.duplicate ++ le2 u.counts.stray ++ le2 u.counts.framing ++ le2 u.counts.overrun ++
  [receiverByte u.state, byteOf u.fifo.length, boolByte u.commitOutstanding, boolByte u.tableHeld, boolByte u.lossMark]

/-- READ_LINK_COUNTS (R122). -/
def execReadLinkCounts (r : Role) (s : State) : Host.Outcome State Fault Refusal :=
  onRequest (.readLinkCounts r) r s (reading fun s => .ok (linkBody s.receiver))

end Sys2Proof.Machine
end

