-- ==== Sys2Proof/Machine/Accounts.lean ====
section
/-! DEFINITION. The acts of the Metering Unit on its clock and accounts (02): reassessment, curfew evaluation and
warnings, rollover, the parts of the second tick, the keeping of accounts, the clock set. Each gives the unit after it and
the messages it sends to the Screen Controller, in order. -/

namespace Sys2Proof.Machine

/-- A unit and the messages an act has sent so far. -/
structure Metered where
  unit : MeteringUnit
  sent : List Instr
  deriving DecidableEq, Repr

/-- Do one thing to each account, collecting the messages. The manual orders the parts of an act and not the accounts within
a part: slot order, 0 to 7, is the model's choice (log 37). -/
def MeteringUnit.perAccount (u : MeteringUnit) (ps : List Slot) (f : MeteringUnit → Slot → Account → Account × List Instr) :
    Metered :=
  ps.foldl (fun m p =>
    match m.unit.accounts[p] with
    | none => m
    | some a =>
      let r := f m.unit p a
      { unit := { m.unit with accounts := put m.unit.accounts p (some r.1) }, sent := m.sent ++ r.2 })
    { unit := u, sent := [] }

/-- Do one thing to each account, sending nothing. -/
def MeteringUnit.mapAccounts (u : MeteringUnit) (f : MeteringUnit → Slot → Account → Account) : MeteringUnit :=
  (u.perAccount slots fun v p a => (f v p a, [])).unit

/-- The stored fields of an account (Table 2-2). -/
def storedOf (a : Account) : StoredAccount where
  bonus := a.bonus
  used := a.used
  overrun := a.overrun
  warned := a.warned
  curfewWarned := a.curfewWarned

/-- R54: the account day or a stored account field differs. -/
def storedChanged (a b : MeteringUnit) : Bool :=
  a.accountDay != b.accountDay || slots.any fun p => a.accounts[p].map storedOf != b.accounts[p].map storedOf

/-- R36: an account's used, overrun or warned flags differ. -/
def activityBetween (a b : MeteringUnit) : Bool :=
  slots.any fun p =>
    a.accounts[p].map (fun x => (x.used, x.overrun, x.warned, x.curfewWarned)) !=
    b.accounts[p].map (fun x => (x.used, x.overrun, x.warned, x.curfewWarned))

/-! ### Reassessment (R33) -/

/-- R33: an account after an act, reassessed against its remaining and its allowance warned flag before the act. -/
def reassess (p : Slot) (k : DayKind) (remainingBefore : Nat) (warnedBefore : Bool) (a : Account) :
    Account × List Instr :=
  let clears := warnedBefore && decide (a.terms.lead * 60 < a.remaining k)
  (if clears then { a with warned := false } else a,
    (if 0 < remainingBefore ∧ a.remaining k = 0 then [.exhausted p] else []) ++
    (if (remainingBefore = 0 ∧ 0 < a.remaining k) ∨ clears then [.replenished p] else []))

/-- R33 for every account, against the unit before the act. -/
def reassessAll (before after : MeteringUnit) : Metered :=
  after.perAccount slots fun v p a =>
    match before.accounts[p] with
    | some b => reassess p v.today (b.remaining before.today) b.warned a
    | none => reassess p v.today 0 false a

/-! ### Curfew (R41 to R43) -/

/-- The Pass List holds a CURFEW pass for the profile. -/
def PassList.curfewPass (l : PassList) (p : Slot) : Bool := l.held.any fun x => x.scope == .curfew p

/-- R41: the profile is inside curfew at the current minute. -/
def insideCurfew (l : PassList) (u : MeteringUnit) (p : Slot) (a : Account) : Bool :=
  a.terms.windows.any (windowCovers u.today u.yesterday u.minute) && !l.curfewPass p

/-- R42: one account's curfew evaluation. -/
def evaluateAccount (l : PassList) (u : MeteringUnit) (p : Slot) (a : Account) : Account × List Instr :=
  let now := if insideCurfew l u p a then CurfewState.inside else CurfewState.outside
  ({ a with curfew := now },
    if a.curfew = now then [] else if now = .inside then [.curfewOn p] else [.curfewOff p])

/-- R42: curfew evaluation of the given profiles; none is made while the clock is UNSET. -/
def evaluateCurfew (l : PassList) (ps : List Slot) (u : MeteringUnit) : Metered :=
  if u.running then u.perAccount ps (evaluateAccount l) else { unit := u, sent := [] }

/-- R43: the current minute lies in the lead span of a window that applies today and whose flag is clear. -/
def givesCurfewWarning (u : MeteringUnit) (lead : Nat) (w : CurfewWindow) (flag : Bool) : Bool :=
  !flag && appliesTo w u.today && decide (w.start - lead ≤ u.minute ∧ u.minute < w.start)

/-- R43: the curfew warnings of one account; one WARN for all its windows. -/
def warnAccountCurfew (l : PassList) (u : MeteringUnit) (p : Slot) (a : Account) : Account × List Instr :=
  if 0 < a.terms.lead ∧ a.curfew = .outside ∧ l.curfewPass p = false then
    let gives := List.zipWith (givesCurfewWarning u a.terms.lead) a.terms.windows a.curfewWarned
    ({ a with curfewWarned := List.zipWith (· || ·) a.curfewWarned gives },
      if gives.any id then [.warn p .curfew] else [])
  else (a, [])

/-- R43: curfew warnings for every CHILD profile. -/
def giveCurfewWarnings (l : PassList) (u : MeteringUnit) : Metered := u.perAccount slots (warnAccountCurfew l)

/-! ### Rollover (R45) -/

/-- R45 step 4: used, bonus and overrun become 0 and every warned flag is cleared. -/
def emptied (a : Account) : Account :=
  { a with bonus := 0, used := 0, overrun := 0, warned := false, curfewWarned := a.curfewWarned.map fun _ => false }

/-- R45 steps 3 and 4: the account day becomes the given day and every account is emptied. -/
def MeteringUnit.startDay (u : MeteringUnit) (day : Nat) : MeteringUnit :=
  ({ u with accountDay := day }).mapAccounts fun _ _ a => emptied a

/-- R45 at the tick, steps 1 to 6: the next day and weekday at second 0, day kinds, accounts, reassessment, ROLLOVER. -/
def rolloverAtTick (u : MeteringUnit) : Metered :=
  let day := (u.day + 1) % cycleDays
  let moved := { u with day := day, weekday := u.weekday + 1, second := 0, yesterday := u.today, override := none }
  let m := reassessAll u (moved.startDay day)
  { m with sent := m.sent ++ [.rolloverTaken] }

/-! ### The second tick (R36 to R40) -/

/-- The seconds a tick costs for the given count of screens: 1 in SHARED mode, the count in EACH (R37, R38). -/
def tickCost (mode : ChargeMode) (count : Nat) : Nat :=
  if count = 0 then 0 else match mode with
    | .shared => 1
    | .each => count

/-- R37: the charge, capped at remaining. -/
def chargeAccount (u : MeteringUnit) (p : Slot) (a : Account) : Account :=
  { a with used := a.used + min (tickCost a.terms.mode (u.chargeCount p .view)) (a.remaining u.today) }

/-- R38: overrun, saturating at 86400. -/
def overrunAccount (u : MeteringUnit) (p : Slot) (a : Account) : Account :=
  { a with overrun := min (a.overrun + tickCost a.terms.mode (u.chargeCount p .overrun)) 86400 }

/-- R39: the allowance warning. -/
def warnAccount (u : MeteringUnit) (p : Slot) (a : Account) : Account × List Instr :=
  if 0 < a.terms.lead ∧ a.warned = false ∧ 0 < a.remaining u.today ∧ a.remaining u.today ≤ a.terms.lead * 60 then
    ({ a with warned := true }, [.warn p .allowance])
  else (a, [])

/-- R40: EXHAUSTED for each account whose remaining was above 0 before part 2 and is 0 now, in slot order (log 37). -/
def exhaustions (before after : MeteringUnit) : List Instr :=
  (slots.filter fun p =>
    match before.accounts[p], after.accounts[p] with
    | some b, some a => decide (0 < b.remaining before.today) && a.exhausted after.today
    | _, _ => false).map .exhausted

/-- R36 part 1: advance by one second, with the rollover when it would pass 86399. -/
def advance (u : MeteringUnit) : Metered :=
  if 86399 ≤ u.second then rolloverAtTick u else { unit := { u with second := u.second + 1 }, sent := [] }

/-- R36 part 6: curfew evaluation and curfew warnings at a minute boundary (or at a clock set, R48 step 2). -/
def minuteWork (l : PassList) (u : MeteringUnit) : Metered :=
  let e := evaluateCurfew l slots u
  let w := giveCurfewWarnings l e.unit
  { unit := w.unit, sent := e.sent ++ w.sent }

/-- R36 parts 2 to 5: charge, overrun, warn, exhaust. -/
def tickAccounts (u : MeteringUnit) : Metered :=
  let w := ((u.mapAccounts chargeAccount).mapAccounts overrunAccount).perAccount slots warnAccount
  { unit := w.unit, sent := w.sent ++ exhaustions u w.unit }

/-- R36: the whole second tick, with the messages to the Screen Controller in the order of its parts. -/
def tickUnit (l : PassList) (u : MeteringUnit) : Metered :=
  let a := advance u
  let t := tickAccounts a.unit
  let w := if t.unit.second % 60 = 0 then minuteWork l t.unit else { unit := t.unit, sent := [] }
  { unit := w.unit, sent := a.sent ++ t.sent ++ w.sent }

/-! ### Day-kind changes (R30) -/

/-- R30: after an act that may have changed today's kind, bases are recomputed and accounts reassessed, and curfew
evaluated while RUNNING; nothing when today's kind is as it was. -/
def dayKindChange (l : PassList) (before after : MeteringUnit) : Metered :=
  if before.today = after.today then { unit := after, sent := [] }
  else
    let m := reassessAll before after
    let e := evaluateCurfew l slots m.unit
    { unit := e.unit, sent := m.sent ++ e.sent }

/-! ### Creation, keeping, dropping (R34) -/

/-- The terms an account takes from a child part. -/
def termsOf (k : ChildPart) : AccountTerms where
  school := k.school
  free := k.free
  bonusCap := k.bonusCap
  mode := k.mode
  lead := k.lead
  windows := k.windows

/-- R34: a new account. -/
def freshAccount (k : ChildPart) : Account where
  terms := termsOf k
  bonus := 0
  used := 0
  overrun := 0
  warned := false
  curfewWarned := k.windows.map fun _ => false
  curfew := .outside

/-- R34: the flag of each window that equals the window in the same position before; the others are clear. -/
def keptFlags : List CurfewWindow → List Bool → List CurfewWindow → List Bool
  | w :: ws, f :: fs, x :: xs => (f && decide (w = x)) :: keptFlags ws fs xs
  | _, _, xs => xs.map fun _ => false

/-- R34, Keeping: terms, cut bonus and flags, before the reassessment. -/
def keptAccount (k : ChildPart) (a : Account) : Account :=
  { a with
    terms := termsOf k
    bonus := min a.bonus (k.bonusCap * 60)
    curfewWarned := keptFlags a.terms.windows a.curfewWarned k.windows }

/-- R34 for one slot: read the profile as it stands, create, keep or drop its account, reassess it, and evaluate its
curfew while RUNNING. -/
def takeProfile (l : PassList) (table : Vector Profile 8) (u : MeteringUnit) (p : Slot) : Metered :=
  match childOf table[p], u.accounts[p] with
  | some k, none =>
    let r := reassess p u.today 0 false (freshAccount k)
    let e := evaluateCurfew l [p] { u with accounts := put u.accounts p (some r.1) }
    { unit := e.unit, sent := r.2 ++ e.sent }
  | some k, some a =>
    let r := reassess p u.today (a.remaining u.today) a.warned (keptAccount k a)
    let e := evaluateCurfew l [p] { u with accounts := put u.accounts p (some r.1) }
    { unit := e.unit, sent := r.2 ++ e.sent }
  | none, some _ => { unit := { u with accounts := put u.accounts p none }, sent := [] }
  | none, none => { unit := u, sent := [] }

/-- R34: PROFILE_CHANGED(all) is taken for each slot in turn. -/
def takeProfiles (l : PassList) (table : Vector Profile 8) (ps : List Slot) (u : MeteringUnit) : Metered :=
  ps.foldl (fun m p =>
    let r := takeProfile l table m.unit p
    { unit := r.unit, sent := m.sent ++ r.sent }) { unit := u, sent := [] }

/-! ### Clock sets (R46 to R48) -/

/-- R46 step 1: the set is protected: RUNNING, and the new time more than 300 seconds from the current time. -/
def setIsProtected (u : MeteringUnit) (day second : Nat) : Bool :=
  u.running && decide (300 < max (day * 86400 + second) (u.day * 86400 + u.second) -
    min (day * 86400 + second) (u.day * 86400 + u.second))

/-- R47, Table 2-3: the unit after the set's effect on clock values, day kinds and accounts, before reassessment. -/
def setDay (u : MeteringUnit) (day second : Nat) (weekday : Fin 7) : MeteringUnit :=
  let placed := { u with day := day, second := second, weekday := weekday }
  let dayBefore := u.plan[weekday + 6]
  if day = u.accountDay then { placed with yesterday := if u.running then u.yesterday else dayBefore }
  else if u.accountDay < day then
    ({ placed with
      override := none
      yesterday := if u.running ∧ day = u.accountDay + 1 then u.today else dayBefore }).startDay day
  else { placed with override := none, yesterday := dayBefore }

/-- R47 and R48 steps 1 and 2: the set, with the messages of reassessment, ROLLOVER, curfew and curfew warnings. -/
def setUnit (l : PassList) (u : MeteringUnit) (day second : Nat) (weekday : Fin 7) : Metered :=
  let m := reassessAll u (setDay u day second weekday)
  let w := minuteWork l { m.unit with running := true }
  { unit := w.unit, sent := m.sent ++ (if u.accountDay < day then [.rolloverTaken] else []) ++ w.sent }

end Sys2Proof.Machine
end

