-- ==== Sys2Proof/Machine/Time.lean ====
section
/-! DEFINITION. The reference stream (02 R28, R29): the fall of every timer at a reference second, the period that passes
when no command waits, and SECOND_TICK. -/

namespace Sys2Proof.Machine

/-- R10: lockout timers fall. -/
def ProfileUnit.timersFall (u : ProfileUnit) : ProfileUnit where
  table := u.table
  maps := u.maps
  household := u.household
  failures := u.failures
  lockouts := slots.foldl (fun v p => put v p (timerFalls v[p])) u.lockouts
  windows :=
    let f := fun w : Option Window => w.map fun x => { x with seconds := x.seconds - 1 }
    { console := f u.windows.console, panel := f u.windows.panel, relay := f u.windows.relay }

/-- R65, R67: guide-wait and grace timers fall. -/
def ScreenController.timersFall (c : ScreenController) : ScreenController :=
  { c with cells := screenNumbers.foldl (fun v n => put v n { v[n] with timer := timerFalls v[n].timer }) c.cells }

/-- R175: the settle and snapshot timers fall. -/
def ProfileStore.timersFall (t : ProfileStore) : ProfileStore :=
  { t with settle := timerFalls t.settle, snapshotTimer := timerFalls t.snapshotTimer }

/-- R28: a reference second: every timer falls, and the next second begins with the length the trim gives (R29). -/
def State.referenceSecond (s : State) : State :=
  ((((s.withProfiles s.profiles.timersFall).withScreens s.screens.timersFall).withStore s.store.timersFall).withRef
    { s.ref with phase := 0, length := (32768 + s.metering.trim).toNat })

/-- A second tick of the Metering Unit becomes due at a reference second while RUNNING (R36). -/
def State.tickFallsDue (s : State) : State :=
  s.withRef { s.ref with ticksDue := if s.metering.running then s.ref.ticksDue + 1 else s.ref.ticksDue }

/-- One period of the 32.768 kHz reference, which passes when no command waits (log 8). -/
def State.period (s : State) : State :=
  if s.awake then
    if s.ref.phase + 1 < s.ref.length then s.withRef { s.ref with phase := s.ref.phase + 1 }
    else s.referenceSecond.tickFallsDue
  else s

/-- The Metering Unit has done an act: its unit, its messages in order, and a TIME notice for any message or on request
(R54). -/
def State.metered (s : State) (m : Metered) (time : Bool) : State :=
  ((s.withMetering m.unit).sendAll m.sent).raiseIf (time || !m.sent.isEmpty) .metering .time

/-- R36: the Metering Unit takes its second tick: its acts, MINUTE at a minute boundary, a rollover's dirty mark (R45
step 7), and account activity. -/
def State.takeTick (s : State) : State :=
  let m := tickUnit s.passes s.metering
  let acted := s.metered m false
  let minuted := if m.unit.second % 60 = 0 then acted.send .minute else acted
  let marked := if 86399 ≤ s.metering.second then minuted.send (.dirtyMark .metering true) else minuted
  if activityBetween s.metering m.unit then marked.send .accountActivity else marked

/-- R36, R28: a tick that is due is taken; when none is due, the command is the passing of the reference second itself,
with the tick when the clock is RUNNING (log 8). -/
def execSecondTick (s : State) : Host.Outcome State Fault Refusal :=
  onOccasion s.awake s fun s =>
    if 0 < s.ref.ticksDue then (s.withRef { s.ref with ticksDue := s.ref.ticksDue - 1 }).takeTick
    else if s.metering.running then s.referenceSecond.takeTick
    else s.referenceSecond

end Sys2Proof.Machine
end

