-- ==== Sys2Proof/Machine/Metering.lean ====
section
/-! DEFINITION. The requests of the Metering Unit and the messages it takes (02). -/

namespace Sys2Proof.Machine

/-- R49: the body of READ_CLOCK. -/
def clockBody (u : MeteringUnit) : List Byte :=
  [boolByte u.running] ++ le2 u.day ++ le3 u.second ++ [byteOf u.weekday, BitVec.ofInt 8 u.trim, dayKindByte u.today,
    boolByte u.override.isSome, dayKindByte u.yesterday] ++ le2 u.accountDay

/-- READ_CLOCK (R49). -/
def execReadClock (r : Role) (s : State) : Host.Outcome State Fault Refusal :=
  onRequest (.readClock r) r s (reading fun s => .ok (clockBody s.metering))

/-- The weekday of a byte in range 0..6. -/
def weekdayOf (b : Byte) : Option (Fin 7) := below 7 b

/-- R48: an accepted set: accounts and clock, then CLOCK_SET to the Screen Controller and the Pass List, MINUTE, TIME, and a
dirty mark when the account day or a stored account field changed (R47: a rollover's mark for N > A), in this order. -/
def State.acceptSet (s : State) (day second : Nat) (weekday : Fin 7) : State :=
  let m := setUnit s.passes s.metering day second weekday
  let acted := s.metered { m with sent := m.sent ++ [.clockSet, .passListClockSet, .minute] } true
  if s.metering.accountDay < day then acted.send (.dirtyMark .metering true)
  else acted.markDirtyIf (storedChanged s.metering m.unit) .metering

/-- SET_CLOCK past its authority check (R46 step 2). -/
def setClockInRange (time : RawTime) (weekday : Byte) (s : State) : State × Answer :=
  match weekdayOf weekday with
  | some w =>
    if time.second.toNat < 86400 then
      let t := s.acceptSet time.day.toNat time.second.toNat w
      (t, .ok ([boolByte t.metering.running] ++ le2 t.metering.accountDay))
    else refuse s .badValue
  | none => refuse s .badValue

/-- SET_CLOCK (R46): protected only for a jump of more than 300 seconds while RUNNING. -/
def execSetClock (r : Role) (time : RawTime) (weekday : Byte) (s : State) : Host.Outcome State Fault Refusal :=
  onRequest (.setClock r time weekday) r s fun s =>
    if setIsProtected s.metering time.day.toNat time.second.toNat then
      underAuthority r s fun _ => setClockInRange time weekday s
    else setClockInRange time weekday s

/-- SET_TRIM (R29): the second under way keeps its length. -/
def execSetTrim (r : Role) (trim : Half) (s : State) : Host.Outcome State Fault Refusal :=
  onRequest (.setTrim r trim) r s fun s =>
    if -128 ≤ trim.toInt ∧ trim.toInt ≤ 127 then
      (s.withMetering { s.metering with trim := trim.toInt }, .ok [])
    else refuse s .badValue

/-- The status byte of an account image (10 Table 10-3). -/
def accountStatus (u : MeteringUnit) (a : Account) : Byte :=
  boolByte a.warned ||| (boolByte (a.warningInForce u.today) <<< 1) |||
  (boolByte (a.curfewWarned.getD 0 false) <<< 2) ||| (boolByte (a.curfewWarned.getD 1 false) <<< 3) |||
  (boolByte (a.curfewWarned.getD 2 false) <<< 4) |||
  (boolByte (a.curfewWarningInForce u.today u.minute) <<< 5) ||| (boolByte (a.exhausted u.today) <<< 6)

/-- R50: the account image. -/
def accountImage (u : MeteringUnit) (p : Slot) (a : Account) : List Byte :=
  le2 u.accountDay ++ le3 (a.base u.today) ++ le2 a.bonus ++ le3 (a.entitlement u.today) ++ le3 a.used ++
  le3 (a.remaining u.today) ++ le3 a.overrun ++ [accountStatus u a, byteOf (u.chargeCount p .view),
    byteOf (u.chargeCount p .overrun), curfewByte a.curfew]

/-- READ_ACCOUNT (R50): judged by the account held, not by the profile's kind. -/
def execReadAccount (r : Role) (slot : Byte) (s : State) : Host.Outcome State Fault Refusal :=
  onRequest (.readAccount r slot) r s (reading fun s =>
    match slotOf slot with
    | none => .bare .badValue
    | some p =>
      match s.metering.accounts[p] with
      | none => .bare .notFound
      | some a => .ok (accountImage s.metering p a))

/-- R51: the seconds a grant of the given minutes gives. -/
def bonusGrant (a : Account) (minutes : Nat) : Nat := min (minutes * 60) (a.terms.bonusCap * 60 - a.bonus)

/-- R51: an accepted grant. -/
def State.acceptBonus (s : State) (p : Slot) (a : Account) (granted : Nat) : State × Answer :=
  let u := s.metering
  let r := reassess p u.today (a.remaining u.today) a.warned { a with bonus := a.bonus + granted }
  let t := (s.metered { unit := { u with accounts := put u.accounts p (some r.1) }, sent := r.2 } true).markDirty .metering
  (t, .ok (le2 granted ++ le3 (r.1.remaining u.today)))

/-- GRANT_BONUS (R51). -/
def execGrantBonus (r : Role) (slot minutes : Byte) (s : State) : Host.Outcome State Fault Refusal :=
  onRequest (.grantBonus r slot minutes) r s fun s => underAuthority r s fun _ =>
    match slotOf slot with
    | none => refuse s .badValue
    | some p =>
      if 1 ≤ minutes.toNat ∧ minutes.toNat ≤ 240 then
        match s.metering.accounts[p] with
        | none => refuse s .notFound
        | some a =>
          if 0 < bonusGrant a minutes.toNat then s.acceptBonus p a (bonusGrant a minutes.toNat)
          else refuse s .badValue
      else refuse s .badValue

/-- The Metering Unit has changed its plan or its override to give after: a day-kind change follows if today's kind
changed (R30), and a TIME notice is raised. -/
def State.changeDayKind (s : State) (after : MeteringUnit) : State :=
  s.metered (dayKindChange s.passes s.metering after) true

/-- Write a list of seven kinds as a plan, keeping the old entry where the list is short. -/
def planOf (old : Vector DayKind 7) (ks : List DayKind) : Vector DayKind 7 :=
  ([0, 1, 2, 3, 4, 5, 6] : List (Fin 7)).foldl (fun v i => put v i (ks.getD i.val v[i])) old

/-- SET_WEEK_PLAN (R52). -/
def execSetWeekPlan (r : Role) (kinds : List Byte) (s : State) : Host.Outcome State Fault Refusal :=
  onRequest (.setWeekPlan r kinds) r s fun s => underAuthority r s fun _ =>
    match dayKindsOf kinds with
    | none => refuse s .badValue
    | some ks =>
      ((s.changeDayKind { s.metering with plan := planOf s.metering.plan ks }).markDirty .metering, .ok [])

/-- R53: an accepted override; a stored field the reassessment changes marks the store dirty. -/
def State.acceptOverride (s : State) (k : Option DayKind) : State × Answer :=
  let t := s.changeDayKind { s.metering with override := k }
  (t.markDirtyIf (storedChanged s.metering t.metering) .metering, .ok [])

/-- SET_TODAY_KIND (R53): SCHOOL 0, FREE 1, PLAN 2. -/
def execSetTodayKind (r : Role) (kind : Byte) (s : State) : Host.Outcome State Fault Refusal :=
  onRequest (.setTodayKind r kind) r s fun s => underAuthority r s fun _ =>
    if kind = 2 then s.acceptOverride none
    else
      match dayKindOf kind with
      | some k => s.acceptOverride (some k)
      | none => refuse s .badValue

/-- The slots a PROFILE_CHANGED concerns (R34: all is each slot in turn). -/
def refSlots : ProfileRef → List Slot
  | .one p => [p]
  | .all => slots

/-- R34: the accounts of the slots that a PROFILE_CHANGED concerns are created, kept or dropped; a change of an account's presence
or of a stored field marks the store dirty. -/
def State.keepAccounts (s : State) (which : ProfileRef) : State :=
  let m := takeProfiles s.passes s.profiles.table (refSlots which) s.metering
  (s.metered m false).markDirtyIf (storedChanged s.metering m.unit) .metering

/-- PROFILE_CHANGED taken by the Metering Unit (R34). -/
def execProfileChangedMetering (which : ProfileRef) (s : State) : Host.Outcome State Fault Refusal :=
  onMessage (.profileChangedMetering which) s fun s => s.keepAccounts which

/-- CHARGE (R35): the screen's entry is replaced. -/
def execCharge (n : ScreenNo) (p : Slot) (kind : ChargeKind) (s : State) : Host.Outcome State Fault Refusal :=
  onMessage (.charge n p kind) s fun s =>
    s.withMetering { s.metering with charges := put s.metering.charges n { profile := p, kind := kind } }

/-- PASS_ADDED or PASS_REMOVED of a CURFEW pass taken by the Metering Unit (R42, R44): p's curfew is evaluated. -/
def execCurfewPassChange (id : Nat) (p : Slot) (s : State) : Host.Outcome State Fault Refusal :=
  onMessage (.curfewPassChange id p) s fun s => s.metered (evaluateCurfew s.passes [p] s.metering) false

end Sys2Proof.Machine
end

