-- ==== Sys2Proof/Machine/Requests.lean ====
section
/-! DEFINITION. The request table (07 Table 7-4, 10 Table 10-2): the roles a code admits, and the request that a code and a
body spell. -/

namespace Sys2Proof.Machine

/-- The byte of a body at a place; a place beyond the body does not arise for an admitted length. -/
def byteAt (body : List Byte) (i : Nat) : Byte := body.getD i 0

/-- Two bytes of a body at a place (10 R190). -/
def halfAt (body : List Byte) (i : Nat) : Half := halfOf (byteAt body i) (byteAt body (i + 1))

/-- Three bytes of a body at a place. -/
def tripleAt (body : List Byte) (i : Nat) : Triple :=
  tripleOf (byteAt body i) (byteAt body (i + 1)) (byteAt body (i + 2))

/-- A PIN of a body: count and three bytes of digit pairs. -/
def pinAt (body : List Byte) (i : Nat) : RawPin where
  count := byteAt body i
  d1 := byteAt body (i + 1)
  d2 := byteAt body (i + 2)
  d3 := byteAt body (i + 3)

/-- A curfew window of an edit image. -/
def windowAt (body : List Byte) (i : Nat) : RawWindow where
  start := halfAt body i
  stop := halfAt body (i + 2)
  applies := byteAt body (i + 4)

/-- The edit image of 46 bytes (10 Table 10-7). -/
def imageOf (b : List Byte) : EditImage where
  kind := byteAt b 0
  label := (b.drop 1).take 12
  pin := pinAt b 13
  ceiling := byteAt b 17
  blocked := byteAt b 18
  unrated := byteAt b 19
  seatLimit := byteAt b 20
  school := halfAt b 21
  free := halfAt b 23
  bonusCap := byteAt b 25
  modes := byteAt b 26
  lead := byteAt b 27
  grace := halfAt b 28
  windowCount := byteAt b 30
  windows := [windowAt b 31, windowAt b 36, windowAt b 41]

/-- The descriptor of a TUNE body (10 R191). -/
def descriptorAt (b : List Byte) (i : Nat) : RawDescriptor where
  contentId := halfAt b i
  presence := byteAt b (i + 2)
  scheme := byteAt b (i + 3)
  value := byteAt b (i + 4)
  flags := byteAt b (i + 5)
  duration := halfAt b (i + 6)

/-- Table 7-4: the roles a request code admits; none for a code that no request bears. -/
def rolesFor (code : Byte) : Option (List Role) :=
  if code ∈ [0x01, 0x02, 0x10, 0x13, 0x14, 0x15, 0x16, 0x20, 0x23, 0x31, 0x35, 0x42, 0x51, 0x58, 0x59, 0x5A, 0x60, 0x61,
      0x63, 0x71] then some [.console, .panel, .relay]
  else if code ∈ [0x03, 0x17, 0x18, 0x21, 0x22, 0x25, 0x30, 0x36, 0x50, 0x62, 0x70] then some [.console]
  else if code ∈ [0x11, 0x12, 0x24, 0x26, 0x40, 0x41] then some [.console, .panel]
  else if code ∈ [0x32, 0x33, 0x34] then some [.console, .relay]
  else none

/-- Table 10-2: the body lengths a request code admits. -/
def lengthsFor (code : Byte) : List Nat :=
  if code ∈ [0x01, 0x02, 0x03, 0x14, 0x15, 0x20, 0x42, 0x50, 0x51, 0x60, 0x63, 0x70, 0x71] then [0]
  else if code ∈ [0x10, 0x12, 0x16, 0x23, 0x26, 0x33, 0x34, 0x35, 0x36, 0x41, 0x5A, 0x61] then [1]
  else if code ∈ [0x22, 0x24] then [2]
  else if code ∈ [0x18, 0x62] then [4]
  else if code ∈ [0x21, 0x31, 0x59] then [6]
  else if code = 0x30 then [3]
  else if code = 0x13 then [5]
  else if code = 0x25 then [7]
  else if code = 0x11 then [47]
  else if code = 0x17 then [33]
  else if code = 0x32 then [3, 11]
  else if code = 0x40 then [2, 7]
  else if code = 0x58 then [2, 6]
  else []

/-- Table 10-2, codes 0x01 to 0x18: the port's own and the Profile Unit's. -/
def profileRequest (r : Role) (code : Byte) (b : List Byte) : Option Instr :=
  if code = 0x01 then some (.identify r)
  else if code = 0x02 then some (.readPortCounts r)
  else if code = 0x03 then some (.reset r)
  else if code = 0x10 then some (.readProfile r (byteAt b 0))
  else if code = 0x11 then some (.editProfile r (byteAt b 0) (imageOf (b.drop 1)))
  else if code = 0x12 then some (.clearProfile r (byteAt b 0))
  else if code = 0x13 then some (.verifyPin r (byteAt b 0) (pinAt b 1))
  else if code = 0x14 then some (.endAuthority r)
  else if code = 0x15 then some (.readAuthority r)
  else if code = 0x16 then some (.readSchemeMap r (byteAt b 0))
  else if code = 0x17 then some (.setSchemeMap r (byteAt b 0) (b.drop 1))
  else if code = 0x18 then some (.setHousehold r (halfAt b 0) (halfAt b 2))
  else none

/-- Table 10-2, codes 0x20 to 0x36: the Metering Unit's and the Screen Controller's. -/
def viewingRequest (r : Role) (code : Byte) (b : List Byte) : Option Instr :=
  if code = 0x20 then some (.readClock r)
  else if code = 0x21 then some (.setClock r { day := halfAt b 0, second := tripleAt b 2 } (byteAt b 5))
  else if code = 0x22 then some (.setTrim r (halfAt b 0))
  else if code = 0x23 then some (.readAccount r (byteAt b 0))
  else if code = 0x24 then some (.grantBonus r (byteAt b 0) (byteAt b 1))
  else if code = 0x25 then some (.setWeekPlan r b)
  else if code = 0x26 then some (.setTodayKind r (byteAt b 0))
  else if code = 0x30 then some (.configureScreen r (byteAt b 0) (byteAt b 1) (byteAt b 2))
  else if code = 0x31 then some (.seat r (byteAt b 0) (byteAt b 1) (pinAt b 2))
  else if code = 0x32 then
    some (.tune r (byteAt b 0) (halfAt b 1) (if b.length = 3 then none else some (descriptorAt b 3)))
  else if code = 0x33 then some (.screenOff r (byteAt b 0))
  else if code = 0x34 then some (.mark r (byteAt b 0))
  else if code = 0x35 then some (.readScreen r (byteAt b 0))
  else if code = 0x36 then some (.setBox r (byteAt b 0))
  else none

/-- Table 10-2, codes 0x40 to 0x71: passes, guide, notices and lines, store. -/
def guideRequest (r : Role) (code : Byte) (b : List Byte) : Option Instr :=
  if code = 0x40 then
    some (.grantPass r (byteAt b 0) (byteAt b 1)
      (if b.length = 2 then none else some { day := halfAt b 2, second := tripleAt b 4 }))
  else if code = 0x41 then some (.revokePass r (byteAt b 0))
  else if code = 0x42 then some (.listPasses r)
  else if code = 0x50 then some (.linkReset r)
  else if code = 0x51 then some (.readLinkCounts r)
  else if code = 0x58 then
    some (.readEvent r (halfAt b 0) (if b.length = 2 then none else some (halfAt b 2, halfAt b 4)))
  else if code = 0x59 then some (.listEvents r (halfAt b 0) (halfAt b 2) (halfAt b 4))
  else if code = 0x5A then some (.readDirectory r (byteAt b 0))
  else if code = 0x60 then some (.getNotices r)
  else if code = 0x61 then some (.setNoticeMask r (byteAt b 0))
  else if code = 0x62 then some (.setLineFunction r (byteAt b 0) (byteAt b 1) (byteAt b 2) (byteAt b 3))
  else if code = 0x63 then some (.readLines r)
  else if code = 0x70 then some (.factoryClear r)
  else if code = 0x71 then some (.readStoreState r)
  else none

/-- The request that an admitted code and body spell. -/
def requestOf (r : Role) (code : Byte) (b : List Byte) : Option Instr :=
  match profileRequest r code b, viewingRequest r code b with
  | some i, _ => some i
  | none, some i => some i
  | none, none => guideRequest r code b

/-- What the port makes of an accepted frame (R147 step 3): an answer of its own, or a request for its owner. -/
inductive Admitted where
  | answered (result : Result)
  | handed (request : Instr)
  deriving DecidableEq, Repr

/-- R147 step 3: code, role, length, in this order. -/
def rulingOn (r : Role) (code : Byte) (b : List Byte) : Admitted :=
  match rolesFor code with
  | none => .answered .unknownRequest
  | some roles =>
    if r ∉ roles then .answered .notPermitted
    else if b.length ∉ lengthsFor code then .answered .badLength
    else
      match requestOf r code b with
      | some i => .handed i
      | none => .answered .unknownRequest

end Sys2Proof.Machine
end

