-- ==== Sys2Proof/Machine/Port.lean ====
section
/-! DEFINITION. The Management Port (07): bus conditions, the request frame byte by byte, acceptance, the response frame,
the port counters, and the port's own requests. -/

namespace Sys2Proof.Machine

/-! ### The port's record -/

/-- Replace the port by a function of it. -/
def State.onPort (s : State) (f : ManagementPort → ManagementPort) : State := s.withPort (f s.port)

/-- Set the bus state, the acknowledge bit, and end a read under way. -/
def ManagementPort.goTo (u : ManagementPort) (b : BusState) (acked : Bool) : ManagementPort :=
  { u with bus := b, acked := acked, sending := none }

/-- Set role r's frame assembly record. -/
def ManagementPort.setFrame (u : ManagementPort) (r : Role) (f : Option Frame) : ManagementPort :=
  { u with frames := u.frames.set r f }

/-- Change role r's counters. -/
def ManagementPort.count (u : ManagementPort) (r : Role) (f : PortCounts → PortCounts) : ManagementPort :=
  { u with counts := u.counts.set r (f (u.counts.get r)) }

/-- R157: a counter stays at 255. -/
def portCountUp (n : Nat) : Nat := saturate 255 n

/-- R157: a port event of role r is counted and raises PORT for r alone. -/
def State.portEvent (s : State) (r : Role) (f : PortCounts → PortCounts) : State :=
  (s.onPort fun u => u.count r f).raisePort r

/-- One more CHECK. -/
def addCheck (c : PortCounts) : PortCounts := { c with check := portCountUp c.check }
/-- One more TRUNCATED. -/
def addTruncated (c : PortCounts) : PortCounts := { c with truncated := portCountUp c.truncated }
/-- One more TIMEOUT. -/
def addTimeout (c : PortCounts) : PortCounts := { c with timeout := portCountUp c.timeout }
/-- One more BUS. -/
def addBus (c : PortCounts) : PortCounts := { c with bus := portCountUp c.bus }
/-- One more OVERLONG. -/
def addOverlong (c : PortCounts) : PortCounts := { c with overlong := portCountUp c.overlong }

/-- The role of a transaction under way with the part. -/
def busRole : BusState → Option Role
  | .write r => some r
  | .read r => some r
  | .free | .address | .ignore => none

/-- R162: a transaction under way is abandoned where it stands: its frame is discarded and a read is cut off. -/
def ManagementPort.abandon (u : ManagementPort) : ManagementPort :=
  match busRole u.bus with
  | some r => (u.setFrame r none).goTo .ignore false
  | none => u

/-- R160, R162: the port falls silent. -/
def ManagementPort.fallSilent (u : ManagementPort) : ManagementPort := { u.abandon with silent := true }

/-! ### START, STOP and the timeout -/

/-- R149: the write that ends has begun a frame. -/
def frameBegun (f : Option Frame) : Bool := f.any fun x => x.code.isSome

/-- R149, R150: what a START or STOP does to the transaction under way. One between the address byte's eighth bit, at which R142
has given the transaction its role, and its acknowledge bit is counted as within a byte, the model's choice (log 44). -/
def State.endTransaction (s : State) (withinByte : Bool) : State :=
  match s.port.bus with
  | .write r =>
    let t := s.onPort fun u => u.setFrame r none
    if withinByte then t.portEvent r addBus
    else if frameBegun (s.port.frames.get r) then t.portEvent r addTruncated
    else t
  | .read r => if withinByte then s.portEvent r addBus else s
  | .free | .address | .ignore => s

/-- START_CONDITION (R142, R149, R150). -/
def execStartCondition (withinByte : Bool) (s : State) : Host.Outcome State Fault Refusal :=
  onOccasion s.awake s fun s => (s.endTransaction withinByte).onPort fun u => u.goTo .address false

/-- STOP_CONDITION (R142, R149, R150). -/
def execStopCondition (withinByte : Bool) (s : State) : Host.Outcome State Fault Refusal :=
  onOccasion s.awake s fun s => (s.endTransaction withinByte).onPort fun u => u.goTo .free false

/-- TRANSACTION_TIMEOUT (R151). -/
def execTransactionTimeout (s : State) : Host.Outcome State Fault Refusal :=
  .next (match busRole s.port.bus with
    | some r => (s.onPort fun u => (u.setFrame r none).goTo .ignore false).portEvent r addTimeout
    | none => s)

/-! ### Address and frame bytes -/

/-- R141: the role an address names. -/
def addressedRole (base address : Nat) : Option Role :=
  if address = base + roleOffset .console then some .console
  else if address = base + roleOffset .panel then some .panel
  else if address = base + roleOffset .relay then some .relay
  else none

/-- R143: the record as a write transaction begins, the check over the address byte in write form. -/
def Frame.fresh (addressByte : Byte) : Frame where
  phase := .code
  code := none
  length := none
  body := []
  check := crc8 [addressByte]

/-- R142: the completed address byte. -/
def ManagementPort.takeAddress (b : Byte) (u : ManagementPort) : ManagementPort :=
  match if u.silent then none else addressedRole u.base (b.toNat / 2) with
  | none => u.goTo .ignore false
  | some r =>
    if b.getLsbD 0 then u.goTo (.read r) true
    else (u.setFrame r (some (.fresh b))).goTo (.write r) true

/-- A byte that arrives in IGNORE is not acknowledged (R142, R148). -/
def ManagementPort.notTheirs (u : ManagementPort) : ManagementPort :=
  if u.bus = .ignore then { u with acked := false } else u

/-- ADDRESS_BYTE (R141, R142). -/
def execAddressByte (b : Byte) (s : State) : Host.Outcome State Fault Refusal :=
  onOccasion s.awake s fun s =>
    s.onPort fun u => if u.bus = .address then u.takeAddress b else u.notTheirs

/-- The role being written to and its record, when the next byte is of the given phase. -/
def ManagementPort.awaiting (u : ManagementPort) (p : Phase) : Option (Role × Frame) :=
  match u.bus with
  | .write r =>
    match u.frames.get r with
    | some f => if f.phase = p then some (r, f) else none
    | none => none
  | _ => none

/-- A frame byte is taken in the phase p; a byte that is not the part's is not acknowledged. -/
def onFrameByte (p : Phase) (s : State) (act : Role → Frame → State) : Host.Outcome State Fault Refusal :=
  .next (match s.port.awaiting p with
    | some (r, f) => act r f
    | none => s.onPort ManagementPort.notTheirs)

/-- The part refuses a byte: the record is emptied and the port moves to IGNORE. -/
def State.refuseFrame (s : State) (r : Role) : State := s.onPort fun u => (u.setFrame r none).goTo .ignore false

/-- The part acknowledges a byte and goes on with the record. -/
def State.keepFrame (s : State) (r : Role) (f : Frame) : State :=
  s.onPort fun u => { u.setFrame r (some f) with acked := true }

/-- The exchange is IN_FLIGHT. -/
def inFlightNow : Exchange → Bool
  | .inFlight _ => true
  | .noResponse | .held _ => false

/-- CODE_BYTE (R144). -/
def execCodeByte (b : Byte) (s : State) : Host.Outcome State Fault Refusal :=
  onFrameByte .code s fun r f =>
    if inFlightNow (s.exchange r) then s.refuseFrame r
    else s.keepFrame r { f with phase := .length, code := some b, check := crc8Byte f.check b }

/-- LENGTH_BYTE (R145). -/
def execLengthByte (b : Byte) (s : State) : Host.Outcome State Fault Refusal :=
  onFrameByte .length s fun r f =>
    if Config.bodyLimit < b.toNat then (s.refuseFrame r).portEvent r addOverlong
    else
      s.keepFrame r { f with
        phase := if b.toNat = 0 then .check else .body
        length := some b.toNat
        check := crc8Byte f.check b }

/-- BODY_BYTE (R146). -/
def execBodyByte (b : Byte) (s : State) : Host.Outcome State Fault Refusal :=
  onFrameByte .body s fun r f =>
    s.keepFrame r { f with
      phase := if f.length = some (f.body.length + 1) then .check else .body
      body := f.body ++ [b]
      check := crc8Byte f.check b }

/-- R147: an accepted frame becomes role r's request in flight, and is answered by the port or handed on. -/
def State.acceptFrame (s : State) (r : Role) (f : Frame) : State :=
  match rulingOn r (f.code.getD 0) f.body with
  | .answered result => s.place r (.bare result)
  | .handed i => s.setExchange r (.inFlight (some i))

/-- CHECK_BYTE (R146, R147). -/
def execCheckByte (b : Byte) (s : State) : Host.Outcome State Fault Refusal :=
  onFrameByte .check s fun r f =>
    if b = f.check then (s.onPort fun u => (u.setFrame r none).goTo .ignore true).acceptFrame r f
    else (s.refuseFrame r).portEvent r addCheck

/-! ### The response frame (R155, R156) -/

/-- R155: the status, length and body bytes of an exchange state. -/
def responseBytes : Exchange → List Byte
  | .noResponse => [resultByte .nothing, 0]
  | .inFlight _ => [resultByte .notReady, 0]
  | .held a => [resultByte a.result, byteOf a.body.length] ++ a.body

/-- R155: the address byte of a role in read form. -/
def readAddress (base : Nat) (r : Role) : Byte := byteOf (2 * (base + roleOffset r) + 1)

/-- The exchange is HELD. -/
def heldNow : Exchange → Bool
  | .held _ => true
  | .noResponse | .inFlight _ => false

/-- R155: the response frame, fixed as the status byte begins. -/
def ManagementPort.response (u : ManagementPort) (r : Role) : Sending :=
  let bytes := responseBytes (u.exchanges.get r)
  { rest := bytes ++ [crc8 (readAddress u.base r :: bytes)], fromHeld := heldNow (u.exchanges.get r) }

/-- R155, R156: one byte is sent and settled; settling the check byte of a held response releases it. -/
def ManagementPort.sendByte (u : ManagementPort) (r : Role) (f : Sending) : ManagementPort :=
  match f.rest with
  | [] => { u with sending := some f, sent := some 0xFF }
  | [b] =>
    { u with
      sending := some { f with rest := [] }
      sent := some b
      exchanges := if f.fromHeld then u.exchanges.set r .noResponse else u.exchanges }
  | b :: rest => { u with sending := some { f with rest := rest }, sent := some b }

/-- R142: the master does not acknowledge, and the port sends nothing more. -/
def ManagementPort.afterByte (masterAcks : Bool) (u : ManagementPort) : ManagementPort :=
  if masterAcks then u else u.goTo .ignore false

/-- RESPONSE_BYTE_SENT (R155, R156). -/
def execResponseByteSent (masterAcks : Bool) (s : State) : Host.Outcome State Fault Refusal :=
  .next (match s.port.bus with
    | .read r =>
      s.onPort fun u => (u.sendByte r (u.sending.getD (u.response r))).afterByte masterAcks
    | .free | .address | .write _ | .ignore => s)

/-! ### The port's own requests -/

/-- R158: the body of IDENTIFY. -/
def identifyBody (r : Role) (s : State) : List Byte :=
  le2 Config.vendorCode ++ le2 Config.partCode ++ [byteOf Config.revision, roleCode r, storeStateByte s.store.state,
    boolByte s.metering.running]

/-- IDENTIFY (R158). -/
def execIdentify (r : Role) (s : State) : Host.Outcome State Fault Refusal :=
  onRequest (.identify r) r s (reading fun s => .ok (identifyBody r s))

/-- The body of READ_PORT_COUNTS, in the order of Table 7-3. -/
def countsBody (c : PortCounts) : List Byte :=
  [byteOf c.check, byteOf c.truncated, byteOf c.timeout, byteOf c.bus, byteOf c.overlong]

/-- READ_PORT_COUNTS (R159): the counters are read and cleared together. -/
def execReadPortCounts (r : Role) (s : State) : Host.Outcome State Fault Refusal :=
  onRequest (.readPortCounts r) r s fun s =>
    (s.onPort fun u => u.count r fun _ => .zero, .ok (countsBody (s.port.counts.get r)))

/-- RESET (R160): the port falls silent and the store is told of the soft reset. -/
def execReset (r : Role) (s : State) : Host.Outcome State Fault Refusal :=
  onResetRequest (.reset r) r s fun s => ((s.onPort ManagementPort.fallSilent).send .softReset, none)

end Sys2Proof.Machine
end

