-- ==== Sys2Proof/Machine/Store.lean ====
section
/-! DEFINITION. The Profile Store (09): the image, dirty marks and activity, commits and write attempts, the soft reset and
FACTORY_CLEAR up to the load. -/

namespace Sys2Proof.Machine

/-! ### The image as bytes, for its integrity check (R174; the layout is log 12's choice) -/

/-- The format mark, as the check counts it. -/
def formatMarkBytes : List Byte := [0x4E, 0x4B]

/-- A PIN: its count, then one byte for each digit. -/
def storedPinBytes (pin : Option (List (Fin 10))) : List Byte :=
  match pin with
  | none => [0]
  | some ds => byteOf ds.length :: ds.map fun d => byteOf d

/-- The common part of a profile record, with its PIN. -/
def storedCommonBytes (c : CommonPart) : List Byte :=
  labelBytes c.label ++ storedPinBytes c.pin ++
  [byteOf c.ceiling, c.blocked.setWidth 8, unratedByte c.unrated, byteOf c.seatLimit]

/-- A profile record. -/
def storedProfileBytes : Profile → List Byte
  | .empty => [0]
  | .child c k => [1] ++ storedCommonBytes c ++ childBytes k
  | .adult c => [2] ++ storedCommonBytes c

/-- The stored fields of an account. -/
def storedAccountBytes : Option StoredAccount → List Byte
  | none => [0]
  | some a =>
    [1] ++ le2 a.bonus ++ le3 a.used ++ le3 a.overrun ++ [boolByte a.warned, byteOf a.curfewWarned.length] ++
    a.curfewWarned.map boolByte

/-- A line setting. -/
def settingBytes (l : LineSetting) : List Byte :=
  (match l.function with
    | .nothing => [0, 0xFF]
    | .boundary n => [1, byteOf n]
    | .standby => [2, 0xFF]) ++ [if l.polarity = .high then 1 else 0]

/-- The content of Table 9-1 in the order the image keeps it. -/
def contentImageBytes (c : Content) : List Byte :=
  le2 c.household.authorityLength ++ le2 c.household.lockoutLength ++ c.table.toList.flatMap storedProfileBytes ++
  c.maps.toList.flatMap (fun m => m.toList.map stepByte) ++ c.plan.toList.map dayKindByte ++ le2 c.accountDay ++
  c.accounts.toList.flatMap storedAccountBytes ++
  c.screens.toList.flatMap (fun x => [screenKindByte x.kind, byteOf x.guideWait]) ++ c.lines.toList.flatMap settingBytes

/-- R174: the integrity check over format mark and content. -/
def contentCheck (c : Content) : Half := crc16 (formatMarkBytes ++ contentImageBytes c)

/-- An image of a content, with a freshly computed check (R178). -/
def sealed (c : Content) : Image where
  formatMark := true
  check := contentCheck c
  content := c

/-! ### Snapshots (R178) -/

/-- R178: the stored state of every block as it stands; of the accounts, what the Metering Unit holds at that moment. -/
def State.storedContent (s : State) : Content where
  household := s.profiles.household
  table := s.profiles.table
  maps := s.profiles.maps
  plan := s.metering.plan
  accountDay := s.metering.accountDay
  accounts := s.metering.accounts.map fun a => a.map storedOf
  screens := Vector.ofFn fun n : Fin 4 =>
    { kind := s.screens.cells[n].kind, guideWait := s.screens.cells[n].guideWait }
  lines := Vector.ofFn fun i : Fin 4 => s.signal.lines[i].setting

/-- R168: the factory setting of a line. -/
def factorySetting : LineSetting := { function := .nothing, polarity := .high }

/-- R174: the factory content, with a given account day. -/
def factoryContent (accountDay : Nat) : Content where
  household := { authorityLength := 120, lockoutLength := 300 }
  table := factoryTable
  maps := factoryMaps
  plan := factoryPlan
  accountDay := accountDay
  accounts := put (Vector.replicate 8 none) 0
    (some { bonus := 0, used := 0, overrun := 0, warned := false, curfewWarned := [] })
  screens := #v[{ kind := .localKind, guideWait := 5 }, { kind := .localKind, guideWait := 5 },
    { kind := .remoteKind, guideWait := 5 }, { kind := .remoteKind, guideWait := 5 }]
  lines := Vector.replicate 4 factorySetting

/-! ### Commits (R178, R179) -/

/-- Writing an image over the nonvolatile image begins, at its first attempt. -/
def ProfileStore.beginWrite (t : ProfileStore) (i : Image) : ProfileStore :=
  { t with state := .writing, snapshot := some i, attempt := some .first, image := .torn }

/-- R178: a commit begins with a snapshot. -/
def State.beginCommit (s : State) : State :=
  s.withStore ({ s.store with dirty := false, rolloverUnsaved := false }.beginWrite (sealed s.storedContent))

/-- No write is under way outside a load: IDLE or FAILED. -/
def ProfileStore.resting (t : ProfileStore) : Bool := t.state == .idle || t.state == .failed

/-- R184 step 3: a commit begins at once when the store rests and is dirty. -/
def State.commitIfDirty (s : State) : State :=
  if s.store.resting && s.store.dirty then s.beginCommit else s

/-- R176, R184: a dirty mark, by the state and the reset under way. Between the end of a soft reset's last write and the
LOAD_BEGIN that follows it a mark begins one more commit, the model's choice (log 42). -/
def State.takeDirtyMark (s : State) : State :=
  let t := s.store
  if t.state = .loading then s.withStore { t with dirty := true }
  else
    match t.underWay with
    | .nothing => s.withStore { t with dirty := true, settle := some 2 }
    | .reset => (s.withStore { t with dirty := true }).commitIfDirty
    | .factoryClear _ _ => s.withStore { t with dirty := true }

/-- R176: a rollover's mark sets rollover unsaved, in every state; a commit that the mark begins has saved it. -/
def State.takeMark (s : State) (rollover : Bool) : State :=
  (if rollover then s.withStore { s.store with rolloverUnsaved := true } else s).takeDirtyMark

/-- DIRTY_MARK (R176). -/
def execDirtyMark (source : Block) (rollover : Bool) (s : State) : Host.Outcome State Fault Refusal :=
  onMessage (.dirtyMark source rollover) s fun s => s.takeMark rollover

/-- ACCOUNT_ACTIVITY (R177, R184). -/
def execAccountActivity (s : State) : Host.Outcome State Fault Refusal :=
  onMessage .accountActivity s fun s =>
    if s.store.underWay ≠ .nothing then s.takeDirtyMark
    else if s.store.snapshotTimer.isSome then s.withStore { s.store with activity := true }
    else (s.withStore { s.store with snapshotTimer := some 60 }).takeDirtyMark

/-- SNAPSHOT_TIMER_EXPIRY (R177). -/
def execSnapshotTimerExpiry (s : State) : Host.Outcome State Fault Refusal :=
  onOccasion (s.store.snapshotTimer == some 0) s fun s =>
    if s.store.activity then
      (s.withStore { s.store with activity := false, snapshotTimer := some 60 }).takeDirtyMark
    else s.withStore { s.store with snapshotTimer := none }

/-- SETTLE_EXPIRY (R178). -/
def execSettleExpiry (s : State) : Host.Outcome State Fault Refusal :=
  onOccasion (s.store.settle == some 0) s fun s => (s.withStore { s.store with settle := none }).commitIfDirty

/-! ### The end of a write attempt (R179) -/

/-- R179: the read-back equals the snapshot. -/
def ProfileStore.writeSucceeds (t : ProfileStore) : ProfileStore :=
  { t with
    state := .idle, snapshot := none, attempt := none, writeFailed := false
    image := match t.snapshot with
      | some i => .whole i
      | none => t.image }

/-- R185: what is left of the image when a write has failed twice; a factory image is told apart from any other. -/
def ProfileStore.imageLeft (t : ProfileStore) : Nonvolatile :=
  match t.underWay, t.snapshot with
  | .factoryClear _ .writing, some i => .factoryFailed i
  | _, _ => t.image

/-- R179: the retry failed too. -/
def ProfileStore.writeFails (t : ProfileStore) : ProfileStore :=
  { t with state := .failed, snapshot := none, attempt := none, writeFailed := true, image := t.imageLeft }

/-- R179: the next commit begins at once when dirty is set and the settle timer is stopped. -/
def State.commitIfSettled (s : State) : State := if s.store.settle.isNone then s.commitIfDirty else s

/-- R179, R184, R185: what follows when the write of a snapshot has ended, by the reset under way. -/
def State.afterWrite (s : State) : State :=
  match s.store.underWay with
  | .nothing => s.commitIfSettled
  | .reset => s.commitIfDirty
  | .factoryClear day .waiting =>
    s.withStore ({ s.store with underWay := .factoryClear day .writing }.beginWrite (sealed (factoryContent day)))
  | .factoryClear day .writing => s.withStore { s.store with underWay := .factoryClear day .written }
  | .factoryClear _ .written => s

/-- R179: the end of an attempt; verified says whether the read-back equals the snapshot (log 10). -/
def State.endAttempt (s : State) (verified : Bool) : State :=
  if verified then (s.withStore s.store.writeSucceeds).afterWrite
  else if s.store.attempt = some .first then s.withStore { s.store with attempt := some .retry }
  else ((s.withStore s.store.writeFails).raise .store .store).afterWrite

/-- WRITE_ATTEMPT_END (R179). -/
def execWriteAttemptEnd (verified : Bool) (s : State) : Host.Outcome State Fault Refusal :=
  onOccasion (s.store.state == .writing) s fun s => s.endAttempt verified

/-! ### Soft reset and FACTORY_CLEAR up to the load (R184, R185) -/

/-- R184: the store takes the soft reset; a FAILED store commits even when it is not dirty. -/
def State.takeSoftReset (s : State) : State :=
  let t := s.withStore { s.store with underWay := .reset, settle := none }
  if s.store.state = .failed then t.beginCommit else t.commitIfDirty

/-- SOFT_RESET (R184). -/
def execSoftReset (s : State) : Host.Outcome State Fault Refusal := onMessage .softReset s fun s => s.takeSoftReset

/-- R185 steps 2 to 5: an accepted FACTORY_CLEAR; its image is written at once unless a write is under way. -/
def State.takeFactoryClear (s : State) : State :=
  let day := s.metering.accountDay
  let t := { s.store with settle := none, rolloverUnsaved := false }
  (s.withStore (if s.store.resting then
      { t with underWay := .factoryClear day .writing }.beginWrite (sealed (factoryContent day))
    else { t with underWay := .factoryClear day .waiting })).onPort ManagementPort.fallSilent

/-- FACTORY_CLEAR (R185). -/
def execFactoryClear (r : Role) (s : State) : Host.Outcome State Fault Refusal :=
  onResetRequest (.factoryClear r) r s fun s =>
    match s.authority r with
    | none => (s, some (.bare .noAuthority))
    | some _ => (s.takeFactoryClear, none)

/-- R186: the body of READ_STORE_STATE. -/
def storeBody (t : ProfileStore) : List Byte :=
  [storeStateByte t.state, boolByte t.dirty, boolByte t.lost, boolByte t.writeFailed, byteOf (timerSeconds t.settle),
    attemptByte t.attempt]

/-- READ_STORE_STATE (R186). -/
def execReadStoreState (r : Role) (s : State) : Host.Outcome State Fault Refusal :=
  onRequest (.readStoreState r) r s (reading fun s => .ok (storeBody s.store))

end Sys2Proof.Machine
end

