-- ==== Sys2Proof/Machine/Resets.lean ====
section
/-! DEFINITION. Loads (09 R181 to R183, R187): how one begins at power-on, RESET_N and a soft reset, how the image is
judged, and what the end of the load hands to the blocks; the supply and RESET_N. -/

namespace Sys2Proof.Machine

/-! ### The beginning of a load (R181) -/

/-- 00 Table 2-2: the base address that the strap pins choose. -/
def strapBase (straps : BitVec 2) : Nat := 0x30 + 4 * straps.toNat

/-- Table 1-7: counters, lockouts and windows as a load begins. -/
def ProfileUnit.loadBegins (u : ProfileUnit) : ProfileUnit :=
  { u with failures := Vector.replicate 8 0, lockouts := Vector.replicate 8 none, windows := .same none }

/-- Table 2-6: every charge entry NONE, and no override. -/
def MeteringUnit.loadBegins (u : MeteringUnit) : MeteringUnit :=
  { u with override := none, charges := Vector.replicate 4 { profile := 0, kind := .nothing } }

/-- R30: the day-kind change that the beginning of a load may be, the pass list being empty, without messages (log 13). -/
def loadDayKindChange (before after : MeteringUnit) : MeteringUnit :=
  (dayKindChange { held := [], nextId := 1 } before after).unit

/-- R42: every curfew state is OUT while the clock is UNSET. -/
def MeteringUnit.curfewsOut (u : MeteringUnit) : MeteringUnit :=
  { u with accounts := u.accounts.map fun a => a.map fun x => { x with curfew := .outside } }

/-- Table 2-6, soft reset: the clock and the trim are kept. -/
def MeteringUnit.softLoadBegins (u : MeteringUnit) : MeteringUnit := loadDayKindChange u u.loadBegins

/-- Table 2-6, power-on and RESET_N: the clock is UNSET and the trim 0. -/
def MeteringUnit.hardLoadBegins (u : MeteringUnit) : MeteringUnit :=
  (loadDayKindChange u { u.loadBegins with running := false, second := 0, weekday := 0, trim := 0 }).curfewsOut

/-- Table 3-7: every screen DARK and seated 0, with its configuration. -/
def ScreenController.loadBegins (c : ScreenController) : ScreenController where
  cells := c.cells.map fun x => .dark x.kind x.guideWait
  requested := .awake
  standbyLevel := false

/-- Table 8-3: sets empty and nothing masked; lines keep their settings and levels until the load ends. The standby level
last reported is released until then, the model's choice (log 40). -/
def SignalUnit.loadBegins (u : SignalUnit) : SignalUnit where
  notices := .same 0
  changed := .same 0
  masks := .same 0
  lines := u.lines
  reported := false

/-- Table 9-3: the store as a load begins. -/
def ProfileStore.loadBegins (t : ProfileStore) (hard : Bool) : ProfileStore where
  state := .loading
  dirty := false
  settle := none
  snapshotTimer := none
  activity := false
  snapshot := none
  attempt := none
  lost := t.lost
  writeFailed := !hard && t.writeFailed
  underWay := .nothing
  rolloverUnsaved := !hard && t.rolloverUnsaved
  image := t.image
  hardLoad := hard

/-- Messages that a soft reset's load leaves in transit: those to the Profile Store (R176, R183, log 17). -/
def toStore (m : Instr) : Bool :=
  match m with
  | .dirtyMark _ _ | .accountActivity => true
  | _ => false

/-- What every kind of load sets as it begins, the port taking a base address. -/
def State.loadBegins (s : State) (base : Nat) (hard : Bool) : State :=
  ((((((((s.withProfiles s.profiles.loadBegins).withScreens s.screens.loadBegins).withPasses
    { held := [], nextId := 1 }).withReceiver (.cleared false false)).withCache .empty).withPort
    (.silenced base)).withSignal s.signal.loadBegins).withStore (s.store.loadBegins hard))

/-- R181, R184: the load of a soft reset begins; the clock is kept (R55). -/
def State.softLoadBegins (s : State) (straps : BitVec 2) : State :=
  ((s.loadBegins (strapBase straps) false).withMetering s.metering.softLoadBegins).withTransit (s.transit.filter toStore)

/-- R181: the load of power-on or RESET_N begins, with a new stream of reference seconds (R28). -/
def State.hardLoadBegins (s : State) (base : Nat) : State :=
  (((s.loadBegins base true).withMetering s.metering.hardLoadBegins).withTransit []).withRef
    { phase := 0, length := 32768, ticksDue := 0 }

/-- R184, R185: the soft reset's final write has ended. LOAD_BEGIN is a command of its own (log 42). -/
def ProfileStore.readyToLoad (t : ProfileStore) : Bool :=
  match t.underWay with
  | .nothing => false
  | .reset => t.resting && !t.dirty
  | .factoryClear _ stage => stage == .written

/-- LOAD_BEGIN of a soft reset (R181, R184, R185). -/
def execLoadBegin (straps : BitVec 2) (s : State) : Host.Outcome State Fault Refusal :=
  onOccasion (s.awake && s.store.readyToLoad) s fun s => s.softLoadBegins straps

/-- POWER_ON (R181): the supply has become valid. -/
def execPowerOn (straps : BitVec 2) (s : State) : Host.Outcome State Fault Refusal :=
  .next ((s.hardLoadBegins (strapBase straps)).withPower true)

/-- RESET_N_ASSERT (R162, R181): the part is held at the beginning of a load; a write under way is cut off. -/
def execResetNAssert (s : State) : Host.Outcome State Fault Refusal :=
  .next ((s.hardLoadBegins s.port.base).withResetHeld true)

/-- RESET_N_RELEASE (R181): the load begins. -/
def execResetNRelease (straps : BitVec 2) (s : State) : Host.Outcome State Fault Refusal :=
  onOccasion s.resetHeld s fun s => (s.hardLoadBegins (strapBase straps)).withResetHeld false

/-- POWER_LOSS (R181): what the store was doing ends, and all volatile state is gone. -/
def execPowerLoss (s : State) : Host.Outcome State Fault Refusal :=
  .next ((s.hardLoadBegins s.port.base).withPower false)

/-! ### Judging the image (R182) -/

/-- R1: a label of at most 12 printable characters. -/
def labelValid (l : List Byte) : Bool := decide (l.length ≤ 12) && l.all fun b => decide (0x20 ≤ b.toNat ∧ b.toNat ≤ 0x7E)

/-- R1: a PIN of 4 to 6 digits, or none. -/
def pinValid (pin : Option (List (Fin 10))) : Bool := pin.all fun ds => decide (4 ≤ ds.length ∧ ds.length ≤ 6)

/-- Table 1-1. -/
def commonValid (c : CommonPart) : Bool :=
  labelValid c.label && pinValid c.pin && decide (1 ≤ c.seatLimit ∧ c.seatLimit ≤ 4)

/-- R2: a curfew window in range, with start different from end. -/
def windowValid (w : CurfewWindow) : Bool := decide (w.start < 1440 ∧ w.stop < 1440 ∧ w.start ≠ w.stop)

/-- Table 1-2. -/
def childValid (k : ChildPart) : Bool :=
  decide (k.school ≤ 1440 ∧ k.free ≤ 1440 ∧ k.bonusCap ≤ 240 ∧ k.lead ≤ 30 ∧ k.grace ≤ 600 ∧ k.windows.length ≤ 3) &&
  k.windows.all windowValid

/-- R1, R2: one record; every ADULT record has a PIN. -/
def profileValid : Profile → Bool
  | .empty => true
  | .child c k => commonValid c && childValid k
  | .adult c => commonValid c && c.pin.isSome

/-- R2 but for the seat limit: every record valid, slot 0 not EMPTY. -/
def tableValid (table : Vector Profile 8) : Bool := table.all profileValid && table[0] != .empty

/-- R182: the account of a profile: present for CHILD alone, in range, a flag for each window, the bonus within the cap. -/
def accountValid (p : Profile) (a : Option StoredAccount) : Bool :=
  match childOf p, a with
  | some k, some a =>
    decide (a.bonus ≤ k.bonusCap * 60 ∧ a.used ≤ 86400 ∧ a.overrun ≤ 86400 ∧ a.curfewWarned.length = k.windows.length)
  | none, none => true
  | some _, none => false
  | none, some _ => false

/-- R182: every field in its range and the conditions on profiles and accounts. -/
def contentValid (c : Content) : Bool :=
  decide (30 ≤ c.household.authorityLength ∧ c.household.authorityLength ≤ 900 ∧ 60 ≤ c.household.lockoutLength ∧
    c.household.lockoutLength ≤ 3600 ∧ c.accountDay < 65536) &&
  tableValid c.table && (slots.all fun p => accountValid c.table[p] c.accounts[p]) &&
  c.screens.all fun x => decide (x.guideWait ≤ 30)

/-- R182: the image is valid. -/
def imageValid (i : Image) : Bool := i.formatMark && i.check == contentCheck i.content && contentValid i.content

/-- R182: the content that a read image gives, with store lost. -/
def judged (i : Option Image) : Content × Bool :=
  match i with
  | none => (factoryContent 0, true)
  | some i => if imageValid i then (i.content, false) else (factoryContent 0, true)

/-- What the load reads: nothing of a blank image, or of one found lost before; of a partly written one the free value; a
factory image whose write failed twice, or nothing, as the free value says (log 11). -/
def imageRead (v : Nonvolatile) (freeCount : Nat) : Option Image :=
  match v with
  | .blank | .lost => none
  | .whole i => some i
  | .torn => some (Config.tornImage freeCount)
  | .factoryFailed i => if Config.factoryFound freeCount then some i else none

/-! ### The end of the load (R183) -/

/-- R183: the Profile Unit's part. -/
def ProfileUnit.loaded (u : ProfileUnit) (c : Content) : ProfileUnit :=
  { u with table := c.table, maps := c.maps, household := c.household }

/-- R183: an account created for a CHILD profile and filled from the image. -/
def accountLoaded (p : Profile) (a : Option StoredAccount) : Option Account :=
  match childOf p, a with
  | some k, some a => some {
      terms := termsOf k, bonus := a.bonus, used := a.used, overrun := a.overrun, warned := a.warned
      curfewWarned := a.curfewWarned, curfew := .outside }
  | _, _ => none

/-- R183, Table 2-6: the Metering Unit's part; after power-on or RESET_N the day is the account day, and yesterday's kind
the plan entry for weekday 6. -/
def MeteringUnit.loaded (u : MeteringUnit) (c : Content) (hard : Bool) : MeteringUnit :=
  { u with
    plan := c.plan
    accountDay := c.accountDay
    day := if hard then c.accountDay else u.day
    yesterday := if hard then c.plan[(6 : Fin 7)] else u.yesterday
    accounts := Vector.ofFn fun p : Fin 8 => accountLoaded c.table[p] c.accounts[p] }

/-- R183 step 1: a rollover taken since the snapshot is brought to the loaded accounts, without messages. -/
def MeteringUnit.rolledOver (u : MeteringUnit) (unsaved : Bool) : MeteringUnit :=
  if unsaved then u.startDay u.day else u

/-- R30, R33: a load can change every base, by the day kind and by the terms, so each loaded account is reassessed, without
messages (log 13). -/
def MeteringUnit.reassessed (u : MeteringUnit) : MeteringUnit := (reassessAll u u).unit

/-- R183 step 2: curfew states are evaluated without messages while RUNNING; otherwise they stay OUT. -/
def MeteringUnit.curfewsSet (u : MeteringUnit) (l : PassList) : MeteringUnit := (evaluateCurfew l slots u).unit

/-- R183, R168: the Signal Unit's part: settings, levels from the pins, the standby level as its starting value. -/
def SignalUnit.loaded (u : SignalUnit) (c : Content) (pins : BitVec 4) : SignalUnit :=
  let v := { u with lines := Vector.ofFn fun i : Fin 4 => { setting := c.lines[i], level := pins.getLsbD i } }
  { v with reported := v.standbyLevel }

/-- R183: the Screen Controller's part; the box state is derived without an entry to standby (R87). -/
def ScreenController.loaded (x : ScreenController) (c : Content) (level : Bool) : ScreenController where
  cells := Vector.ofFn fun n : Fin 4 =>
    { x.cells[n] with kind := c.screens[n].kind, guideWait := c.screens[n].guideWait }
  requested := x.requested
  standbyLevel := level

/-- R183 step 3: the store's state as the load ends. -/
def ProfileStore.loaded (t : ProfileStore) (lost : Bool) : ProfileStore :=
  let dirty := t.dirty || t.rolloverUnsaved || lost
  { t with
    state := .idle, dirty := dirty, settle := if dirty then some 2 else none, lost := lost, rolloverUnsaved := false }

/-- R183: the content is handed to the blocks, and the store, the notices and the port follow. -/
def State.loadEnds (s : State) (c : Content) (lost : Bool) (pins : BitVec 4) : State :=
  let signal := s.signal.loaded c pins
  let metering := (((s.metering.loaded c s.store.hardLoad).rolledOver s.store.rolloverUnsaved).reassessed).curfewsSet
    s.passes
  (((((((s.withProfiles (s.profiles.loaded c)).withMetering metering).withSignal signal).withScreens
    (s.screens.loaded c signal.reported)).withStore (s.store.loaded lost)).withPort
    { s.port with silent := false, bus := .ignore }).raiseIf (lost || s.store.writeFailed) .store .store)

/-- The image is one that no write has verified, so that what it reads as is a free value. -/
def unverified : Nonvolatile → Bool
  | .torn | .factoryFailed _ => true
  | .blank | .whole _ | .lost => false

/-- R183: the image once a load has read it. What such an image read as stands until the next write: one found lost is still
lost at the next load (and one found valid reads the same again, log 11). -/
def imageAfterReading (v : Nonvolatile) (freeCount : Nat) : Nonvolatile :=
  if unverified v then
    match imageRead v freeCount with
    | some i => if imageValid i then .whole i else .lost
    | none => .lost
  else v

/-- Reading such an image settles it and uses up one free value (log 11). -/
def State.readsImage (s : State) : State :=
  if unverified s.store.image then
    (s.withStore { s.store with image := imageAfterReading s.store.image s.freeCount }).withFreeCount (s.freeCount + 1)
  else s

/-- LOAD_END (R182, R183); pins are the levels of IN0 to IN3 at that moment. -/
def execLoadEnd (pins : BitVec 4) (s : State) : Host.Outcome State Fault Refusal :=
  onOccasion (s.awake && s.loading) s fun s =>
    let r := judged (imageRead s.store.image s.freeCount)
    s.readsImage.loadEnds r.1 r.2 pins

end Sys2Proof.Machine
end

