-- ==== Sys2Proof/Machine/Profiles.lean ====
section
/-! DEFINITION. The Profile Unit (01): PIN checks, lockouts, authority windows, and its requests and events. -/

namespace Sys2Proof.Machine

/-! ### PIN checks and windows -/

/-- The outcome of a PIN check (R9). -/
inductive PinOutcome where
  | correct | badPin | lockedOut
  deriving DecidableEq, Repr

/-- The PIN a profile holds. -/
def pinHeld (p : Profile) : Option (List (Fin 10)) := (commonOf p).bind fun c => c.pin

/-- R9: the check on p's counter: the unit after it, the outcome, and whether a lockout began. -/
def ProfileUnit.pinCheck (u : ProfileUnit) (p : Slot) (pin : Option (List (Fin 10))) :
    ProfileUnit × PinOutcome × Bool :=
  if u.lockouts[p].isSome then (u, .lockedOut, false)
  else
    match pin with
    | none => (u, .badPin, false)
    | some digits =>
      if pinHeld u.table[p] = some digits then ({ u with failures := put u.failures p 0 }, .correct, false)
      else if u.failures[p] + 1 < 5 then ({ u with failures := put u.failures p (u.failures[p] + 1) }, .badPin, false)
      else ({ u with failures := put u.failures p 5, lockouts := put u.lockouts p (some u.household.lockoutLength) },
        .lockedOut, true)

/-- R9 as part of an act; the start of a lockout raises AUTHORITY. -/
def State.pinCheck (s : State) (p : Slot) (pin : Option (List (Fin 10))) : State × PinOutcome :=
  let r := s.profiles.pinCheck p pin
  ((s.withProfiles r.1).raiseIf r.2.2 .profile .authority, r.2.1)

/-- R11: counter 0, and a running lockout ends. -/
def ProfileUnit.release (u : ProfileUnit) (p : Slot) : ProfileUnit :=
  { u with failures := put u.failures p 0, lockouts := put u.lockouts p none }

/-- R14: every window whose opener is p closes. -/
def ProfileUnit.closeOpenedBy (u : ProfileUnit) (p : Slot) : ProfileUnit :=
  let f := fun w : Option Window => w.filter fun x => x.opener != p
  { u with windows := { console := f u.windows.console, panel := f u.windows.panel, relay := f u.windows.relay } }

/-- R76: the number of live screens on which p is seated. -/
def State.liveSeats (s : State) (p : Slot) : Nat :=
  (screenNumbers.filter fun n => s.screens.cells[n].live && s.screens.cells[n].seat == p).length

/-- R19: p is seated on some screen, in any state. -/
def State.seated (s : State) (p : Slot) : Bool := screenNumbers.any fun n => s.screens.cells[n].seat == p

/-- R18, R19, R25: what follows every accepted edit or clear of slot p. -/
def State.profileEdited (s : State) (p : Slot) : State :=
  (((s.send (.profileChangedMetering (.one p))).send (.profileChanged (.one p))).markDirty .profile).raise
    .profile .authority

/-! ### Requests -/

/-- READ_PROFILE (R16). -/
def execReadProfile (r : Role) (slot : Byte) (s : State) : Host.Outcome State Fault Refusal :=
  onRequest (.readProfile r slot) r s (reading fun s =>
    match slotOf slot with
    | none => .bare .badValue
    | some p => .ok (readImage s.profiles.table[p] s.profiles.failures[p] s.profiles.lockouts[p]))

/-- R19: the effects of a clear. -/
def State.emptySlot (s : State) (p : Slot) : State :=
  (((s.withProfiles ({ s.profiles with table := put s.profiles.table p .empty }.release p |>.closeOpenedBy p)).send
    (.dropProfile p))).profileEdited p

/-- R19 after its authority check, for a slot in 0..7. -/
def clearSlot (p : Slot) (s : State) : State × Answer :=
  if p = 0 then refuse s .badValue
  else if s.profiles.table[p] = .empty then (s, .ok [])
  else if s.seated p then refuse s .inUse
  else (s.emptySlot p, .ok [])

/-- R17: the PIN that results from the choice. -/
def pinResulting (choice : PinChoice) (old : Profile) : Option (List (Fin 10)) :=
  match choice with
  | .keep => pinHeld old
  | .remove => none
  | .fresh digits => some digits

/-- R18: the record an edit writes. -/
def profileWritten (e : Edit) (pin : Option (List (Fin 10))) : Profile :=
  match e.child with
  | some k => .child { e.common with pin := pin } k
  | none => .adult { e.common with pin := pin }

/-- R18: the Profile Unit after an accepted edit: the record, the lockout state by R11, the windows by R14. -/
def ProfileUnit.edited (u : ProfileUnit) (p : Slot) (e : Edit) : ProfileUnit :=
  let written := { u with table := put u.table p (profileWritten e (pinResulting e.choice u.table[p])) }
  let released := if e.choice = .keep then written else written.release p
  if e.child.isSome then released.closeOpenedBy p else released

/-- R17 steps 4 to 6 and R18. -/
def editSlot (p : Slot) (image : EditImage) (s : State) : State × Answer :=
  match editOf image with
  | none => refuse s .badValue
  | some e =>
    if e.child = none ∧ pinResulting e.choice s.profiles.table[p] = none then refuse s .badValue
    else if e.common.seatLimit < s.liveSeats p then refuse s .badValue
    else ((s.withProfiles (s.profiles.edited p e)).profileEdited p, .ok [])

/-- EDIT_PROFILE (R17, R18). -/
def execEditProfile (r : Role) (slot : Byte) (image : EditImage) (s : State) : Host.Outcome State Fault Refusal :=
  onRequest (.editProfile r slot image) r s fun s => underAuthority r s fun _ =>
    match slotOf slot with
    | none => refuse s .badValue
    | some p => if image.kind = 0 then clearSlot p s else editSlot p image s

/-- CLEAR_PROFILE (R19). -/
def execClearProfile (r : Role) (slot : Byte) (s : State) : Host.Outcome State Fault Refusal :=
  onRequest (.clearProfile r slot) r s fun s => underAuthority r s fun _ =>
    match slotOf slot with
    | none => refuse s .badValue
    | some p => clearSlot p s

/-- R12: role r's window opens or restarts with opener p. -/
def State.openWindow (s : State) (r : Role) (p : Slot) : State :=
  (s.withProfiles { s.profiles with
    windows := s.profiles.windows.set r (some { opener := p, seconds := s.profiles.household.authorityLength }) }).raise
    .profile .authority

/-- R21: the answer and the window, after the PIN check. -/
def verified (r : Role) (p : Slot) (c : State × PinOutcome) : State × Answer :=
  match c.2 with
  | .badPin => (c.1, .bare .badPin)
  | .lockedOut => (c.1, .bare .lockedOut)
  | .correct =>
    if isAdult c.1.profiles.table[p] then
      (c.1.openWindow r p, .ok (le2 c.1.profiles.household.authorityLength))
    else (c.1, .ok (le2 0))

/-- VERIFY_PIN (R21). -/
def execVerifyPin (r : Role) (slot : Byte) (pin : RawPin) (s : State) : Host.Outcome State Fault Refusal :=
  onRequest (.verifyPin r slot pin) r s fun s =>
    match slotOf slot, pinOf pin with
    | some p, some digits =>
      if s.profiles.table[p] = .empty then refuse s .notFound
      else if pinHeld s.profiles.table[p] = none then refuse s .badValue
      else verified r p (s.pinCheck p (some digits))
    | _, _ => refuse s .badValue

/-- R14, R22: role r's window closes, with an AUTHORITY notice if it was open. -/
def State.closeWindow (s : State) (r : Role) : State :=
  (s.withProfiles { s.profiles with windows := s.profiles.windows.set r none }).raiseIf
    (s.profiles.windows.get r).isSome .profile .authority

/-- END_AUTHORITY (R22). -/
def execEndAuthority (r : Role) (s : State) : Host.Outcome State Fault Refusal :=
  onRequest (.endAuthority r) r s fun s => (s.closeWindow r, .ok [])

/-- R22: the body of READ_AUTHORITY. -/
def authorityBody (w : Option Window) : List Byte :=
  match w with
  | none => [0, 0xFF] ++ le2 0
  | some w => [1, byteOf w.opener] ++ le2 (secondsShown w.seconds)

/-- READ_AUTHORITY (R22). -/
def execReadAuthority (r : Role) (s : State) : Host.Outcome State Fault Refusal :=
  onRequest (.readAuthority r) r s (reading fun s => .ok (authorityBody (s.profiles.windows.get r)))

/-- READ_SCHEME_MAP (R23). -/
def execReadSchemeMap (r : Role) (scheme : Byte) (s : State) : Host.Outcome State Fault Refusal :=
  onRequest (.readSchemeMap r scheme) r s (reading fun s =>
    match screenOf scheme with
    | none => .bare .badValue
    | some n => .ok (s.profiles.maps[n].toList.map stepByte))

/-- Write 32 entries as a map, keeping the old entry where the list is short. -/
def mapOf (old : SchemeMap) (es : List (Option (Fin 16))) : SchemeMap :=
  (List.finRange 32).foldl (fun m i => put m i (es.getD i.val m[i])) old

/-- R23: an accepted replacement of a map. -/
def State.replaceMap (s : State) (n : Fin 4) (es : List (Option (Fin 16))) : State :=
  ((((s.withProfiles { s.profiles with maps := put s.profiles.maps n (mapOf s.profiles.maps[n] es) }).send
    (.profileChangedMetering .all)).send (.profileChanged .all)).markDirty .profile).raise .profile .authority

/-- SET_SCHEME_MAP (R23). -/
def execSetSchemeMap (r : Role) (scheme : Byte) (entries : List Byte) (s : State) : Host.Outcome State Fault Refusal :=
  onRequest (.setSchemeMap r scheme entries) r s fun s => underAuthority r s fun _ =>
    match screenOf scheme, mapEntriesOf entries with
    | some n, some es => (s.replaceMap n es, .ok [])
    | _, _ => refuse s .badValue

/-- SET_HOUSEHOLD (R24). -/
def execSetHousehold (r : Role) (authority lockout : Half) (s : State) : Host.Outcome State Fault Refusal :=
  onRequest (.setHousehold r authority lockout) r s fun s => underAuthority r s fun _ =>
    if 30 ≤ authority.toNat ∧ authority.toNat ≤ 900 ∧ 60 ≤ lockout.toNat ∧ lockout.toNat ≤ 3600 then
      (((s.withProfiles { s.profiles with
          household := { authorityLength := authority.toNat, lockoutLength := lockout.toNat } }).markDirty
        .profile).raise .profile .authority, .ok [])
    else refuse s .badValue

/-! ### Events -/

/-- LOCKOUT_EXPIRY (R10): the timer of p has reached 0. -/
def execLockoutExpiry (p : Slot) (s : State) : Host.Outcome State Fault Refusal :=
  onOccasion (s.profiles.lockouts[p] == some 0) s fun s =>
    (s.withProfiles (s.profiles.release p)).raise .profile .authority

/-- WINDOW_EXPIRY (R13): the seconds of role r's window have reached 0. -/
def execWindowExpiry (r : Role) (s : State) : Host.Outcome State Fault Refusal :=
  onOccasion ((s.profiles.windows.get r).any fun w => w.seconds == 0) s fun s => s.closeWindow r

/-- STANDBY_ENTRY_REPORT (R14): every window closes. -/
def execStandbyEntryReport (s : State) : Host.Outcome State Fault Refusal :=
  onMessage .standbyEntryReport s fun s =>
    (s.withProfiles { s.profiles with windows := .same none }).raiseIf
      (s.profiles.windows.console.isSome || s.profiles.windows.panel.isSome || s.profiles.windows.relay.isSome)
      .profile .authority

end Sys2Proof.Machine
end

