-- ==== Sys2Proof/Machine/Screens.lean ====
section
/-! DEFINITION. The requests of the Screen Controller and the messages and expiries it takes (03). -/

namespace Sys2Proof.Machine

/-! ### Checks -/

/-- Table 3-1: the tuning owner of a screen. -/
def tuningOwner (x : Screen) : Role :=
  match x.kind with
  | .localKind => .console
  | .remoteKind => .relay

/-- The screen a request names, whose role must satisfy a condition: BAD_VALUE, then NOT_PERMITTED (R82 to R84). -/
def onScreen (n : Byte) (permitted : Screen → Bool) (s : State) (act : ScreenNo → State × Answer) : State × Answer :=
  match screenOf n with
  | none => refuse s .badValue
  | some m => if permitted s.screens.cells[m] then act m else refuse s .notPermitted

/-- R76: p is seated on fewer live screens than its seat limit. -/
def State.seatFree (s : State) (p : Slot) : Bool :=
  match commonOf s.profiles.table[p] with
  | none => false
  | some c => decide (s.liveSeats p < c.seatLimit)

/-! ### CONFIGURE_SCREEN (R81) -/

/-- R81 step 1. -/
def configOf (kind wait : Byte) : Option ScreenConfig :=
  if 30 < wait.toNat then none
  else if kind = 0 then some { kind := .localKind, guideWait := wait.toNat }
  else if kind = 1 then some { kind := .remoteKind, guideWait := wait.toNat }
  else none

/-- CONFIGURE_SCREEN (R81): marks dirty and raises SCREEN even when the configuration is the one held. -/
def execConfigureScreen (r : Role) (n kind wait : Byte) (s : State) : Host.Outcome State Fault Refusal :=
  onRequest (.configureScreen r n kind wait) r s fun s =>
    match screenOf n, configOf kind wait with
    | some m, some c =>
      if s.screens.cells[m].live then refuse s .wrongState
      else
        (((s.setScreen m { s.screens.cells[m] with kind := c.kind, guideWait := c.guideWait }).markDirty
          .screen).raiseScreens (screenBit m), .ok [])
    | _, _ => refuse s .badValue

/-! ### SEAT (R82, R77) -/

/-- R77: the accepted reseat of screen n to profile p. -/
def State.reseat (s : State) (n : ScreenNo) (p : Slot) : State :=
  let t := (s.endCharge n).send (.dropScreen n)
  let u := t.setScreen n { t.screens.cells[n] with seat := p }
  if s.screens.cells[n].state = .dark ∨ s.screens.cells[n].state = .waiting then u.settleCharge n
  else u.test n false true

/-- The slot argument of SEAT: 0xFF is absent and stands for profile 0 (R82, R190). -/
def seatSlot (slot : Byte) : Option Slot := if slot = 0xFF then some 0 else slotOf slot

/-- R82 step 8 and the change of seat. -/
def seatChecked (n : ScreenNo) (p : Slot) (s : State) : State × Answer :=
  if s.screens.cells[n].live && !s.seatFree p then refuse s .seatLimit
  else (s.screenAct fun s => s.reseat n p, .ok [])

/-- R82 steps 5 to 8. -/
def seatProfile (n : ScreenNo) (p : Slot) (pin : Option (List (Fin 10))) (s : State) : State × Answer :=
  if s.profiles.table[p] = .empty then refuse s .notFound
  else if p = s.screens.cells[n].seat then (s, .ok [])
  else if pinHeld s.profiles.table[p] = none then seatChecked n p s
  else
    match s.pinCheck p pin with
    | (t, .correct) => seatChecked n p t
    | (t, .badPin) => refuse t .badPin
    | (t, .lockedOut) => refuse t .lockedOut

/-- SEAT (R82). -/
def execSeat (r : Role) (n slot : Byte) (pin : RawPin) (s : State) : Host.Outcome State Fault Refusal :=
  onRequest (.seat r n slot pin) r s fun s =>
    onScreen n (fun x => r == .panel || tuningOwner x == r) s fun m =>
      if s.screens.box = .standby then refuse s .standby
      else
        match seatSlot slot, pinArgument pin with
        | some p, some digits => seatProfile m p digits s
        | _, _ => refuse s .badValue

/-! ### TUNE (R83, R64) -/

/-- R83 step 4: a service with its descriptor, for service 0 only. -/
def tuneContent (service : Half) (d : Option RawDescriptor) : Option (Option Descriptor) :=
  if service = 0 then
    match d with
    | some d => (descriptorOf d).map some
    | none => none
  else
    match d with
    | some _ => none
    | none => some none

/-- R64 step 2: the service and descriptor become those given. -/
def tunedRecord (x : Screen) (service : Half) (d : Option Descriptor) : Screen :=
  { x with service := some service, descriptor := d, event := none, timer := none }

/-- R64 step 3: the screen waits for its current event. -/
def State.waitsFor (s : State) (n : ScreenNo) (service : Half) : Bool :=
  service != 0 && (s.cache.currentOf service).isNone && decide (0 < s.screens.cells[n].guideWait)

/-- R64: an accepted TUNE moves the screen. A wait leaves the override as the latest test left it. -/
def State.tuneTo (s : State) (n : ScreenNo) (service : Half) (d : Option Descriptor) : State :=
  let wasLive := s.screens.cells[n].live
  let t := if wasLive then (s.endCharge n).send (.dropScreen n) else s
  let x := tunedRecord t.screens.cells[n] service d
  if s.waitsFor n service then
    (t.setScreen n { x.become .waiting none (some x.guideWait) with step := none }).settleCharge n
  else (t.setScreen n x).test n false wasLive

/-- R83: the answer of an accepted TUNE holds the state the screen is in. -/
def tuneAnswer (n : ScreenNo) (s : State) : State × Answer := (s, .ok [screenStateByte s.screens.cells[n].state])

/-- R83 steps 5 and 6, and R64. -/
def tuneChecked (n : ScreenNo) (service : Half) (d : Option Descriptor) (s : State) : State × Answer :=
  let x := s.screens.cells[n]
  if x.live && x.service == some service && x.descriptor == d then tuneAnswer n s
  else if !x.live && !s.seatFree x.seat then refuse s .seatLimit
  else tuneAnswer n (s.screenAct fun s => s.tuneTo n service d)

/-- TUNE (R83). -/
def execTune (r : Role) (n : Byte) (service : Half) (d : Option RawDescriptor) (s : State) :
    Host.Outcome State Fault Refusal :=
  onRequest (.tune r n service d) r s fun s =>
    onScreen n (fun x => tuningOwner x == r) s fun m =>
      if s.screens.box = .standby then refuse s .standby
      else
        match tuneContent service d with
        | some c => tuneChecked m service c s
        | none => refuse s .badValue

/-! ### The other requests -/

/-- SCREEN_OFF (R84, R69). -/
def execScreenOff (r : Role) (n : Byte) (s : State) : Host.Outcome State Fault Refusal :=
  onRequest (.screenOff r n) r s fun s =>
    onScreen n (fun x => tuningOwner x == r) s fun m => (s.screenAct fun s => s.darken m, .ok [])

/-- MARK (R84, R71). -/
def execMark (r : Role) (n : Byte) (s : State) : Host.Outcome State Fault Refusal :=
  onRequest (.mark r n) r s fun s =>
    onScreen n (fun x => tuningOwner x == r) s fun m => (s.screenAct fun s => s.endClosing m, .ok [])

/-- The content form of READ_SCREEN and its event block (10 Tables 10-1, 10-3). The block of a live broadcast screen whose copy
is none is sent as 0, the model's choice (log 43): R191 says so of a DARK screen alone. -/
def contentImage (x : Screen) : Byte × List Byte :=
  match x.service, x.descriptor, x.event with
  | none, _, _ => (0, zeroBlock)
  | some _, some d, _ => (1, descriptorBlock d)
  | some _, none, some e => (2, eventBlock e)
  | some _, none, none => (3, zeroBlock)

/-- R85: the screen image. -/
def State.screenImage (s : State) (n : ScreenNo) : List Byte :=
  let x := s.screens.cells[n]
  [screenKindByte x.kind, byteOf x.guideWait, byteOf x.seat, screenStateByte x.state, reasonByte x.reason,
    (contentImage x).1] ++
  le2 (x.service.getD 0).toNat ++ (contentImage x).2 ++ [stepByte x.step, boolByte x.override] ++
  le2 (timerSeconds x.timer) ++
  [chargeByte x.charge, boolByte (s.gate n), boxByte s.screens.box, boxByte s.screens.requested,
    boolByte s.screens.standbyLevel]

/-- READ_SCREEN (R85). -/
def execReadScreen (r : Role) (n : Byte) (s : State) : Host.Outcome State Fault Refusal :=
  onRequest (.readScreen r n) r s (reading fun s =>
    match screenOf n with
    | none => .bare .badValue
    | some m => .ok (s.screenImage m))

/-- SET_BOX (R86): an unlisted value is answered OK and discarded. -/
def execSetBox (r : Role) (box : Byte) (s : State) : Host.Outcome State Fault Refusal :=
  onRequest (.setBox r box) r s fun s =>
    (if box = 0 then s.setBoxInputs .awake s.screens.standbyLevel
      else if box = 1 then s.setBoxInputs .standby s.screens.standbyLevel
      else s, .ok [])

/-! ### Messages (R70, R73 to R75) -/

/-- The screens a time message concerning p tests (R73). -/
def State.retestSeated (s : State) (p : Slot) : State := s.screenAct fun s => s.retestWhere fun _ x => x.seat == p

/-- Every live screen that does not wait is tested (R73, R74). -/
def State.retestAll (s : State) : State := s.screenAct fun s => s.retestWhere fun _ _ => true

/-- WARN (R73). -/
def execWarn (p : Slot) (reason : WarnReason) (s : State) : Host.Outcome State Fault Refusal :=
  onMessage (.warn p reason) s fun s => s.retestSeated p

/-- EXHAUSTED (R73). -/
def execExhausted (p : Slot) (s : State) : Host.Outcome State Fault Refusal :=
  onMessage (.exhausted p) s fun s => s.retestSeated p

/-- REPLENISHED (R73). -/
def execReplenished (p : Slot) (s : State) : Host.Outcome State Fault Refusal :=
  onMessage (.replenished p) s fun s => s.retestSeated p

/-- CURFEW_ON (R73). -/
def execCurfewOn (p : Slot) (s : State) : Host.Outcome State Fault Refusal :=
  onMessage (.curfewOn p) s fun s => s.retestSeated p

/-- CURFEW_OFF (R73). -/
def execCurfewOff (p : Slot) (s : State) : Host.Outcome State Fault Refusal :=
  onMessage (.curfewOff p) s fun s => s.retestSeated p

/-- ROLLOVER taken by the Screen Controller (R73). -/
def execRolloverTaken (s : State) : Host.Outcome State Fault Refusal :=
  onMessage .rolloverTaken s fun s => s.retestAll

/-- CLOCK_SET taken by the Screen Controller (R73). -/
def execClockSet (s : State) : Host.Outcome State Fault Refusal :=
  onMessage .clockSet s fun s => s.retestAll

/-- PROFILE_CHANGED taken by the Screen Controller (R74). -/
def execProfileChanged (which : ProfileRef) (s : State) : Host.Outcome State Fault Refusal :=
  onMessage (.profileChanged which) s fun s =>
    match which with
    | .one p => s.retestSeated p
    | .all => s.retestAll

/-- R75: the screens that a pass message tests. -/
def State.retestForPass (s : State) (scope : PassScope) : State :=
  match scope with
  | .content n _ => s.screenAct fun s => s.retestWhere fun m _ => m == n
  | .curfew p => s.retestSeated p

/-- PASS_ADDED taken by the Screen Controller (R75). -/
def execPassAdded (pass : PassNote) (s : State) : Host.Outcome State Fault Refusal :=
  onMessage (.passAdded pass) s fun s => s.retestForPass pass.scope

/-- PASS_REMOVED taken by the Screen Controller (R75). -/
def execPassRemoved (pass : PassNote) (s : State) : Host.Outcome State Fault Refusal :=
  onMessage (.passRemoved pass) s fun s => s.retestForPass pass.scope

/-- R65: a WAITING screen whose service now has a current event is tested from a closed gate. -/
def State.endWait (s : State) (n : ScreenNo) (service : Half) : State :=
  if (s.cache.currentOf service).isSome then s.test n false false else s

/-- R70, R65: EVENT_CHANGE for one screen. -/
def State.eventChanged (s : State) (service : Half) (n : ScreenNo) : State :=
  if s.screens.cells[n].service = some service ∧ service ≠ 0 then
    (if s.screens.cells[n].state = .waiting then s.endWait n service else s.retest n)
  else s

/-- EVENT_CHANGE (R70): the screens of the service in order, 0 to 3, the model's choice (log 38). -/
def execEventChange (service : Half) (s : State) : Host.Outcome State Fault Refusal :=
  onMessage (.eventChange service) s fun s =>
    s.screenAct fun s => screenNumbers.foldl (fun t n => t.eventChanged service n) s

/-- BOUNDARY_MARK (R71, R67). -/
def execBoundaryMark (n : ScreenNo) (s : State) : Host.Outcome State Fault Refusal :=
  onMessage (.boundaryMark n) s fun s => s.screenAct fun s => s.endClosing n

/-- STANDBY_LEVEL (R78). -/
def execStandbyLevel (asserted : Bool) (s : State) : Host.Outcome State Fault Refusal :=
  onMessage (.standbyLevel asserted) s fun s => s.setBoxInputs s.screens.requested asserted

/-! ### Expiries (R65, R67) -/

/-- The timer of a screen in a state has reached 0. -/
def State.screenTimerDue (s : State) (n : ScreenNo) (st : ScreenState) : Bool :=
  s.screens.cells[n].state == st && s.screens.cells[n].timer == some 0

/-- GUIDE_WAIT_EXPIRY (R65): the waiting screen is tested from a closed gate. -/
def execGuideWaitExpiry (n : ScreenNo) (s : State) : Host.Outcome State Fault Refusal :=
  onOccasion (s.screenTimerDue n .waiting) s fun s => s.screenAct fun s => s.test n false false

/-- GRACE_EXPIRY (R67): the closing screen goes to EXPIRED with its reason. -/
def execGraceExpiry (n : ScreenNo) (s : State) : Host.Outcome State Fault Refusal :=
  onOccasion (s.screenTimerDue n .closing) s fun s => s.screenAct fun s => s.endClosing n

end Sys2Proof.Machine
end

