-- ==== Sys2Proof/Machine/Signals.lean ====
section
/-! DEFINITION. The Signal Unit (08): notices, masks, input lines, the standby level. -/

namespace Sys2Proof.Machine

/-! ### Notices (R163 to R167) -/

/-- R163: one role's share of a notice message. -/
def SignalUnit.noticeFor (u : SignalUnit) (category : Category) (screens : ScreenSet) (r : Role) : SignalUnit :=
  { u with
    notices := u.notices.set r (u.notices.get r ||| categoryBit category)
    changed := if category = .screen then u.changed.set r (u.changed.get r ||| screens) else u.changed }

/-- The three roles in order. -/
def allRoles : List Role := [.console, .panel, .relay]

/-- R163: a notice message, for each role it concerns. -/
def SignalUnit.take (u : SignalUnit) (category : Category) (roles : Concerned) (screens : ScreenSet) : SignalUnit :=
  allRoles.foldl (fun v r => if concerns roles r then v.noticeFor category screens r else v) u

/-- NOTICE (R163). -/
def execNotice (source : Block) (category : Category) (roles : Concerned) (screens : ScreenSet) (s : State) :
    Host.Outcome State Fault Refusal :=
  onMessage (.notice source category roles screens) s fun s => s.withSignal (s.signal.take category roles screens)

/-- R166: the body of GET_NOTICES. -/
def noticesBody (u : SignalUnit) (r : Role) : List Byte :=
  [(u.notices.get r).setWidth 8, (u.changed.get r).setWidth 8, (u.masks.get r).setWidth 8]

/-- GET_NOTICES (R166). A notice message still in transit may be taken before it or after it, also one sent while the request is in
flight, the model's choice (log 45). -/
def execGetNotices (r : Role) (s : State) : Host.Outcome State Fault Refusal :=
  onRequest (.getNotices r) r s fun s =>
    (s.withSignal { s.signal with notices := s.signal.notices.set r 0, changed := s.signal.changed.set r 0 },
      .ok (noticesBody s.signal r))

/-- SET_NOTICE_MASK (R167). -/
def execSetNoticeMask (r : Role) (mask : Byte) (s : State) : Host.Outcome State Fault Refusal :=
  onRequest (.setNoticeMask r mask) r s fun s =>
    if mask.toNat < 64 then
      (s.withSignal { s.signal with masks := s.signal.masks.set r (mask.setWidth 6) }, .ok [])
    else refuse s .badValue

/-! ### Lines (R168 to R172) -/

/-- R170: a change of the standby level is reported to the Screen Controller. -/
def State.reportStandby (s : State) : State :=
  if s.signal.standbyLevel = s.signal.reported then s
  else (s.withSignal { s.signal with reported := s.signal.standbyLevel }).send (.standbyLevel s.signal.standbyLevel)

/-- R169: an assertion of a BOUNDARY line gives a mark. -/
def State.markFor (s : State) (f : LineFunction) : State :=
  match f with
  | .boundary n => s.send (.boundaryMark n)
  | .nothing | .standby => s

/-- R168: a line takes a new level. -/
def State.setLine (s : State) (i : Fin 4) (l : Line) : State :=
  s.withSignal { s.signal with lines := put s.signal.lines i l }

/-- R168 to R170: a level change of a line. -/
def State.takeLevel (s : State) (i : Fin 4) (high : Bool) : State :=
  let l := s.signal.lines[i]
  let after : Line := { l with level := high }
  let t := s.setLine i after
  (if !l.asserted && after.asserted then t.markFor l.setting.function else t).reportStandby

/-- LEVEL_CHANGE (R168): none is taken during a load, and a level that is held already is no change. -/
def execLevelChange (line : Fin 4) (high : Bool) (s : State) : Host.Outcome State Fault Refusal :=
  onOccasion (s.awake && !s.loading && s.signal.lines[line].level != high) s fun s => s.takeLevel line high

/-- R171 step 2, 10 Table 10-1: NONE 0, BOUNDARY 1 with a screen, STANDBY 2; 0xFF where there is no screen. -/
def lineFunctionOf (function screen : Byte) : Option LineFunction :=
  if function = 0 then (if screen = 0xFF then some .nothing else none)
  else if function = 1 then (screenOf screen).map .boundary
  else if function = 2 then (if screen = 0xFF then some .standby else none)
  else none

/-- HIGH 1, LOW 0. -/
def polarityOf (b : Byte) : Option Polarity := if b = 1 then some .high else if b = 0 then some .low else none

/-- SET_LINE_FUNCTION (R171): no mark is given by it. -/
def execSetLineFunction (r : Role) (line function screen polarity : Byte) (s : State) :
    Host.Outcome State Fault Refusal :=
  onRequest (.setLineFunction r line function screen polarity) r s fun s =>
    match screenOf line, lineFunctionOf function screen, polarityOf polarity with
    | some i, some f, some p =>
      (((s.setLine i { s.signal.lines[i] with setting := { function := f, polarity := p } }).reportStandby).markDirty
        .signal, .ok [])
    | _, _, _ => refuse s .badValue

/-- The function and screen bytes of a line; for NONE and STANDBY the screen byte is 0xFF, the model's choice (log 41). -/
def functionBytes : LineFunction → List Byte
  | .nothing => [0, 0xFF]
  | .boundary n => [1, byteOf n]
  | .standby => [2, 0xFF]

/-- HIGH 1, LOW 0. -/
def polarityByte : Polarity → Byte
  | .high => 1
  | .low => 0

/-- R172: the five bytes of one line. -/
def lineBytes (l : Line) : List Byte :=
  functionBytes l.setting.function ++ [polarityByte l.setting.polarity, boolByte l.level, boolByte l.asserted]

/-- READ_LINES (R172). -/
def execReadLines (r : Role) (s : State) : Host.Outcome State Fault Refusal :=
  onRequest (.readLines r) r s (reading fun s =>
    .ok (s.signal.lines.toList.flatMap lineBytes ++ [boolByte s.signal.reported]))

end Sys2Proof.Machine
end

