-- ==== Sys2Proof/Machine/Dispatch.lean ====
section
/-! DEFINITION. exec: one arm for each command, each a call of its meaning. -/

namespace Sys2Proof.Machine

/-- The effect of a command on everything but the queue. -/
def exec (i : Instr) (s : State) : Host.Outcome State Fault Refusal :=
  match i with
  | .identify r => Sys2Proof.Machine.execIdentify r s
  | .readPortCounts r => Sys2Proof.Machine.execReadPortCounts r s
  | .reset r => Sys2Proof.Machine.execReset r s
  | .readProfile r slot => Sys2Proof.Machine.execReadProfile r slot s
  | .editProfile r slot image => Sys2Proof.Machine.execEditProfile r slot image s
  | .clearProfile r slot => Sys2Proof.Machine.execClearProfile r slot s
  | .verifyPin r slot pin => Sys2Proof.Machine.execVerifyPin r slot pin s
  | .endAuthority r => Sys2Proof.Machine.execEndAuthority r s
  | .readAuthority r => Sys2Proof.Machine.execReadAuthority r s
  | .readSchemeMap r scheme => Sys2Proof.Machine.execReadSchemeMap r scheme s
  | .setSchemeMap r scheme entries => Sys2Proof.Machine.execSetSchemeMap r scheme entries s
  | .setHousehold r authority lockout => Sys2Proof.Machine.execSetHousehold r authority lockout s
  | .readClock r => Sys2Proof.Machine.execReadClock r s
  | .setClock r time weekday => Sys2Proof.Machine.execSetClock r time weekday s
  | .setTrim r trim => Sys2Proof.Machine.execSetTrim r trim s
  | .readAccount r slot => Sys2Proof.Machine.execReadAccount r slot s
  | .grantBonus r slot minutes => Sys2Proof.Machine.execGrantBonus r slot minutes s
  | .setWeekPlan r kinds => Sys2Proof.Machine.execSetWeekPlan r kinds s
  | .setTodayKind r kind => Sys2Proof.Machine.execSetTodayKind r kind s
  | .configureScreen r n kind guideWait => Sys2Proof.Machine.execConfigureScreen r n kind guideWait s
  | .seat r n slot pin => Sys2Proof.Machine.execSeat r n slot pin s
  | .tune r n service descriptor => Sys2Proof.Machine.execTune r n service descriptor s
  | .screenOff r n => Sys2Proof.Machine.execScreenOff r n s
  | .mark r n => Sys2Proof.Machine.execMark r n s
  | .readScreen r n => Sys2Proof.Machine.execReadScreen r n s
  | .setBox r box => Sys2Proof.Machine.execSetBox r box s
  | .grantPass r kind target endTime => Sys2Proof.Machine.execGrantPass r kind target endTime s
  | .revokePass r id => Sys2Proof.Machine.execRevokePass r id s
  | .listPasses r => Sys2Proof.Machine.execListPasses r s
  | .linkReset r => Sys2Proof.Machine.execLinkReset r s
  | .readLinkCounts r => Sys2Proof.Machine.execReadLinkCounts r s
  | .readEvent r service time => Sys2Proof.Machine.execReadEvent r service time s
  | .listEvents r service day minute => Sys2Proof.Machine.execListEvents r service day minute s
  | .readDirectory r index => Sys2Proof.Machine.execReadDirectory r index s
  | .getNotices r => Sys2Proof.Machine.execGetNotices r s
  | .setNoticeMask r mask => Sys2Proof.Machine.execSetNoticeMask r mask s
  | .setLineFunction r line function screen polarity => Sys2Proof.Machine.execSetLineFunction r line function screen polarity s
  | .readLines r => Sys2Proof.Machine.execReadLines r s
  | .factoryClear r => Sys2Proof.Machine.execFactoryClear r s
  | .readStoreState r => Sys2Proof.Machine.execReadStoreState r s
  | .startCondition withinByte => Sys2Proof.Machine.execStartCondition withinByte s
  | .stopCondition withinByte => Sys2Proof.Machine.execStopCondition withinByte s
  | .addressByte b => Sys2Proof.Machine.execAddressByte b s
  | .codeByte b => Sys2Proof.Machine.execCodeByte b s
  | .lengthByte b => Sys2Proof.Machine.execLengthByte b s
  | .bodyByte b => Sys2Proof.Machine.execBodyByte b s
  | .checkByte b => Sys2Proof.Machine.execCheckByte b s
  | .responseByteSent masterAcks => Sys2Proof.Machine.execResponseByteSent masterAcks s
  | .transactionTimeout => Sys2Proof.Machine.execTransactionTimeout s
  | .symbolArrival samples => Sys2Proof.Machine.execSymbolArrival samples s
  | .quietGap bitsSampled => Sys2Proof.Machine.execQuietGap bitsSampled s
  | .sot => Sys2Proof.Machine.execSot s
  | .dataByte b => Sys2Proof.Machine.execDataByte b s
  | .sor => Sys2Proof.Machine.execSor s
  | .eor => Sys2Proof.Machine.execEor s
  | .eot => Sys2Proof.Machine.execEot s
  | .abt => Sys2Proof.Machine.execAbt s
  | .unknownControl code => Sys2Proof.Machine.execUnknownControl code s
  | .commit table => Sys2Proof.Machine.execCommit table s
  | .commitCompletion => Sys2Proof.Machine.execCommitCompletion s
  | .commitDone outcome => Sys2Proof.Machine.execCommitDone outcome s
  | .minute => Sys2Proof.Machine.execMinute s
  | .eventChange service => Sys2Proof.Machine.execEventChange service s
  | .secondTick => Sys2Proof.Machine.execSecondTick s
  | .lockoutExpiry p => Sys2Proof.Machine.execLockoutExpiry p s
  | .windowExpiry r => Sys2Proof.Machine.execWindowExpiry r s
  | .standbyEntryReport => Sys2Proof.Machine.execStandbyEntryReport s
  | .profileChangedMetering which => Sys2Proof.Machine.execProfileChangedMetering which s
  | .profileChanged which => Sys2Proof.Machine.execProfileChanged which s
  | .charge n p kind => Sys2Proof.Machine.execCharge n p kind s
  | .warn p reason => Sys2Proof.Machine.execWarn p reason s
  | .exhausted p => Sys2Proof.Machine.execExhausted p s
  | .replenished p => Sys2Proof.Machine.execReplenished p s
  | .curfewOn p => Sys2Proof.Machine.execCurfewOn p s
  | .curfewOff p => Sys2Proof.Machine.execCurfewOff p s
  | .rolloverTaken => Sys2Proof.Machine.execRolloverTaken s
  | .clockSet => Sys2Proof.Machine.execClockSet s
  | .passListClockSet => Sys2Proof.Machine.execPassListClockSet s
  | .passAdded pass => Sys2Proof.Machine.execPassAdded pass s
  | .passRemoved pass => Sys2Proof.Machine.execPassRemoved pass s
  | .curfewPassChange id p => Sys2Proof.Machine.execCurfewPassChange id p s
  | .dropScreen n => Sys2Proof.Machine.execDropScreen n s
  | .dropProfile p => Sys2Proof.Machine.execDropProfile p s
  | .expiryCheck => Sys2Proof.Machine.execExpiryCheck s
  | .guideWaitExpiry n => Sys2Proof.Machine.execGuideWaitExpiry n s
  | .graceExpiry n => Sys2Proof.Machine.execGraceExpiry n s
  | .boundaryMark n => Sys2Proof.Machine.execBoundaryMark n s
  | .standbyLevel asserted => Sys2Proof.Machine.execStandbyLevel asserted s
  | .levelChange line high => Sys2Proof.Machine.execLevelChange line high s
  | .notice source category roles screens => Sys2Proof.Machine.execNotice source category roles screens s
  | .dirtyMark source rollover => Sys2Proof.Machine.execDirtyMark source rollover s
  | .accountActivity => Sys2Proof.Machine.execAccountActivity s
  | .snapshotTimerExpiry => Sys2Proof.Machine.execSnapshotTimerExpiry s
  | .settleExpiry => Sys2Proof.Machine.execSettleExpiry s
  | .writeAttemptEnd verified => Sys2Proof.Machine.execWriteAttemptEnd verified s
  | .softReset => Sys2Proof.Machine.execSoftReset s
  | .loadBegin straps => Sys2Proof.Machine.execLoadBegin straps s
  | .powerOn straps => Sys2Proof.Machine.execPowerOn straps s
  | .resetNAssert => Sys2Proof.Machine.execResetNAssert s
  | .resetNRelease straps => Sys2Proof.Machine.execResetNRelease straps s
  | .loadEnd pins => Sys2Proof.Machine.execLoadEnd pins s
  | .powerLoss => Sys2Proof.Machine.execPowerLoss s

end Sys2Proof.Machine
end

