-- ==== Sys2Proof/WellFormed.lean ====
section
/-! DEFINITION. Which commands are well formed: the forms that the wire formats, the link and the senders of messages can
give. A value that a field's width allows and its range does not is no matter of form: the owning block judges it. -/

namespace Sys2Proof

/-- 10 Table 10-7: twelve label bytes and three windows. -/
def EditImage.wellFormed (e : EditImage) : Bool := e.label.length == 12 && e.windows.length == 3

/-- 05 R107: the ranges of an event record. -/
def EventRecord.wellFormed (e : EventRecord) : Bool :=
  decide (e.start.day < 65536) && decide (e.start.minute < 1440) && decide (1 ≤ e.duration) && decide (e.duration ≤ 1440)

/-- 05 R106, R118: what a COMMIT can carry. -/
def GuideTable.wellFormed (t : GuideTable) : Bool :=
  t.service != 0 && decide (t.version < 32) && decide (t.records.length ≤ Config.stagingSize) &&
  decide (t.spanStart.day < 65536 ∧ t.spanStart.minute < 1440) &&
  decide (t.spanEnd.day < 65536 ∧ t.spanEnd.minute < 1440) && t.records.all EventRecord.wellFormed

/-- 04 R89: a pass's id is 1..255. -/
def idWellFormed (id : Nat) : Bool := decide (1 ≤ id ∧ id ≤ 255)

/-- 05 Table 10-5: the six control codes, IDL, SOT, SOR, EOR, EOT, ABT. -/
def controlCodes : List Byte := [0x00, 0x01, 0x02, 0x03, 0x04, 0x0F]

/-- 08 Table 8-1: the blocks that raise a category. -/
def raises : Block → Category → Bool
  | .screen, .screen | .metering, .time | .receiver, .guide | .cache, .guide | .profile, .authority
  | .passes, .authority | .store, .store | .port, .port => true
  | _, _ => false

/-- 08 R163: PORT concerns one role and every other category all three; only SCREEN names screens. -/
def noticeWellFormed (source : Block) (category : Category) (roles : Concerned) (screens : ScreenSet) : Bool :=
  raises source category && ((roles == .every) == (category != .port)) && (category == .screen || screens == 0)

/-- 09 R176: the blocks that send dirty marks, and that a rollover's mark is the Metering Unit's. -/
def markWellFormed (source : Block) (rollover : Bool) : Bool :=
  (source == .profile || source == .metering || source == .screen || source == .signal) &&
  (!rollover || source == .metering)

/-- Well-formed commands. -/
def Instr.wellFormed : Instr → Bool
  | .editProfile _ _ e => e.wellFormed
  | .setSchemeMap _ _ entries => entries.length == 32
  | .setWeekPlan _ kinds => kinds.length == 7
  | .quietGap bits => decide (bits ≤ 8)
  | .unknownControl code => !controlCodes.contains code
  | .commit table => table.wellFormed
  | .passAdded pass | .passRemoved pass => idWellFormed pass.id
  | .curfewPassChange id _ => idWellFormed id
  | .notice source category roles screens => noticeWellFormed source category roles screens
  | .dirtyMark source rollover => markWellFormed source rollover
  | _ => true

end Sys2Proof
end

