-- ==== Sys2Proof/Safety.lean ====
section
/-! DEFINITION. What the manual says of the part at every moment, as predicates on State: each is kept by every step and
holds at reset. -/

namespace Sys2Proof.Machine

/-- The state after commands that are executed one after another. -/
def State.after (s : State) : List Instr → State
  | [] => s
  | c :: rest =>
    match exec c s with
    | .next t => t.after rest
    | .fault _ | .refused _ => s

/-! ### Profiles (01) -/

/-- R2, but for the seat limit: slot 0 is CHILD or ADULT, every ADULT has a PIN, every field lies in its range, no window has
start equal to end. -/
def State.tableSound (s : State) : Prop := tableValid s.profiles.table = true

/-- R8: a counter is 0..5, and the lockout timer runs exactly when it is 5. -/
def State.lockoutsSound (s : State) : Prop :=
  ∀ p : Slot, s.profiles.failures[p] ≤ 5 ∧ (s.profiles.lockouts[p].isSome = true ↔ s.profiles.failures[p] = 5)

/-! ### Time and accounts (02) -/

/-- R27, R28: the clock's fields lie in their ranges, and the second under way is 32640 to 32895 periods long. -/
def State.clockSound (s : State) : Prop :=
  s.metering.day < 65536 ∧ s.metering.second < 86400 ∧ s.metering.accountDay < 65536 ∧
  -128 ≤ s.metering.trim ∧ s.metering.trim ≤ 127 ∧ 32640 ≤ s.ref.length ∧ s.ref.length ≤ 32895 ∧
  s.ref.phase < s.ref.length

/-- R31, R32, R34: a bonus within its cap, overrun at most 86400, one curfew warned flag for each window. -/
def accountSound (a : Account) : Prop :=
  a.bonus ≤ a.terms.bonusCap * 60 ∧ a.overrun ≤ 86400 ∧ a.curfewWarned.length = a.terms.windows.length

/-- Every account is sound. -/
def State.accountsSound (s : State) : Prop := ∀ (p : Slot) (a : Account), s.metering.accounts[p] = some a → accountSound a

/-! ### Screens (03) -/

/-- Table 3-1: the reasons each state may have. -/
def reasonFits : ScreenState → Option Reason → Bool
  | .refused, some .rating | .refused, some .flags | .refused, some .unrated => true
  | .expired, some .allowance | .expired, some .curfew | .expired, some .clock => true
  | .closing, some .allowance | .closing, some .curfew => true
  | .dark, none | .waiting, none | .showing, none | .winding, none => true
  | _, _ => false

/-- Table 3-1: only WAITING and CLOSING have a timer. -/
def timerFits (st : ScreenState) (timer : Option Nat) : Bool := timer.isSome == (st == .waiting || st == .closing)

/-- Table 3-1, R56: no content while DARK; a descriptor for service 0 alone; a current event for a broadcast service. -/
def contentFits (x : Screen) : Bool :=
  match x.service with
  | none => x.state == .dark && x.descriptor == none && x.event == none && !x.override
  | some v => x.state != .dark && (x.descriptor.isSome == (v == 0)) && (x.event == none || v != 0)

/-- R59: the charge kind fits the state, and the last pair sent is the charge being made. -/
def chargeFits (x : Screen) : Bool :=
  x.lastPair.kind == x.charge && (x.charge == .nothing || x.lastPair.profile == x.seat) &&
  (match x.charge with
    | .nothing => true
    | .view => x.state == .showing || x.state == .winding
    | .overrun => x.state == .closing)

/-- R56, R59: a screen record whose fields fit together. -/
def screenSound (x : Screen) : Prop :=
  reasonFits x.state x.reason = true ∧ timerFits x.state x.timer = true ∧ contentFits x = true ∧ chargeFits x = true

/-- Every screen record is sound. -/
def State.screensSound (s : State) : Prop := ∀ n : ScreenNo, screenSound s.screens.cells[n]

/-- R76: every seat holds a profile that is not EMPTY, and no profile is live on more screens than its seat limit. -/
def State.seatsSound (s : State) : Prop :=
  (∀ n : ScreenNo, s.profiles.table[s.screens.cells[n].seat] ≠ .empty) ∧
  ∀ (p : Slot) (c : CommonPart), commonOf s.profiles.table[p] = some c → s.liveSeats p ≤ c.seatLimit

/-- Table 3-2, from a closed gate: the state and the reason that an outcome gives. -/
def Judgement.settled : Judgement → ScreenState × Option Reason
  | .admitted false => (.showing, none)
  | .admitted true => (.winding, none)
  | .refused r => (.refused, some r)
  | .expired r => (.expired, some r)

/-- Table 3-5: the screens, by number and record, that a message tests; none for EVENT_CHANGE and for all other commands. -/
def testedBy : Instr → Option (ScreenNo → Screen → Bool)
  | .warn p _ | .exhausted p | .replenished p | .curfewOn p | .curfewOff p | .profileChanged (.one p) =>
    some fun _ x => x.seat == p
  | .rolloverTaken | .clockSet | .profileChanged .all => some fun _ _ => true
  | .passAdded pass | .passRemoved pass =>
    match pass.scope with
    | .content m _ => some fun n _ => n == m
    | .curfew p => some fun _ x => x.seat == p
  | _ => none

/-! ### Passes (04) -/

/-- R88, R89: at most 16 passes, ids 1..255 and all different, no two of the same kind, target and content. -/
def State.passesSound (s : State) : Prop :=
  s.passes.held.length ≤ 16 ∧ (∀ p ∈ s.passes.held, 1 ≤ p.id ∧ p.id ≤ 255) ∧
  (s.passes.held.map fun p => p.id).Nodup ∧ (s.passes.held.map fun p => p.scope).Nodup ∧
  1 ≤ s.passes.nextId ∧ s.passes.nextId ≤ 255

/-- R89, R90: the list is in expiry order, times being compared around the present. -/
def inExpiryOrder (now : SecondTime) (l : List Pass) : Prop :=
  l.Pairwise fun a b => expiryKey now a.expiry ≤ expiryKey now b.expiry

/-! ### The guide (05, 06) -/

/-- R103, R108: 0..64 symbols, 0..48 records staged, 0..13 bytes collected, a table held in HANDOFF alone. -/
def State.receiverSound (s : State) : Prop :=
  s.receiver.fifo.length ≤ 64 ∧ s.receiver.records.length ≤ 48 ∧ s.receiver.header.length ≤ 13 ∧
  s.receiver.record.length ≤ 13 ∧ (s.receiver.tableHeld = true → s.receiver.state = .handoff)

/-- R120: each link counter is 0..65535. -/
def State.linkCountsSound (s : State) : Prop :=
  s.receiver.counts.committed ≤ 65535 ∧ s.receiver.counts.refused ≤ 65535 ∧ s.receiver.counts.damaged ≤ 65535 ∧
  s.receiver.counts.abandoned ≤ 65535 ∧ s.receiver.counts.duplicate ≤ 65535 ∧ s.receiver.counts.stray ≤ 65535 ∧
  s.receiver.counts.framing ≤ 65535 ∧ s.receiver.counts.overrun ≤ 65535

/-- R124, R125: at most 384 records, and no two entries hold the same service. -/
def State.cacheSound (s : State) : Prop :=
  (storedRecords s.cache.directory).length ≤ 384 ∧
  ∀ (i j : Fin 32) (a b : Entry), s.cache.directory[i] = some a → s.cache.directory[j] = some b →
    a.service = b.service → i = j

/-! ### Port, notices, store (07 to 09) -/

/-- R143, R160, R162: a frame is assembled only while its role is being written to; a silent port has no transaction; the
port is silent through every load, and no request is with its owner then. -/
def State.portSound (s : State) : Prop :=
  (∀ r : Role, (s.port.frames.get r).isSome = true → s.port.bus = .write r) ∧
  (s.port.silent = true → busRole s.port.bus = none) ∧
  (s.store.state = .loading → s.port.silent = true) ∧
  (s.store.state = .loading → ∀ (r : Role) (i : Instr), s.exchange r ≠ .inFlight (some i))

/-- R157: each port counter is 0..255. -/
def State.portCountsSound (s : State) : Prop :=
  ∀ r : Role, (s.port.counts.get r).check ≤ 255 ∧ (s.port.counts.get r).truncated ≤ 255 ∧
    (s.port.counts.get r).timeout ≤ 255 ∧ (s.port.counts.get r).bus ≤ 255 ∧ (s.port.counts.get r).overlong ≤ 255

/-- R164: a role whose changed-screen set holds a screen has SCREEN pending. -/
def State.noticesSound (s : State) : Prop :=
  ∀ r : Role, s.signal.changed.get r ≠ 0 → s.signal.notices.get r &&& categoryBit .screen ≠ 0

/-- R175, R185: in WRITING, and only there, a snapshot and an attempt; in LOADING the settle timer is stopped; the write of a
FACTORY_CLEAR writes a factory image, and what it leaves when it fails twice is one. -/
def State.storeSound (s : State) : Prop :=
  (s.store.snapshot.isSome = true ↔ s.store.state = .writing) ∧
  (s.store.attempt.isSome = true ↔ s.store.state = .writing) ∧
  (s.store.state = .loading → s.store.settle = none) ∧
  (∀ d : Nat, s.store.underWay = .factoryClear d .writing →
    s.store.state = .writing ∧ s.store.snapshot = some (sealed (factoryContent d))) ∧
  ∀ i : Image, s.store.image = .factoryFailed i → ∃ d : Nat, i = sealed (factoryContent d)

/-- What keeps the screens empty through a load (R87, R162): every screen DARK and seated 0 while LOADING. -/
def State.loadDark (s : State) : Prop :=
  s.store.state = .loading → ∀ n : ScreenNo, s.screens.cells[n].state = .dark ∧ s.screens.cells[n].seat = 0

/-- R76 with what it rests on: the table, the port and the screens during a load. -/
def State.seatingSound (s : State) : Prop := s.tableSound ∧ s.portSound ∧ s.loadDark ∧ s.seatsSound

end Sys2Proof.Machine
end

