-- ==== Sys2Proof/Certificates/Slice0/Obligations.lean ====
section
/-! DEFINITION. The statements for the provers, in the order of OBLIGATIONS.json. A request's premise s.handed r i says that
the port has handed it to its owner; a message's premise takeFrom m s.transit = some rest says that it is the oldest on its
path, rest being the line without it. An equation with a next state gives the whole frame: what it does not name is as it
was. -/

open Sys2Proof Sys2Proof.Machine

/-! ### Steps -/

/-- Stepping with a command at the front of the queue is running that command with the queue's rest. -/
def Obligations.StepRunsTheFrontCommand : Prop :=
  ∀ (c : Instr) (rest : List Instr) (s : State), step (s.withPending (c :: rest)) = exec c (s.withPending rest)

/-- On an empty queue one reference period passes (log 8, the model's choice): the second under way grows by a period, or
it ends: every timer falls by one, a tick falls due while RUNNING, and the next second has the length the trim gives (R28). -/
def Obligations.EmptyQueuePassesAPeriod : Prop :=
  ∀ s : State, s.pending = [] →
    (s.awake = false → step s = .next s) ∧
    (s.awake = true → s.ref.phase + 1 < s.ref.length →
      step s = .next (s.withRef { s.ref with phase := s.ref.phase + 1 })) ∧
    (s.awake = true → s.ref.length ≤ s.ref.phase + 1 →
      ∃ (u : ProfileUnit) (x : ScreenController),
        step s = .next ((((s.withProfiles u).withScreens x).withStore { s.store with
            settle := s.store.settle.map (· - 1), snapshotTimer := s.store.snapshotTimer.map (· - 1) }).withRef {
          phase := 0, length := (32768 + s.metering.trim).toNat
          ticksDue := s.ref.ticksDue + if s.metering.running then 1 else 0 }) ∧
        u.table = s.profiles.table ∧ u.maps = s.profiles.maps ∧ u.household = s.profiles.household ∧
        u.failures = s.profiles.failures ∧ (∀ p : Slot, u.lockouts[p] = s.profiles.lockouts[p].map (· - 1)) ∧
        (∀ r : Role, u.windows.get r = (s.profiles.windows.get r).map fun w => { w with seconds := w.seconds - 1 }) ∧
        x.requested = s.screens.requested ∧ x.standbyLevel = s.screens.standbyLevel ∧
        ∀ n : ScreenNo, x.cells[n] = { s.screens.cells[n] with timer := s.screens.cells[n].timer.map (· - 1) })

/-- No command stops the part, and none touches the queue. A request that is not handed, and a message that is not the
oldest on its path, are not there to be taken (log 1, log 2, the model's choice). -/
def Obligations.CommandsAreTakenInTheirTurn : Prop :=
  (∀ (c : Instr) (s : State), ∃ t : State, exec c s = .next t ∧ t.pending = s.pending) ∧
  (∀ (c : Instr) (r : Role) (s : State), c.requester = some r → s.handed r c = false → exec c s = .next s) ∧
  (∀ (c : Instr) (s : State), c.path ≠ none → takeFrom c s.transit = none → exec c s = .next s) ∧
  (∀ (c x : Instr) (a b : List Instr) (s : State), c.path ≠ none → s.transit = a ++ x :: b → x ≠ c → x.path = c.path →
    c ∉ a → exec c s = .next s)

/-! ### Reads -/

/-- Every pure read completes: its answer is placed in its role's slot and nothing else changes; an answer other than OK has
no body (R190). Then the bodies of READ_PROFILE (R16, R195), READ_SCHEME_MAP (R23), READ_SCREEN (R85), LIST_PASSES (R100),
READ_LINK_COUNTS (R122), READ_DIRECTORY (R138) and READ_LINES (R172), byte for byte as Tables 10-1 to 10-3 and 10-7 give them.
A timer whose expiry is due reads as 1 second (log 8), the screen byte of a line without a screen is 0xFF (log 41), and the
event block of a live broadcast screen without a copy is sent as 0 (log 43): all three are the model's choice. -/
def Obligations.ReadsChangeNothingButTheirAnswer : Prop :=
  (∀ (r : Role) (slot scheme n index : Byte) (service day minute : Half) (time : Option (Half × Half)) (s : State)
    (i : Instr),
    i ∈ [.identify r, .readProfile r slot, .readAuthority r, .readSchemeMap r scheme, .readClock r, .readAccount r slot,
      .readScreen r n, .listPasses r, .readLinkCounts r, .readEvent r service time, .listEvents r service day minute,
      .readDirectory r index, .readLines r, .readStoreState r] →
    s.handed r i = true →
      ∃ a : Answer, exec i s = .next (s.place r a) ∧ (a.result ≠ .ok → a.body = []) ∧
        (a.result = .ok ∨ a.result = .badValue ∨ a.result = .notFound)) ∧
  let yes : Bool → Byte := fun b => if b then 1 else 0
  let seconds : Option Nat → Nat := fun t =>
    match t with
    | none => 0
    | some n => max n 1
  let content : Option Rating → Option FlagSet → List Byte := fun rating flags =>
    [(match rating, flags with
      | none, none => 0
      | some _, none => 1
      | none, some _ => 2
      | some _, some _ => 3)] ++
    (match rating with
      | none => [0, 0]
      | some x => [byteOf x.scheme, byteOf x.value]) ++
    [(match flags with
      | none => 0
      | some x => x.setWidth 8)]
  let block : EventRecord → List Byte := fun e =>
    le2 e.id.toNat ++ le2 e.start.day ++ le2 e.start.minute ++ le2 e.duration ++ content e.rating e.flags
  let zeros : Nat → List Byte := fun n => List.replicate n 0
  (∀ (r : Role) (slot : Byte) (s : State), s.handed r (.readProfile r slot) = true →
    (8 ≤ slot.toNat → exec (.readProfile r slot) s = .next (s.place r (.bare .badValue))) ∧
    ∀ p : Slot, slot.toNat = p.val →
      let common : CommonPart → List Byte := fun c =>
        c.label ++ zeros (12 - c.label.length) ++ [yes c.pin.isSome, byteOf s.profiles.failures[p]] ++
        le2 (seconds s.profiles.lockouts[p]) ++ [byteOf c.ceiling, c.blocked.setWidth 8, (match c.unrated with
          | .step n => byteOf n
          | .allow => 0x40
          | .block => 0x41), byteOf c.seatLimit]
      let child : ChildPart → List Byte := fun k =>
        le2 k.school ++ le2 k.free ++ [byteOf k.bonusCap, (match k.mode, k.close with
          | .shared, .atOnce => 0
          | .each, .atOnce => 1
          | .shared, .atBoundary => 2
          | .each, .atBoundary => 3), byteOf k.lead] ++ le2 k.grace ++ [byteOf k.windows.length] ++
        (k.windows.flatMap fun w => le2 w.start ++ le2 w.stop ++ [(match w.applies with
          | .school => (0 : Byte)
          | .free => 1
          | .both => 2)]) ++ zeros (15 - 5 * k.windows.length)
      (s.profiles.table[p] = .empty → exec (.readProfile r slot) s = .next (s.place r (.ok (zeros 46)))) ∧
      (∀ (c : CommonPart) (k : ChildPart), s.profiles.table[p] = .child c k →
        exec (.readProfile r slot) s = .next (s.place r (.ok ([1] ++ common c ++ child k)))) ∧
      ∀ c : CommonPart, s.profiles.table[p] = .adult c →
        exec (.readProfile r slot) s = .next (s.place r (.ok ([2] ++ common c ++ zeros 25)))) ∧
  (∀ (r : Role) (scheme : Byte) (s : State), s.handed r (.readSchemeMap r scheme) = true →
    (4 ≤ scheme.toNat → exec (.readSchemeMap r scheme) s = .next (s.place r (.bare .badValue))) ∧
    ∀ n : Fin 4, scheme.toNat = n.val →
      exec (.readSchemeMap r scheme) s = .next (s.place r (.ok (s.profiles.maps[n].toList.map fun e =>
        match e with
        | none => 0xFF
        | some k => byteOf k)))) ∧
  (∀ (r : Role) (n : Byte) (s : State), s.handed r (.readScreen r n) = true →
    (4 ≤ n.toNat → exec (.readScreen r n) s = .next (s.place r (.bare .badValue))) ∧
    ∀ m : ScreenNo, n.toNat = m.val → let x := s.screens.cells[m]
      ∀ (form : Byte) (shown : List Byte),
        ((x.service = none ∧ form = 0 ∧ shown = zeros 12) ∨
          (∃ d : Descriptor, x.service ≠ none ∧ x.descriptor = some d ∧ form = 1 ∧
            shown = le2 d.contentId.toNat ++ zeros 4 ++ le2 (d.duration.getD 0) ++ content d.rating d.flags) ∨
          (∃ e : EventRecord, x.service ≠ none ∧ x.descriptor = none ∧ x.event = some e ∧ form = 2 ∧ shown = block e) ∨
          (x.service ≠ none ∧ x.descriptor = none ∧ x.event = none ∧ form = 3 ∧ shown = zeros 12)) →
        exec (.readScreen r n) s = .next (s.place r (.ok (
          [(match x.kind with
            | .localKind => 0
            | .remoteKind => 1), byteOf x.guideWait, byteOf x.seat, (match x.state with
            | .dark => 0
            | .waiting => 1
            | .showing => 2
            | .winding => 3
            | .closing => 4
            | .refused => 5
            | .expired => 6), (match x.reason with
            | none => 0
            | some .rating => 1
            | some .flags => 2
            | some .unrated => 3
            | some .allowance => 4
            | some .curfew => 5
            | some .clock => 6), form] ++ le2 (x.service.getD 0).toNat ++ shown ++ [(match x.step with
            | none => 0xFF
            | some k => byteOf k), yes x.override] ++ le2 (seconds x.timer) ++ [(match x.charge with
            | .nothing => 0
            | .view => 1
            | .overrun => 2), yes (x.state == .showing || x.state == .winding || x.state == .closing),
            yes (s.screens.requested == .standby || s.screens.standbyLevel), yes (s.screens.requested == .standby),
            yes s.screens.standbyLevel])))) ∧
  (∀ (r : Role) (s : State), s.handed r (.listPasses r) = true →
    exec (.listPasses r) s = .next (s.place r (.ok ([byteOf s.passes.held.length] ++ s.passes.held.flatMap fun p =>
      (match p.scope with
        | .curfew q => [byteOf q.val, byteOf p.id, 0, 0, 0, 0]
        | .content n (.event v id) => [byteOf (0x10 + n.val), byteOf p.id] ++ le2 v.toNat ++ le2 id.toNat
        | .content n (.noEvent v) => [byteOf (0x20 + n.val), byteOf p.id] ++ le2 v.toNat ++ [0, 0]
        | .content n (.source id) => [byteOf (0x30 + n.val), byteOf p.id, 0, 0] ++ le2 id.toNat) ++
      le2 p.expiry.day ++ le3 p.expiry.second ++ [(match p.granter with
        | none => 0xFF
        | some q => byteOf q.val)] ++ le3 (min (secondsAhead s.now p.expiry) 16777215))))) ∧
  (∀ (r : Role) (s : State), s.handed r (.readLinkCounts r) = true → let v := s.receiver
    exec (.readLinkCounts r) s = .next (s.place r (.ok (le2 v.counts.committed ++ le2 v.counts.refused ++
      le2 v.counts.damaged ++ le2 v.counts.abandoned ++ le2 v.counts.duplicate ++ le2 v.counts.stray ++
      le2 v.counts.framing ++ le2 v.counts.overrun ++ [(match v.state with
        | .idle => 0
        | .header => 1
        | .body => 2
        | .skip => 3
        | .handoff => 4), byteOf v.fifo.length, yes v.commitOutstanding, yes v.tableHeld, yes v.lossMark])))) ∧
  (∀ (r : Role) (index : Byte) (s : State), s.handed r (.readDirectory r index) = true →
    (32 ≤ index.toNat → exec (.readDirectory r index) s = .next (s.place r (.bare .badValue))) ∧
    ∀ i : Fin 32, index.toNat = i.val → let d := s.cache.directory
      let free : Fin 32 → Bool := fun j => d[j].all fun e => e.records.isEmpty
      exec (.readDirectory r index) s = .next (s.place r (.ok (
        (match d[i] with
          | none => zeros 24
          | some e => [1] ++ le2 e.service.toNat ++ [byteOf e.version] ++ le2 e.reference.day ++ le2 e.reference.minute ++
            le2 e.records.length ++ [yes (free i), yes e.current.isSome] ++ (match e.current with
              | none => zeros 12
              | some x => block x)) ++
        le2 (storedRecords d).length ++ [byteOf ((List.finRange 32).filter free).length, yes s.cache.inFlight.isSome])))) ∧
  ∀ (r : Role) (s : State), s.handed r (.readLines r) = true →
    let line : Fin 4 → List Byte := fun i =>
      let l := s.signal.lines[i]
      (match l.setting.function with
        | .nothing => [0, 0xFF]
        | .boundary n => [1, byteOf n.val]
        | .standby => [2, 0xFF]) ++
      [yes (l.setting.polarity == .high), yes l.level, yes (if l.setting.polarity = .high then l.level else !l.level)]
    exec (.readLines r) s =
      .next (s.place r (.ok (line 0 ++ line 1 ++ line 2 ++ line 3 ++ [yes s.signal.reported])))

/-- R158: the whole body of IDENTIFY. -/
def Obligations.IdentifyReportsRoleStoreAndClock : Prop :=
  ∀ (r : Role) (s : State), s.handed r (.identify r) = true → s.store.state ≠ .loading →
    exec (.identify r) s = .next (s.place r (.ok ([0xD1, 0x53, 0x40, 0x03, 0x01,
        (match r with
          | .console => 0
          | .panel => 1
          | .relay => 2),
        (match s.store.state with
          | .writing => 2
          | .failed => 3
          | _ => 1),
        if s.metering.running then 1 else 0])))

/-- R49, R186, R50: the bodies of READ_CLOCK, READ_STORE_STATE and READ_ACCOUNT (Table 10-3); READ_ACCOUNT judges by the account
held. A settle timer whose expiry is due reads as 1 second (log 8, the model's choice), and an account's allowances and lead
are those of its copied terms (log 14, a deduction, the model's choice). -/
def Obligations.TimeAndStoreReadsGiveTheRecords : Prop :=
  (∀ (r : Role) (s : State), s.handed r (.readClock r) = true →
    exec (.readClock r) s = .next (s.place r (.ok ([if s.metering.running then 1 else 0] ++ le2 s.metering.day ++ le3 s.metering.second ++
      [byteOf s.metering.weekday, BitVec.ofInt 8 s.metering.trim,
        if s.metering.override.getD s.metering.plan[s.metering.weekday] = .school then 0 else 1,
        if s.metering.override = none then 0 else 1, if s.metering.yesterday = .school then 0 else 1] ++
      le2 s.metering.accountDay)))) ∧
  (∀ (r : Role) (s : State), s.handed r (.readStoreState r) = true → s.store.state ≠ .loading →
    exec (.readStoreState r) s = .next (s.place r (.ok ([(match s.store.state with
          | .writing => 2
          | .failed => 3
          | _ => 1),
        if s.store.dirty then 1 else 0, if s.store.lost then 1 else 0, if s.store.writeFailed then 1 else 0,
        (match s.store.settle with
          | none => 0
          | some n => byteOf (max n 1)),
        (match s.store.attempt with
          | none => 0
          | some .first => 1
          | some .retry => 2)])))) ∧
  (∀ (r : Role) (slot : Byte) (s : State), s.handed r (.readAccount r slot) = true →
    (8 ≤ slot.toNat → exec (.readAccount r slot) s = .next (s.place r (.bare .badValue))) ∧
    ∀ p : Slot, slot.toNat = p.val →
      (s.metering.accounts[p] = none →
        exec (.readAccount r slot) s = .next (s.place r (.bare .notFound))) ∧
      ∀ a : Account, s.metering.accounts[p] = some a →
        let u := s.metering
        let base := if u.today = .school then a.terms.school * 60 else a.terms.free * 60
        let entitlement := max a.used (base + a.bonus)
        let left := entitlement - a.used
        let charging : ChargeKind → Nat := fun k =>
          (List.finRange 4).countP fun n => u.charges[n] = { profile := p, kind := k }
        ∃ status : Byte,
          exec (.readAccount r slot) s = .next (s.place r (.ok (le2 u.accountDay ++ le3 base ++ le2 a.bonus ++
            le3 entitlement ++ le3 a.used ++ le3 left ++ le3 a.overrun ++
            [status, byteOf (charging .view), byteOf (charging .overrun), if a.curfew = .inside then 1 else 0]))) ∧
          (status.getLsbD 0 = true ↔ a.warned = true) ∧
          (status.getLsbD 1 = true ↔ a.warned = true ∧ left ≤ a.terms.lead * 60) ∧
          (∀ i : Nat, i < 3 → (status.getLsbD (2 + i) = true ↔ a.curfewWarned[i]? = some true)) ∧
          (status.getLsbD 5 = true ↔ ∃ (i : Nat) (w : CurfewWindow), a.terms.windows[i]? = some w ∧
            a.curfewWarned[i]? = some true ∧ u.second / 60 < w.start ∧
            (w.applies = .both ∨ (w.applies = .school ∧ u.today = .school) ∨ (w.applies = .free ∧ u.today = .free))) ∧
          (status.getLsbD 6 = true ↔ left = 0) ∧ status.getLsbD 7 = false)

/-- R16: what READ_PROFILE answers does not depend on the digits of a PIN. -/
def Obligations.ReadProfileNeverTellsThePin : Prop :=
  ∀ (r : Role) (slot : Byte) (p : Slot) (c : CommonPart) (k : Option ChildPart) (old new : List (Fin 10)) (s : State),
    s.handed r (.readProfile r slot) = true → c.pin = some old →
    s.profiles.table[p] = (match k with
      | some k => .child c k
      | none => .adult c) →
    let other := s.withProfiles { s.profiles with table := put s.profiles.table p (match k with
      | some k => .child { c with pin := some new } k
      | none => .adult { c with pin := some new }) }
    ∃ a : Answer, exec (.readProfile r slot) s = .next (s.place r a) ∧
      exec (.readProfile r slot) other = .next (other.place r a)

/-! ### Authority and profiles -/

/-- R15, R196: what the authority check gives, and that each protected request without authority is refused and changes
nothing; SET_CLOCK is protected while RUNNING for a difference of more than 300 seconds (R46). -/
def Obligations.ProtectedRequestsNeedAuthority : Prop :=
  (∀ (r : Role) (s : State),
    (∀ w : Window, s.profiles.windows.get r = some w → s.authority r = some (some w.opener)) ∧
    (s.profiles.windows.get r = none → (∀ p : Slot, isAdult s.profiles.table[p] = false) → s.authority r = some none) ∧
    (s.profiles.windows.get r = none → (∃ p : Slot, isAdult s.profiles.table[p] = true) → s.authority r = none)) ∧
  (∀ (r : Role) (slot minutes scheme kind target id : Byte) (e : EditImage) (entries kinds : List Byte)
    (authority lockout : Half) (endTime : Option RawTime) (s : State) (i : Instr),
    i ∈ [.editProfile r slot e, .clearProfile r slot, .setSchemeMap r scheme entries, .setHousehold r authority lockout,
      .grantBonus r slot minutes, .setWeekPlan r kinds, .setTodayKind r kind, .grantPass r kind target endTime,
      .revokePass r id, .factoryClear r] →
    s.handed r i = true → s.authority r = none → exec i s = .next (s.place r (.bare .noAuthority))) ∧
  (∀ (r : Role) (time : RawTime) (weekday : Byte) (s : State), s.handed r (.setClock r time weekday) = true →
    s.authority r = none → s.metering.running = true →
    300 < ((time.day.toNat * 86400 + time.second.toNat : Int) - (s.metering.day * 86400 + s.metering.second)).natAbs →
    exec (.setClock r time weekday) s = .next (s.place r (.bare .noAuthority)))

/-- R9: the five ways a PIN check ends. -/
def Obligations.PinChecksCountAndLock : Prop :=
  ∀ (p : Slot) (s : State),
    (∀ pin : Option (List (Fin 10)), s.profiles.lockouts[p] ≠ none → s.pinCheck p pin = (s, .lockedOut)) ∧
    (s.profiles.lockouts[p] = none →
      s.pinCheck p none = (s, .badPin) ∧
      ∀ digits : List (Fin 10),
        (pinHeld s.profiles.table[p] = some digits →
          s.pinCheck p (some digits) =
            (s.withProfiles { s.profiles with failures := put s.profiles.failures p 0 }, .correct)) ∧
        (pinHeld s.profiles.table[p] ≠ some digits → s.profiles.failures[p] + 1 < 5 →
          s.pinCheck p (some digits) = (s.withProfiles { s.profiles with
            failures := put s.profiles.failures p (s.profiles.failures[p] + 1) }, .badPin)) ∧
        (pinHeld s.profiles.table[p] ≠ some digits → 5 ≤ s.profiles.failures[p] + 1 →
          s.pinCheck p (some digits) = ((s.withProfiles { s.profiles with
            failures := put s.profiles.failures p 5
            lockouts := put s.profiles.lockouts p (some s.profiles.household.lockoutLength) }).sendAll
              [.notice .profile .authority .every 0], .lockedOut)))

/-- R21: the checks of VERIFY_PIN in order, and what each outcome of the PIN check does. -/
def Obligations.VerifyPinChecksAndOpensTheWindow : Prop :=
  ∀ (r : Role) (slot : Byte) (pin : RawPin) (s : State), s.handed r (.verifyPin r slot pin) = true →
    (8 ≤ slot.toNat ∨ pinOf pin = none →
      exec (.verifyPin r slot pin) s = .next (s.place r (.bare .badValue))) ∧
    ∀ (p : Slot) (digits : List (Fin 10)), slot.toNat = p.val → pinOf pin = some digits →
      (s.profiles.table[p] = .empty →
        exec (.verifyPin r slot pin) s = .next (s.place r (.bare .notFound))) ∧
      (s.profiles.table[p] ≠ .empty → pinHeld s.profiles.table[p] = none →
        exec (.verifyPin r slot pin) s = .next (s.place r (.bare .badValue))) ∧
      (pinHeld s.profiles.table[p] ≠ none →
        ∀ (t : State) (outcome : PinOutcome), s.pinCheck p (some digits) = (t, outcome) →
          (outcome = .badPin →
            exec (.verifyPin r slot pin) s = .next (t.place r (.bare .badPin))) ∧
          (outcome = .lockedOut →
            exec (.verifyPin r slot pin) s = .next (t.place r (.bare .lockedOut))) ∧
          (outcome = .correct → isAdult s.profiles.table[p] = false →
            exec (.verifyPin r slot pin) s = .next (t.place r (.ok [0, 0]))) ∧
          (outcome = .correct → isAdult s.profiles.table[p] = true →
            exec (.verifyPin r slot pin) s = .next (((t.withProfiles { t.profiles with
                windows := t.profiles.windows.set r
                  (some { opener := p, seconds := s.profiles.household.authorityLength }) }).sendAll
              [.notice .profile .authority .every 0]).place r
                (.ok (le2 s.profiles.household.authorityLength)))))

/-- R17 to R19, R11, R14: an edit that passes its checks replaces the one record, as one act; the others are refused, step by
step; an edit to kind EMPTY goes on as CLEAR_PROFILE. -/
def Obligations.EditProfileReplacesOneRecord : Prop :=
  let illFormed : EditImage → Prop := fun g =>
    (g.kind ≠ 1 ∧ g.kind ≠ 2) ∨
    (∃ (i : Nat) (b : Byte), (g.label.take 12)[i]? = some b ∧ b ≠ 0 ∧
      ((b.toNat < 0x20 ∨ 0x7E < b.toNat) ∨ ∃ j < i, (g.label.take 12)[j]? = some 0)) ∨
    (g.pin.count ≠ 0 ∧ g.pin.count ≠ 1 ∧ (g.pin.count.toNat < 4 ∨ 6 < g.pin.count.toNat ∨
      ∃ d ∈ [g.pin.d1.toNat / 16, g.pin.d1.toNat % 16, g.pin.d2.toNat / 16, g.pin.d2.toNat % 16, g.pin.d3.toNat / 16,
        g.pin.d3.toNat % 16].take g.pin.count.toNat, 9 < d)) ∨
    15 < g.ceiling.toNat ∨ 31 < g.blocked.toNat ∨ (15 < g.unrated.toNat ∧ g.unrated ≠ 0x40 ∧ g.unrated ≠ 0x41) ∨
    g.seatLimit.toNat < 1 ∨ 4 < g.seatLimit.toNat ∨
    (g.kind = 1 ∧ (1440 < g.school.toNat ∨ 1440 < g.free.toNat ∨ 240 < g.bonusCap.toNat ∨ 3 < g.modes.toNat ∨
      30 < g.lead.toNat ∨ 600 < g.grace.toNat ∨ 3 < g.windowCount.toNat ∨
      ∃ w ∈ g.windows.take g.windowCount.toNat,
        1439 < w.start.toNat ∨ 1439 < w.stop.toNat ∨ w.start = w.stop ∨ 2 < w.applies.toNat))
  (∀ (r : Role) (slot : Byte) (image : EditImage) (s : State), s.handed r (.editProfile r slot image) = true →
    s.authority r ≠ none →
    (8 ≤ slot.toNat → exec (.editProfile r slot image) s = .next (s.place r (.bare .badValue))) ∧
    (image.kind = 0 → exec (.editProfile r slot image) s =
      exec (.clearProfile r slot) (s.setExchange r (.inFlight (some (.clearProfile r slot))))) ∧
    (image.kind = 0 → slot = 0 → exec (.editProfile r slot image) s = .next (s.place r (.bare .badValue))) ∧
    (image.kind ≠ 0 → illFormed image → exec (.editProfile r slot image) s = .next (s.place r (.bare .badValue)))) ∧
  (∀ image : EditImage, illFormed image ↔ editOf image = none) ∧
  ∀ (r : Role) (slot : Byte) (image : EditImage) (p : Slot) (e : Edit) (s : State),
    s.handed r (.editProfile r slot image) = true → s.authority r ≠ none → slot.toNat = p.val → image.kind ≠ 0 →
    editOf image = some e →
    let pin := pinResulting e.choice s.profiles.table[p]
    (e.child = none → pin = none →
      exec (.editProfile r slot image) s = .next (s.place r (.bare .badValue))) ∧
    (e.common.seatLimit < s.liveSeats p →
      exec (.editProfile r slot image) s = .next (s.place r (.bare .badValue))) ∧
    ((e.child = none → pin ≠ none) → s.liveSeats p ≤ e.common.seatLimit →
      ∃ u : ProfileUnit,
        exec (.editProfile r slot image) s = .next (((s.withProfiles u).sendAll
          [.profileChangedMetering (.one p), .profileChanged (.one p), .dirtyMark .profile false,
            .notice .profile .authority .every 0]).place r (.ok [])) ∧
        u.table = put s.profiles.table p (match e.child with
          | some k => .child { e.common with pin := pin } k
          | none => .adult { e.common with pin := pin }) ∧
        u.maps = s.profiles.maps ∧ u.household = s.profiles.household ∧
        (e.choice = .keep → u.failures = s.profiles.failures ∧ u.lockouts = s.profiles.lockouts) ∧
        (e.choice ≠ .keep → u.failures = put s.profiles.failures p 0 ∧ u.lockouts = put s.profiles.lockouts p none) ∧
        ∀ q : Role, u.windows.get q =
          if e.child.isSome ∧ (s.profiles.windows.get q).any (fun w => w.opener == p) then none
          else s.profiles.windows.get q)

/-- R19: CLEAR_PROFILE under authority: slot 0, an EMPTY slot, a seated profile, and the clear itself. -/
def Obligations.ClearProfileEmptiesTheSlot : Prop :=
  ∀ (r : Role) (slot : Byte) (p : Slot) (s : State), s.handed r (.clearProfile r slot) = true → s.authority r ≠ none →
    slot.toNat = p.val →
    (p = 0 → exec (.clearProfile r slot) s = .next (s.place r (.bare .badValue))) ∧
    (p ≠ 0 → s.profiles.table[p] = .empty →
      exec (.clearProfile r slot) s = .next (s.place r (.ok []))) ∧
    (p ≠ 0 → s.profiles.table[p] ≠ .empty → (∃ n : ScreenNo, s.screens.cells[n].seat = p) →
      exec (.clearProfile r slot) s = .next (s.place r (.bare .inUse))) ∧
    (p ≠ 0 → s.profiles.table[p] ≠ .empty → (∀ n : ScreenNo, s.screens.cells[n].seat ≠ p) →
      ∃ u : ProfileUnit,
        exec (.clearProfile r slot) s = .next (((s.withProfiles u).sendAll
          [.dropProfile p, .profileChangedMetering (.one p), .profileChanged (.one p), .dirtyMark .profile false,
            .notice .profile .authority .every 0]).place r (.ok [])) ∧
        u.table = put s.profiles.table p .empty ∧ u.maps = s.profiles.maps ∧ u.household = s.profiles.household ∧
        u.failures = put s.profiles.failures p 0 ∧ u.lockouts = put s.profiles.lockouts p none ∧
        ∀ q : Role, u.windows.get q =
          if (s.profiles.windows.get q).any (fun w => w.opener == p) then none else s.profiles.windows.get q)

/-- R23, R24: SET_SCHEME_MAP replaces one map as a whole, SET_HOUSEHOLD both lengths. -/
def Obligations.MapsAndHouseholdAreReplacedWhole : Prop :=
  (∀ (r : Role) (scheme : Byte) (entries : List Byte) (n : Fin 4) (es : List (Option (Fin 16))) (s : State),
    s.handed r (.setSchemeMap r scheme entries) = true → s.authority r ≠ none → scheme.toNat = n.val →
    entries.length = 32 → mapEntriesOf entries = some es →
    ∃ m : SchemeMap,
      exec (.setSchemeMap r scheme entries) s = .next (((s.withProfiles { s.profiles with
          maps := put s.profiles.maps n m }).sendAll
        [.profileChangedMetering .all, .profileChanged .all, .dirtyMark .profile false,
          .notice .profile .authority .every 0]).place r (.ok [])) ∧ m.toList = es) ∧
  (∀ (r : Role) (scheme : Byte) (entries : List Byte) (s : State), s.handed r (.setSchemeMap r scheme entries) = true →
    s.authority r ≠ none → 4 ≤ scheme.toNat ∨ mapEntriesOf entries = none →
    exec (.setSchemeMap r scheme entries) s = .next (s.place r (.bare .badValue))) ∧
  (∀ (r : Role) (a l : Half) (s : State), s.handed r (.setHousehold r a l) = true → s.authority r ≠ none →
    (30 ≤ a.toNat ∧ a.toNat ≤ 900 ∧ 60 ≤ l.toNat ∧ l.toNat ≤ 3600 →
      exec (.setHousehold r a l) s = .next (((s.withProfiles { s.profiles with
          household := { authorityLength := a.toNat, lockoutLength := l.toNat } }).sendAll
        [.dirtyMark .profile false, .notice .profile .authority .every 0]).place r (.ok []))) ∧
    (¬ (30 ≤ a.toNat ∧ a.toNat ≤ 900 ∧ 60 ≤ l.toNat ∧ l.toNat ≤ 3600) →
      exec (.setHousehold r a l) s = .next (s.place r (.bare .badValue))))

/-- R10, R13, R14, R22: a lockout that expires; a window that expires, that its own role ends, or that entry to standby
closes; READ_AUTHORITY reports the requesting role's window alone. An expiry that is due waits at 0 for its command, and such a
window reads as 1 second (log 8, the model's choice). -/
def Obligations.LockoutsAndWindowsEnd : Prop :=
  (∀ (p : Slot) (s : State), s.profiles.lockouts[p] = some 0 →
    exec (.lockoutExpiry p) s = .next ((s.withProfiles { s.profiles with
      failures := put s.profiles.failures p 0, lockouts := put s.profiles.lockouts p none }).sendAll
        [.notice .profile .authority .every 0])) ∧
  (∀ (r : Role) (w : Window) (s : State), s.profiles.windows.get r = some w → w.seconds = 0 →
    exec (.windowExpiry r) s = .next ((s.withProfiles { s.profiles with
      windows := s.profiles.windows.set r none }).sendAll [.notice .profile .authority .every 0])) ∧
  (∀ (rest : List Instr) (s : State), takeFrom .standbyEntryReport s.transit = some rest →
    exec .standbyEntryReport s = .next (((s.withTransit rest).withProfiles { s.profiles with
      windows := { console := none, panel := none, relay := none } }).sendAll
        (if s.profiles.windows.console.isSome || s.profiles.windows.panel.isSome || s.profiles.windows.relay.isSome then
          [.notice .profile .authority .every 0] else []))) ∧
  ∀ (r : Role) (s : State),
    (s.handed r (.endAuthority r) = true →
      (s.profiles.windows.get r = none →
        exec (.endAuthority r) s = .next (s.place r (.ok []))) ∧
      (s.profiles.windows.get r ≠ none →
        exec (.endAuthority r) s = .next (((s.withProfiles { s.profiles with
          windows := s.profiles.windows.set r none }).sendAll [.notice .profile .authority .every 0]).place r
            (.ok [])))) ∧
    (s.handed r (.readAuthority r) = true →
      (s.profiles.windows.get r = none →
        exec (.readAuthority r) s = .next (s.place r (.ok [0, 0xFF, 0, 0]))) ∧
      ∀ w : Window, s.profiles.windows.get r = some w →
        exec (.readAuthority r) s =
          .next (s.place r (.ok ([1, byteOf w.opener] ++ le2 (max w.seconds 1)))))

/-! ### Time and accounts -/

/-- R29: SET_TRIM replaces the trim and leaves the second under way as it is; out of range it is refused; the second that
begins next has the length the new trim gives. That a step on an empty queue lets a period pass is log 8, the model's choice. -/
def Obligations.TrimTakesEffectAtTheNextSecond : Prop :=
  ∀ (r : Role) (trim : Half) (s : State), s.handed r (.setTrim r trim) = true →
    (-128 ≤ trim.toInt ∧ trim.toInt ≤ 127 →
      exec (.setTrim r trim) s =
        .next ((s.withMetering { s.metering with trim := trim.toInt }).place r (.ok [])) ∧
      ∀ t u : State, exec (.setTrim r trim) s = .next t → t.pending = [] → t.awake = true →
        t.ref.length ≤ t.ref.phase + 1 → step t = .next u → (u.ref.length : Int) = 32768 + trim.toInt) ∧
    (¬ (-128 ≤ trim.toInt ∧ trim.toInt ≤ 127) →
      exec (.setTrim r trim) s = .next (s.place r (.bare .badValue)))

/-- R46 to R48, R33, R42, R43, Table 2-3: an accepted SET_CLOCK: the unit after it, the reassessment, the curfew evaluation and
the curfew warnings of every account, and its messages in R48's order; values out of range are refused once the protection is
passed (R46 step 2; a day serial is two bytes and always in range). That curfew is evaluated once, at R48 step 2, is log 25,
and that an account's allowances, lead and windows are those of its copied terms is log 14: deductions, the model's choice.
The order among accounts within a part is log 37's choice and stays open here. -/
def Obligations.ClockSetMovesDayKindsAndAccounts : Prop :=
  (∀ (r : Role) (time : RawTime) (weekday : Byte) (s : State),
    s.handed r (.setClock r time weekday) = true → 86400 ≤ time.second.toNat ∨ 7 ≤ weekday.toNat →
    (s.authority r ≠ none ∨ s.metering.running = false ∨ ((time.day.toNat * 86400 + time.second.toNat : Int) -
      (s.metering.day * 86400 + s.metering.second)).natAbs ≤ 300) →
    exec (.setClock r time weekday) s = .next (s.place r (.bare .badValue))) ∧
  ∀ (r : Role) (time : RawTime) (weekday : Byte) (w : Fin 7) (s : State),
    s.handed r (.setClock r time weekday) = true → time.second.toNat < 86400 → weekday.toNat = w.val →
    (s.authority r ≠ none ∨ s.metering.running = false ∨ ((time.day.toNat * 86400 + time.second.toNat : Int) -
      (s.metering.day * 86400 + s.metering.second)).natAbs ≤ 300) →
    let before := s.metering.today
    let later := s.metering.accountDay < time.day.toNat
    ∃ (u : MeteringUnit) (reassessed evaluated warned mark : List Instr),
      exec (.setClock r time weekday) s = .next (((s.withMetering u).sendAll
        (reassessed ++ (if later then [.rolloverTaken] else []) ++ evaluated ++ warned ++
          [.clockSet, .passListClockSet, .minute, .notice .metering .time .every 0] ++ mark)).place r
        (.ok ([1] ++ le2 u.accountDay))) ∧
      u = { s.metering with
        running := true, day := time.day.toNat, second := time.second.toNat, weekday := w
        accountDay := max s.metering.accountDay time.day.toNat
        override := (if time.day.toNat = s.metering.accountDay then s.metering.override else none)
        yesterday :=
          (if time.day.toNat = s.metering.accountDay ∧ s.metering.running = true then s.metering.yesterday
            else if time.day.toNat = s.metering.accountDay + 1 ∧ s.metering.running = true then s.metering.today
            else s.metering.plan[w + 6])
        accounts := u.accounts } ∧
      reassessed.Nodup ∧ evaluated.Nodup ∧ warned.Nodup ∧
      (∀ m ∈ reassessed, ∃ p : Slot, s.metering.accounts[p] ≠ none ∧ (m = .exhausted p ∨ m = .replenished p)) ∧
      (∀ m ∈ evaluated, ∃ p : Slot, s.metering.accounts[p] ≠ none ∧ (m = .curfewOn p ∨ m = .curfewOff p)) ∧
      (∀ m ∈ warned, ∃ p : Slot, s.metering.accounts[p] ≠ none ∧ m = .warn p .curfew) ∧
      (later → mark = [.dirtyMark .metering true]) ∧
      (¬ later → (mark = [] ∨ mark = [.dirtyMark .metering false]) ∧
        (mark ≠ [] ↔ ∃ (p : Slot) (a b : Account), s.metering.accounts[p] = some a ∧ u.accounts[p] = some b ∧
          (b.warned ≠ a.warned ∨ b.curfewWarned ≠ a.curfewWarned))) ∧
      let now := u.today
      let m := u.second / 60
      ∀ p : Slot,
        (s.metering.accounts[p] = none → u.accounts[p] = none) ∧
        ∀ a : Account, s.metering.accounts[p] = some a →
          ∃ b : Account, u.accounts[p] = some b ∧ b.terms = a.terms ∧
            let flags := if later then a.curfewWarned.map fun _ => false else a.curfewWarned
            let may := 0 < a.terms.lead ∧ b.curfew = .outside ∧ ∀ x ∈ s.passes.held, x.scope ≠ .curfew p
            let reached : CurfewWindow → Prop := fun w => (w.applies = .both ∨ (w.applies = .school ∧ now = .school) ∨
              (w.applies = .free ∧ now = .free)) ∧ w.start - a.terms.lead ≤ m ∧ m < w.start
            (if later then b.bonus = 0 ∧ b.used = 0 ∧ b.overrun = 0 ∧ b.warned = false
              else b.bonus = a.bonus ∧ b.used = a.used ∧ b.overrun = a.overrun ∧
                b.warned = (a.warned && decide (b.remaining now ≤ a.terms.lead * 60))) ∧
            (.exhausted p ∈ reassessed ↔ 0 < a.remaining before ∧ b.remaining now = 0) ∧
            (.replenished p ∈ reassessed ↔ (a.remaining before = 0 ∧ 0 < b.remaining now) ∨
              (a.warned = true ∧ a.terms.lead * 60 < b.remaining now)) ∧
            (b.curfew = .inside ↔ insideCurfew s.passes u p b = true) ∧
            (.curfewOn p ∈ evaluated ↔ a.curfew = .outside ∧ b.curfew = .inside) ∧
            (.curfewOff p ∈ evaluated ↔ a.curfew = .inside ∧ b.curfew = .outside) ∧
            (¬ may → b.curfewWarned = flags ∧ .warn p .curfew ∉ warned) ∧
            (may → a.curfewWarned.length = a.terms.windows.length →
              b.curfewWarned.length = a.curfewWarned.length ∧
              (∀ (i : Nat) (w : CurfewWindow), a.terms.windows[i]? = some w →
                (b.curfewWarned[i]? = some true ↔ flags[i]? = some true ∨ reached w)) ∧
              (.warn p .curfew ∈ warned ↔ ∃ (i : Nat) (w : CurfewWindow), a.terms.windows[i]? = some w ∧
                flags[i]? = some false ∧ reached w))

/-- R51, R33: GRANT_BONUS under authority: its refusals, and a grant that is the smaller of the minutes asked and what the cap
leaves, with the reassessment and the whole list of messages. The cap, the allowances and the lead are those of the terms the
account copied from its profile (log 14, the model's deduction). -/
def Obligations.BonusGrantsStayWithinTheCap : Prop :=
  ∀ (r : Role) (slot minutes : Byte) (s : State), s.handed r (.grantBonus r slot minutes) = true →
    s.authority r ≠ none →
    (8 ≤ slot.toNat ∨ minutes.toNat < 1 ∨ 240 < minutes.toNat →
      exec (.grantBonus r slot minutes) s = .next (s.place r (.bare .badValue))) ∧
    ∀ p : Slot, slot.toNat = p.val → 1 ≤ minutes.toNat → minutes.toNat ≤ 240 →
      (s.metering.accounts[p] = none →
        exec (.grantBonus r slot minutes) s = .next (s.place r (.bare .notFound))) ∧
      ∀ a : Account, s.metering.accounts[p] = some a →
        let grant := min (minutes.toNat * 60) (a.terms.bonusCap * 60 - a.bonus)
        let base := if s.metering.today = .school then a.terms.school * 60 else a.terms.free * 60
        let left : Nat → Nat := fun bonus => max a.used (base + bonus) - a.used
        let before := left a.bonus
        let now := left (a.bonus + grant)
        (grant = 0 → exec (.grantBonus r slot minutes) s = .next (s.place r (.bare .badValue))) ∧
        (0 < grant →
          exec (.grantBonus r slot minutes) s = .next (((s.withMetering { s.metering with
              accounts := put s.metering.accounts p (some { a with
                bonus := a.bonus + grant, warned := a.warned && decide (now ≤ a.terms.lead * 60) }) }).sendAll
            ((if (before = 0 ∧ 0 < now) ∨ (a.warned = true ∧ a.terms.lead * 60 < now) then [.replenished p] else []) ++
              [.notice .metering .time .every 0, .dirtyMark .metering false])).place r (.ok (le2 grant ++ le3 now))))

/-- R52, R53, R30, R33, R42, R54: SET_WEEK_PLAN and SET_TODAY_KIND under authority change the plan or the override, and of each
account the curfew state and allowance warned alone, and these only when today's kind changes; with the messages, the
notice and the dirty mark. An account's lead and windows are those of its copied terms (log 14, the model's deduction). -/
def Obligations.PlanAndOverrideChangeTodaysKind : Prop :=
  let changes : State → MeteringUnit → MeteringUnit → List Instr → Prop := fun s given u told =>
    let before := s.metering.today
    let now := given.today
    u = { given with accounts := u.accounts } ∧ told.Nodup ∧
    (∀ m ∈ told, ∃ (p : Slot) (a : Account), s.metering.accounts[p] = some a ∧
      (m = .exhausted p ∨ m = .replenished p ∨ m = .curfewOn p ∨ m = .curfewOff p)) ∧
    (now = before → u.accounts = s.metering.accounts ∧ told = []) ∧
    ∀ p : Slot,
      (s.metering.accounts[p] = none → u.accounts[p] = none) ∧
      ∀ a : Account, s.metering.accounts[p] = some a →
        ∃ b : Account, u.accounts[p] = some b ∧ b.terms = a.terms ∧ b.bonus = a.bonus ∧ b.used = a.used ∧
          b.overrun = a.overrun ∧ b.curfewWarned = a.curfewWarned ∧
          (now ≠ before →
            b.warned = (a.warned && decide (a.remaining now ≤ a.terms.lead * 60)) ∧
            (s.metering.running = false → b.curfew = a.curfew) ∧
            (s.metering.running = true → (b.curfew = .inside ↔ insideCurfew s.passes given p a = true)) ∧
            (.exhausted p ∈ told ↔ 0 < a.remaining before ∧ a.remaining now = 0) ∧
            (.replenished p ∈ told ↔ (a.remaining before = 0 ∧ 0 < a.remaining now) ∨
              (a.warned = true ∧ a.terms.lead * 60 < a.remaining now)) ∧
            (.curfewOn p ∈ told ↔ a.curfew = .outside ∧ b.curfew = .inside) ∧
            (.curfewOff p ∈ told ↔ a.curfew = .inside ∧ b.curfew = .outside))
  (∀ (r : Role) (kinds : List Byte) (ks : List DayKind) (s : State), s.handed r (.setWeekPlan r kinds) = true →
    s.authority r ≠ none → kinds.length = 7 → dayKindsOf kinds = some ks →
    ∃ (v : Vector DayKind 7) (u : MeteringUnit) (told : List Instr),
      exec (.setWeekPlan r kinds) s = .next (((s.withMetering u).sendAll
        (told ++ [.notice .metering .time .every 0, .dirtyMark .metering false])).place r (.ok [])) ∧
      v.toList = ks ∧ changes s { s.metering with plan := v } u told) ∧
  (∀ (r : Role) (kinds : List Byte) (s : State), s.handed r (.setWeekPlan r kinds) = true → s.authority r ≠ none →
    (∃ b ∈ kinds, 2 ≤ b.toNat) → exec (.setWeekPlan r kinds) s = .next (s.place r (.bare .badValue))) ∧
  (∀ (r : Role) (kind : Byte) (s : State), s.handed r (.setTodayKind r kind) = true → s.authority r ≠ none →
    (kind.toNat ≤ 2 →
      ∃ (u : MeteringUnit) (told mark : List Instr),
        exec (.setTodayKind r kind) s = .next (((s.withMetering u).sendAll
          (told ++ .notice .metering .time .every 0 :: mark)).place r (.ok [])) ∧
        changes s { s.metering with
          override := if kind = 0 then some .school else if kind = 1 then some .free else none } u told ∧
        (mark = [] ∨ mark = [.dirtyMark .metering false]) ∧
        (mark ≠ [] ↔ ∃ (p : Slot) (a b : Account), s.metering.accounts[p] = some a ∧ u.accounts[p] = some b ∧
          b.warned ≠ a.warned)) ∧
    (2 < kind.toNat → exec (.setTodayKind r kind) s = .next (s.place r (.bare .badValue))))

/-- R35, R34, R42, R54: CHARGE replaces one charge entry; PROFILE_CHANGED gives every CHILD profile that it names an account
and drops the others', with what is kept of each, its reassessment, its curfew evaluation and the dirty mark; a curfew pass
change evaluates one account's curfew while RUNNING. That an account copies all its terms is log 14, the model's deduction. -/
def Obligations.MeteringTakesItsMessages : Prop :=
  let silent : List Instr → Slot → Prop := fun ms p =>
    .exhausted p ∉ ms ∧ .replenished p ∉ ms ∧ .curfewOn p ∉ ms ∧ .curfewOff p ∉ ms
  (∀ (n : ScreenNo) (p : Slot) (kind : ChargeKind) (rest : List Instr) (s : State),
    takeFrom (.charge n p kind) s.transit = some rest →
    exec (.charge n p kind) s = .next ((s.withTransit rest).withMetering { s.metering with
      charges := put s.metering.charges n { profile := p, kind := kind } })) ∧
  (∀ (which : ProfileRef) (rest : List Instr) (s : State),
    takeFrom (.profileChangedMetering which) s.transit = some rest →
    ∃ (u : MeteringUnit) (ms : List Instr),
      exec (.profileChangedMetering which) s = .next (((s.withTransit rest).withMetering u).sendAll ms) ∧
      u = { s.metering with accounts := u.accounts } ∧
      (.notice .metering .time .every 0 ∈ ms ↔ ∃ p : Slot, ¬ silent ms p) ∧
      (.dirtyMark .metering false ∈ ms ↔ ∃ p : Slot, u.accounts[p].map storedOf ≠ s.metering.accounts[p].map storedOf) ∧
      ∀ p : Slot,
        (which ≠ .all → which ≠ .one p → u.accounts[p] = s.metering.accounts[p] ∧ silent ms p) ∧
        (which = .all ∨ which = .one p →
          (childOf s.profiles.table[p] = none → u.accounts[p] = none ∧ silent ms p) ∧
          ∀ k : ChildPart, childOf s.profiles.table[p] = some k →
            ∃ b : Account, u.accounts[p] = some b ∧
            b.terms = { school := k.school, free := k.free, bonusCap := k.bonusCap, mode := k.mode, lead := k.lead
                        windows := k.windows } ∧
            b.curfewWarned.length = k.windows.length ∧
            (s.metering.running = true → (b.curfew = .inside ↔ insideCurfew s.passes s.metering p b = true)) ∧
            (s.metering.accounts[p] = none → b.bonus = 0 ∧ b.used = 0 ∧ b.overrun = 0 ∧ b.warned = false ∧
              (∀ f ∈ b.curfewWarned, f = false) ∧ (s.metering.running = false → b.curfew = .outside) ∧
              .exhausted p ∉ ms ∧ (.replenished p ∈ ms ↔ 0 < b.base s.metering.today) ∧
              (.curfewOn p ∈ ms ↔ b.curfew = .inside) ∧ .curfewOff p ∉ ms) ∧
            ∀ a : Account, s.metering.accounts[p] = some a →
              b.used = a.used ∧ b.overrun = a.overrun ∧ b.bonus = min a.bonus (k.bonusCap * 60) ∧
              b.warned = (a.warned && decide (b.remaining s.metering.today ≤ k.lead * 60)) ∧
              (∀ (i : Nat) (w : CurfewWindow), k.windows[i]? = some w → (b.curfewWarned[i]? = some true ↔
                a.curfewWarned[i]? = some true ∧ a.terms.windows[i]? = some w)) ∧
              (s.metering.running = false → b.curfew = a.curfew) ∧
              (.exhausted p ∈ ms ↔ 0 < a.remaining s.metering.today ∧ b.remaining s.metering.today = 0) ∧
              (.replenished p ∈ ms ↔ (a.remaining s.metering.today = 0 ∧ 0 < b.remaining s.metering.today) ∨
                (a.warned = true ∧ k.lead * 60 < b.remaining s.metering.today)) ∧
              (.curfewOn p ∈ ms ↔ a.curfew = .outside ∧ b.curfew = .inside) ∧
              (.curfewOff p ∈ ms ↔ a.curfew = .inside ∧ b.curfew = .outside))) ∧
  ∀ (id : Nat) (p : Slot) (rest : List Instr) (s : State), takeFrom (.curfewPassChange id p) s.transit = some rest →
    (s.metering.running = false ∨ s.metering.accounts[p] = none →
      exec (.curfewPassChange id p) s = .next (s.withTransit rest)) ∧
    ∀ a : Account, s.metering.running = true → s.metering.accounts[p] = some a →
      let now : CurfewState := if insideCurfew s.passes s.metering p a then .inside else .outside
      exec (.curfewPassChange id p) s = .next (((s.withTransit rest).withMetering { s.metering with
        accounts := put s.metering.accounts p (some { a with curfew := now }) }).sendAll
          (if now = a.curfew then []
            else [if now = .inside then .curfewOn p else .curfewOff p, .notice .metering .time .every 0]))

/-- R36 to R43, R54: a second tick that passes no midnight: the clock, the charge capped at remaining, the overrun, the
allowance warning, EXHAUSTED exactly for the accounts that fall to 0, and at a minute boundary the curfew evaluation and
the curfew warnings; with the notice and the account activity report. Then what inside curfew means (R41). An account's
charge mode, lead and windows are those of its copied terms (log 14), a tick asked for when none is due is the reference
second itself (log 8), and activity is judged over the whole tick (log 24): the model's deductions and choice. -/
def Obligations.TickChargesWhatIsViewed : Prop :=
  let applies : CurfewWindow → DayKind → Prop := fun w k =>
    w.applies = .both ∨ (w.applies = .school ∧ k = .school) ∨ (w.applies = .free ∧ k = .free)
  (∀ s : State, s.awake = true → s.metering.running = true → s.metering.second < 86399 →
    ∃ (t : State) (ms : List Instr), exec .secondTick s = .next t ∧ t.transit = s.transit ++ ms ∧
      t.metering = { s.metering with second := s.metering.second + 1, accounts := t.metering.accounts } ∧
      t.passes = s.passes ∧ t.receiver = s.receiver ∧ t.cache = s.cache ∧ t.port = s.port ∧ t.signal = s.signal ∧
      (0 < s.ref.ticksDue → t.profiles = s.profiles ∧ t.screens = s.screens ∧ t.store = s.store ∧
        t.ref = { s.ref with ticksDue := s.ref.ticksDue - 1 }) ∧
      (.minute ∈ ms ↔ t.metering.second % 60 = 0) ∧ (∀ rollover : Bool, .dirtyMark .metering rollover ∉ ms) ∧
      (.notice .metering .time .every 0 ∈ ms ↔ ∃ p : Slot, .exhausted p ∈ ms ∨ .curfewOn p ∈ ms ∨ .curfewOff p ∈ ms ∨
        ∃ x : WarnReason, .warn p x ∈ ms) ∧
      (.accountActivity ∈ ms ↔ ∃ (p : Slot) (a b : Account), s.metering.accounts[p] = some a ∧
        t.metering.accounts[p] = some b ∧ (b.used ≠ a.used ∨ b.overrun ≠ a.overrun ∨ b.warned ≠ a.warned ∨
          b.curfewWarned ≠ a.curfewWarned)) ∧
      ∀ p : Slot,
        (s.metering.accounts[p] = none → t.metering.accounts[p] = none) ∧
        ∀ a : Account, s.metering.accounts[p] = some a →
          ∃ b : Account, t.metering.accounts[p] = some b ∧ b.terms = a.terms ∧ b.bonus = a.bonus ∧
            let today := s.metering.today
            let m := t.metering.second / 60
            let boundary := t.metering.second % 60 = 0
            let near := 0 < a.terms.lead ∧ a.warned = false ∧ 0 < b.remaining today ∧ b.remaining today ≤ a.terms.lead * 60
            let may := boundary ∧ 0 < a.terms.lead ∧ b.curfew = .outside ∧ ∀ x ∈ s.passes.held, x.scope ≠ .curfew p
            let reached : CurfewWindow → Prop := fun w => applies w today ∧ w.start - a.terms.lead ≤ m ∧ m < w.start
            b.used = a.used + min (tickCost a.terms.mode (s.metering.chargeCount p .view)) (a.remaining today) ∧
            b.overrun = min (a.overrun + tickCost a.terms.mode (s.metering.chargeCount p .overrun)) 86400 ∧
            (.exhausted p ∈ ms ↔ 0 < a.remaining today ∧ b.remaining today = 0) ∧ .replenished p ∉ ms ∧
            (b.warned = true ↔ a.warned = true ∨ near) ∧ (.warn p .allowance ∈ ms ↔ near) ∧
            (¬ boundary → b.curfew = a.curfew) ∧
            (boundary → (b.curfew = .inside ↔ insideCurfew s.passes t.metering p b = true)) ∧
            (.curfewOn p ∈ ms ↔ a.curfew = .outside ∧ b.curfew = .inside) ∧
            (.curfewOff p ∈ ms ↔ a.curfew = .inside ∧ b.curfew = .outside) ∧
            (.exhausted p ∈ ms → .curfewOn p ∈ ms → [.exhausted p, .curfewOn p].Sublist ms) ∧
            (¬ may → b.curfewWarned = a.curfewWarned ∧ .warn p .curfew ∉ ms) ∧
            (may → a.curfewWarned.length = a.terms.windows.length →
              b.curfewWarned.length = a.curfewWarned.length ∧
              (∀ (i : Nat) (w : CurfewWindow), a.terms.windows[i]? = some w →
                (b.curfewWarned[i]? = some true ↔ a.curfewWarned[i]? = some true ∨ reached w)) ∧
              (.warn p .curfew ∈ ms ↔ ∃ (i : Nat) (w : CurfewWindow), a.terms.windows[i]? = some w ∧
                a.curfewWarned[i]? = some false ∧ reached w))) ∧
  ∀ (l : PassList) (u : MeteringUnit) (p : Slot) (a : Account), (∀ w ∈ a.terms.windows, w.start ≠ w.stop) →
    let m := u.second / 60
    (insideCurfew l u p a = true ↔ (∀ x ∈ l.held, x.scope ≠ .curfew p) ∧ ∃ w ∈ a.terms.windows,
      (w.start < w.stop ∧ w.start ≤ m ∧ m < w.stop ∧ applies w u.today) ∨
      (w.stop < w.start ∧ w.start ≤ m ∧ applies w u.today) ∨
      (w.stop < w.start ∧ m < w.stop ∧ applies w u.yesterday))

/-- R45, R33, R36 to R43: the tick that passes 86399 is a rollover: every account is emptied and reassessed, the first second of
the new day is charged to it, and minute 0 is a minute boundary. An account's charge mode, lead and windows are those of its
copied terms (log 14), a tick asked for when none is due is the reference second itself (log 8), and activity is judged over
the whole tick (log 24): the model's deductions and choice. -/
def Obligations.RolloverBeginsTheNewDay : Prop :=
  ∀ s : State, s.awake = true → s.metering.running = true → s.metering.second = 86399 →
    ∃ (t : State) (ms : List Instr), exec .secondTick s = .next t ∧ t.transit = s.transit ++ ms ∧
      t.metering = { s.metering with
        second := 0, day := (s.metering.day + 1) % 65536, weekday := s.metering.weekday + 1
        accountDay := (s.metering.day + 1) % 65536, yesterday := s.metering.today, override := none
        accounts := t.metering.accounts } ∧
      t.passes = s.passes ∧ t.receiver = s.receiver ∧ t.cache = s.cache ∧ t.port = s.port ∧ t.signal = s.signal ∧
      (0 < s.ref.ticksDue → t.profiles = s.profiles ∧ t.screens = s.screens ∧ t.store = s.store ∧
        t.ref = { s.ref with ticksDue := s.ref.ticksDue - 1 }) ∧
      .rolloverTaken ∈ ms ∧ .minute ∈ ms ∧ .dirtyMark .metering true ∈ ms ∧ .notice .metering .time .every 0 ∈ ms ∧
      (.accountActivity ∈ ms ↔ ∃ (p : Slot) (a b : Account), s.metering.accounts[p] = some a ∧
        t.metering.accounts[p] = some b ∧ (b.used ≠ a.used ∨ b.overrun ≠ a.overrun ∨ b.warned ≠ a.warned ∨
          b.curfewWarned ≠ a.curfewWarned)) ∧
      ∀ p : Slot,
        (s.metering.accounts[p] = none → t.metering.accounts[p] = none) ∧
        ∀ a : Account, s.metering.accounts[p] = some a →
          ∃ b : Account, t.metering.accounts[p] = some b ∧ b.terms = a.terms ∧ b.bonus = 0 ∧
            let today := t.metering.today
            let near := 0 < a.terms.lead ∧ 0 < b.remaining today ∧ b.remaining today ≤ a.terms.lead * 60
            let may := 0 < a.terms.lead ∧ b.curfew = .outside ∧ ∀ x ∈ s.passes.held, x.scope ≠ .curfew p
            let reached : CurfewWindow → Prop := fun w => (w.applies = .both ∨ (w.applies = .school ∧ today = .school) ∨
              (w.applies = .free ∧ today = .free)) ∧ w.start ≤ a.terms.lead ∧ 0 < w.start
            b.used = min (tickCost a.terms.mode (s.metering.chargeCount p .view)) (a.base today) ∧
            b.overrun = min (tickCost a.terms.mode (s.metering.chargeCount p .overrun)) 86400 ∧
            (.exhausted p ∈ ms ↔ 0 < a.remaining s.metering.today ∧ a.base today = 0) ∧
            (.replenished p ∈ ms ↔ (a.remaining s.metering.today = 0 ∧ 0 < a.base today) ∨
              (a.warned = true ∧ a.terms.lead * 60 < a.base today)) ∧
            (b.warned = true ↔ near) ∧ (.warn p .allowance ∈ ms ↔ near) ∧
            (b.curfew = .inside ↔ insideCurfew s.passes t.metering p b = true) ∧
            (.curfewOn p ∈ ms ↔ a.curfew = .outside ∧ b.curfew = .inside) ∧
            (.curfewOff p ∈ ms ↔ a.curfew = .inside ∧ b.curfew = .outside) ∧
            (¬ may → (∀ f ∈ b.curfewWarned, f = false) ∧ .warn p .curfew ∉ ms) ∧
            (may → a.curfewWarned.length = a.terms.windows.length →
              b.curfewWarned.length = a.curfewWarned.length ∧
              (∀ (i : Nat) (w : CurfewWindow), a.terms.windows[i]? = some w → (b.curfewWarned[i]? = some true ↔ reached w)) ∧
              (.warn p .curfew ∈ ms ↔ ∃ w ∈ a.terms.windows, reached w))

/-! ### Admission -/

/-- R60, R6: a test reads the current event from the cache, resolves the rating by the maps, looks for a covering pass, and
otherwise takes the content verdict; content that passes or is covered goes on to the time part. -/
def Obligations.ContentPartReadsGuideMapsAndPasses : Prop :=
  ∀ (s : State) (n : ScreenNo) (noPass : Bool), let x := s.screens.cells[n]; let y := s.contentRead n noPass
    (∀ v : Half, x.service = some v → v ≠ 0 → y.event = s.cache.currentOf v) ∧
    (x.service = none ∨ x.service = some 0 → y.event = x.event) ∧
    y.service = x.service ∧ y.descriptor = x.descriptor ∧ y.seat = x.seat ∧ y.kind = x.kind ∧
    y.guideWait = x.guideWait ∧ y.state = x.state ∧ y.reason = x.reason ∧ y.timer = x.timer ∧
    y.step = resolve s.profiles.maps (contentRating y) ∧
    (y.override = true ↔ noPass = false ∧ ∃ p ∈ s.passes.held, ∃ c : ContentId, identityOf y = some c ∧
      p.scope = .content n c) ∧
    (y.override = true → s.judge y = timeJudgement s.profiles.table s.metering x.seat) ∧
    (y.override = false → ∀ c : CommonPart, commonOf s.profiles.table[x.seat] = some c →
      (y.step = none → c.unrated = .block → s.judge y = .refused .unrated) ∧
      ((y.step = none → c.unrated ≠ .block) →
        let above := (∃ k : Fin 16, y.step = some k ∧ c.ceiling < k) ∨
          (∃ k : Fin 16, y.step = none ∧ c.unrated = .step k ∧ c.ceiling < k)
        let bears := (contentFlags y).getD 0 &&& c.blocked ≠ 0
        (above → s.judge y = .refused .rating) ∧
        (¬ above → bears → s.judge y = .refused .flags) ∧
        (¬ above → ¬ bears → s.judge y = timeJudgement s.profiles.table s.metering x.seat)))

/-- R61: the time part, step by step; the content part comes before it. The warning lead and the windows of a CHILD seat are
those of the terms its account copied (log 14, the model's deduction). -/
def Obligations.TimePartTakesItsStepsInOrder : Prop :=
  ∀ (s : State) (x : Screen),
    (∀ r : Reason, x.override = false → contentRefusal s.profiles.table[x.seat] x.step (contentFlags x) = some r →
      s.judge x = .refused r) ∧
    ((x.override = true ∨ contentRefusal s.profiles.table[x.seat] x.step (contentFlags x) = none) →
      (∀ c : CommonPart, s.profiles.table[x.seat] = .adult c → s.judge x = .admitted false) ∧
      ∀ (c : CommonPart) (k : ChildPart), s.profiles.table[x.seat] = .child c k →
        (s.metering.running = false → s.judge x = .expired .clock) ∧
        (s.metering.running = true → s.metering.accounts[x.seat] = none → s.judge x = .expired .allowance) ∧
        ∀ a : Account, s.metering.running = true → s.metering.accounts[x.seat] = some a →
          let today := s.metering.today
          let warned := (a.warned = true ∧ a.remaining today ≤ a.terms.lead * 60) ∨
            ∃ (i : Nat) (w : CurfewWindow), a.terms.windows[i]? = some w ∧ a.curfewWarned[i]? = some true ∧
              appliesTo w today = true ∧ s.metering.second / 60 < w.start
          (a.remaining today = 0 → s.judge x = .expired .allowance) ∧
          (a.remaining today ≠ 0 → a.curfew = .inside → s.judge x = .expired .curfew) ∧
          (a.remaining today ≠ 0 → a.curfew = .outside → warned → s.judge x = .admitted true) ∧
          (a.remaining today ≠ 0 → a.curfew = .outside → ¬ warned → s.judge x = .admitted false))

/-- R62, Table 3-2, R59: the outcome of a test applied to the one screen, its charge, and the CHARGE sent when the pair
differs from the last pair sent. -/
def Obligations.OutcomesMoveOneScreenAndItsCharge : Prop :=
  (∀ (p : Profile) (x : Screen) (r : Reason),
    (∀ o w : Bool, applied o p x (.admitted w) = x.become (if w then .winding else .showing) none none) ∧
    (∀ o : Bool, applied o p x (.refused r) = x.become .refused (some r) none) ∧
    applied false p x (.expired r) = x.become .expired (some r) none ∧
    (x.state = .showing ∨ x.state = .winding →
      (∀ k : ChildPart, childOf p = some k → r ≠ .clock → k.close = .atBoundary → 0 < k.grace →
        applied true p x (.expired r) = x.become .closing (some r) (some k.grace)) ∧
      ((∀ k : ChildPart, childOf p = some k → r = .clock ∨ k.close = .atOnce ∨ k.grace = 0) →
        applied true p x (.expired r) = x.become .expired (some r) none)) ∧
    (x.state = .closing → r ≠ .clock → applied true p x (.expired r) = { x with reason := some r })) ∧
  ∀ (s : State) (n : ScreenNo) (fromOpen noPass : Bool),
    let y := s.contentRead n noPass
    let z := applied fromOpen s.profiles.table[y.seat] y (s.judge y)
    let kind := chargeKind z.state s.profiles.table[z.seat]
    let pair : ChargeEntry := { profile := z.seat, kind := kind }
    (childOf s.profiles.table[z.seat] = none → kind = .nothing) ∧
    (childOf s.profiles.table[z.seat] ≠ none → (kind = .view ↔ z.state = .showing ∨ z.state = .winding) ∧
      (kind = .overrun ↔ z.state = .closing)) ∧
    (pair = z.lastPair ∨ (kind = .nothing ∧ z.lastPair.kind = .nothing) →
      s.test n fromOpen noPass = s.setScreen n { z with charge := kind }) ∧
    (pair ≠ z.lastPair → ¬ (kind = .nothing ∧ z.lastPair.kind = .nothing) →
      s.test n fromOpen noPass =
        (s.setScreen n { z with charge := kind, lastPair := pair }).sendAll [.charge n z.seat kind])

/-- R63: whatever step opens a gate, the screen was just admitted: its content passed or is covered by a pass, and a CHILD
has a running clock, time remaining and no curfew. -/
def Obligations.GatesOpenOnlyForAdmittedScreens : Prop :=
  ∀ (s t : State) (n : ScreenNo), step s = .next t → s.gate n = false → t.gate n = true →
    let x := t.screens.cells[n]
    (x.state = .showing ∨ x.state = .winding) ∧ x.reason = none ∧ x.timer = none ∧
    (∀ v : Half, x.service = some v → v ≠ 0 → x.event = t.cache.currentOf v) ∧
    x.step = resolve t.profiles.maps (contentRating x) ∧
    (x.override = true → t.passes.covers n (identityOf x) = true) ∧
    (x.override = false →
      ∃ c : CommonPart, commonOf t.profiles.table[x.seat] = some c ∧ verdict c x.step (contentFlags x) = .pass) ∧
    (childOf t.profiles.table[x.seat] ≠ none →
      t.metering.running = true ∧ x.charge = .view ∧
      ∃ a : Account, t.metering.accounts[x.seat] = some a ∧ 0 < a.remaining t.metering.today ∧ a.curfew = .outside)

/-! ### Screens -/

/-- R81: CONFIGURE_SCREEN: its checks in order, and what an accepted one does, even when it repeats what is held. -/
def Obligations.ConfigureScreenNeedsADarkScreen : Prop :=
  ∀ (r : Role) (n kind wait : Byte) (s : State), s.handed r (.configureScreen r n kind wait) = true →
    (4 ≤ n.toNat ∨ 2 ≤ kind.toNat ∨ 30 < wait.toNat →
      exec (.configureScreen r n kind wait) s = .next (s.place r (.bare .badValue))) ∧
    ∀ m : ScreenNo, n.toNat = m.val → kind.toNat < 2 → wait.toNat ≤ 30 →
      (s.screens.cells[m].state ≠ .dark →
        exec (.configureScreen r n kind wait) s = .next (s.place r (.bare .wrongState))) ∧
      (s.screens.cells[m].state = .dark →
        exec (.configureScreen r n kind wait) s = .next (((s.setScreen m { s.screens.cells[m] with
            kind := (if kind = 0 then .localKind else .remoteKind), guideWait := wait.toNat }).sendAll
          [.dirtyMark .screen false, .notice .screen .screen .every (1#4 <<< m.val)]).place r (.ok [])))

/-- R82, R77, R59, R72: SEAT: its checks in order, and the reseat: the old charge ends, the passes go, the seat changes, and a
live screen that does not wait is tested from a closed gate without its passes: the record it leaves and every message sent. -/
def Obligations.SeatChecksInOrderAndReseats : Prop :=
  ∀ (r : Role) (n slot : Byte) (pin : RawPin) (s : State), s.handed r (.seat r n slot pin) = true →
    (4 ≤ n.toNat → exec (.seat r n slot pin) s = .next (s.place r (.bare .badValue))) ∧
    ∀ m : ScreenNo, n.toNat = m.val → let x := s.screens.cells[m]; let mayAct := r = .panel ∨ tuningOwner x = r
      (¬ mayAct → exec (.seat r n slot pin) s = .next (s.place r (.bare .notPermitted))) ∧
      (mayAct → s.screens.box = .standby → exec (.seat r n slot pin) s = .next (s.place r (.bare .standby))) ∧
      (mayAct → s.screens.box = .awake → seatSlot slot = none ∨ pinArgument pin = none →
        exec (.seat r n slot pin) s = .next (s.place r (.bare .badValue))) ∧
      ∀ (p : Slot) (digits : Option (List (Fin 10))), mayAct → s.screens.box = .awake → seatSlot slot = some p →
        pinArgument pin = some digits →
        (s.profiles.table[p] = .empty → exec (.seat r n slot pin) s = .next (s.place r (.bare .notFound))) ∧
        (s.profiles.table[p] ≠ .empty → p = x.seat → exec (.seat r n slot pin) s = .next (s.place r (.ok []))) ∧
        ∀ c : CommonPart, commonOf s.profiles.table[p] = some c → p ≠ x.seat →
          let checked := if pinHeld s.profiles.table[p] = none then (s, .correct) else s.pinCheck p digits
          (checked.2 = .badPin → exec (.seat r n slot pin) s = .next (checked.1.place r (.bare .badPin))) ∧
          (checked.2 = .lockedOut → exec (.seat r n slot pin) s = .next (checked.1.place r (.bare .lockedOut))) ∧
          (checked.2 = .correct → x.live = true → c.seatLimit ≤ s.liveSeats p →
            exec (.seat r n slot pin) s = .next (checked.1.place r (.bare .seatLimit))) ∧
          (checked.2 = .correct → x.live = false ∨ s.liveSeats p < c.seatLimit →
            let ended : ChargeEntry := if x.charge = .nothing then x.lastPair else { profile := x.seat, kind := .nothing }
            ∃ y : Screen,
              let pair : ChargeEntry := { profile := p, kind := y.charge }
              let reports := pair ≠ ended ∧ ¬ (y.charge = .nothing ∧ ended.kind = .nothing)
              exec (.seat r n slot pin) s = .next (((checked.1.setScreen m y).sendAll
                ((if x.charge = .nothing then [] else [.charge m x.seat .nothing]) ++ [.dropScreen m] ++
                  (if reports then [.charge m p y.charge] else []) ++
                  [.notice .screen .screen .every (1#4 <<< m.val)])).place r (.ok [])) ∧
              y.charge = chargeKind y.state s.profiles.table[p] ∧ y.lastPair = (if reports then pair else ended) ∧
              (x.state = .dark ∨ x.state = .waiting → y = { x with seat := p, charge := y.charge, lastPair := y.lastPair }) ∧
              (x.state ≠ .dark → x.state ≠ .waiting →
                y = { x with
                  seat := p, state := y.state, reason := y.reason, event := y.event, step := y.step, override := false
                  timer := none, charge := y.charge, lastPair := y.lastPair } ∧
                (∀ v : Half, x.service = some v → v ≠ 0 → y.event = s.cache.currentOf v) ∧
                (x.service = none ∨ x.service = some 0 → y.event = x.event) ∧
                y.step = resolve s.profiles.maps (contentRating y) ∧ (y.state, y.reason) = (s.judge y).settled))

/-- R83, R64, R59, R72: TUNE: its checks in order, a retune to the same content, and the move to WAITING or to the outcome of a
test from a closed gate: the record it leaves and every message sent. That a wait leaves the override as it stood and the
resolved step absent is log 28, a deduction, the model's choice. -/
def Obligations.TuneWaitsOrTestsAtOnce : Prop :=
  ∀ (r : Role) (n : Byte) (service : Half) (d : Option RawDescriptor) (s : State),
    s.handed r (.tune r n service d) = true →
    (4 ≤ n.toNat → exec (.tune r n service d) s = .next (s.place r (.bare .badValue))) ∧
    ∀ m : ScreenNo, n.toNat = m.val → let x := s.screens.cells[m]; let owns := tuningOwner x = r
      (¬ owns → exec (.tune r n service d) s = .next (s.place r (.bare .notPermitted))) ∧
      (owns → s.screens.box = .standby → exec (.tune r n service d) s = .next (s.place r (.bare .standby))) ∧
      (owns → s.screens.box = .awake →
        (service = 0 ∧ d.bind descriptorOf = none) ∨ (service ≠ 0 ∧ d ≠ none) →
        exec (.tune r n service d) s = .next (s.place r (.bare .badValue))) ∧
      ∀ given : Option Descriptor, owns → s.screens.box = .awake →
        (service = 0 ∧ given ≠ none ∧ d.bind descriptorOf = given) ∨ (service ≠ 0 ∧ d = none ∧ given = none) →
        (x.live = true → x.service = some service → x.descriptor = given →
          exec (.tune r n service d) s = .next (s.place r (.ok [screenStateByte x.state]))) ∧
        (∀ c : CommonPart, commonOf s.profiles.table[x.seat] = some c → x.live = false → c.seatLimit ≤ s.liveSeats x.seat →
          exec (.tune r n service d) s = .next (s.place r (.bare .seatLimit))) ∧
        (∀ c : CommonPart, commonOf s.profiles.table[x.seat] = some c →
          (if x.live then x.service ≠ some service ∨ x.descriptor ≠ given else s.liveSeats x.seat < c.seatLimit) →
          let ends := x.live = true ∧ x.charge ≠ .nothing
          let ended : ChargeEntry := if ends then { profile := x.seat, kind := .nothing } else x.lastPair
          ∃ y : Screen,
            let pair : ChargeEntry := { profile := x.seat, kind := y.charge }
            let reports := pair ≠ ended ∧ ¬ (y.charge = .nothing ∧ ended.kind = .nothing)
            exec (.tune r n service d) s = .next (((s.setScreen m y).sendAll
              ((if ends then [.charge m x.seat .nothing] else []) ++ (if x.live then [.dropScreen m] else []) ++
                (if reports then [.charge m x.seat y.charge] else []) ++
                [.notice .screen .screen .every (1#4 <<< m.val)])).place r (.ok [screenStateByte y.state])) ∧
            y.charge = chargeKind y.state s.profiles.table[x.seat] ∧ y.lastPair = (if reports then pair else ended) ∧
            let waits := service ≠ 0 ∧ s.cache.currentOf service = none ∧ 0 < x.guideWait
            (waits → y = { x with
              state := .waiting, reason := none, timer := some x.guideWait, service := some service, descriptor := none
              event := none, step := none, charge := y.charge, lastPair := y.lastPair }) ∧
            (¬ waits →
              y = { x with
                state := y.state, reason := y.reason, timer := none, service := some service, descriptor := given
                event := (if service = 0 then none else s.cache.currentOf service), override := y.override, step := y.step
                charge := y.charge, lastPair := y.lastPair } ∧
              y.step = resolve s.profiles.maps (contentRating y) ∧
              (y.override = true ↔ x.live = false ∧ ∃ q ∈ s.passes.held, ∃ c : ContentId, identityOf y = some c ∧
                q.scope = .content m c) ∧
              (y.state, y.reason) = (s.judge y).settled))

/-- R67, R69, R71, R84: SCREEN_OFF darkens a live screen and keeps its seat; a mark, from a request or from a line, and the
grace expiry move a CLOSING screen to EXPIRED with its reason and end its overrun; a mark on any other screen changes
nothing. -/
def Obligations.ScreenOffMarksAndGrace : Prop :=
  (∀ (r : Role) (n : Byte) (s : State), s.handed r (.screenOff r n) = true →
    (4 ≤ n.toNat → exec (.screenOff r n) s = .next (s.place r (.bare .badValue))) ∧
    ∀ m : ScreenNo, n.toNat = m.val → let x := s.screens.cells[m]
      (tuningOwner x ≠ r → exec (.screenOff r n) s = .next (s.place r (.bare .notPermitted))) ∧
      (tuningOwner x = r → x.state = .dark → exec (.screenOff r n) s = .next (s.place r (.ok []))) ∧
      (tuningOwner x = r → x.state ≠ .dark →
        exec (.screenOff r n) s = .next (((s.setScreen m { x with
            state := .dark, reason := none, timer := none, service := none, descriptor := none, event := none
            override := false, step := none, charge := .nothing
            lastPair := (if x.charge = .nothing then x.lastPair else { profile := x.seat, kind := .nothing }) }).sendAll
          ((if x.charge = .nothing then [] else [.charge m x.seat .nothing]) ++
            [.dropScreen m, .notice .screen .screen .every (1#4 <<< m.val)])).place r (.ok [])))) ∧
  ∀ (m : ScreenNo) (s : State), let x := s.screens.cells[m]
    let closed : State → State := fun t => (t.setScreen m { x with
        state := .expired, timer := none, charge := .nothing
        lastPair := (if x.lastPair.kind = .nothing then x.lastPair else { profile := x.seat, kind := .nothing }) }).sendAll
      ((if x.lastPair.kind = .nothing then [] else [.charge m x.seat .nothing]) ++
        [.notice .screen .screen .every (1#4 <<< m.val)])
    (∀ (r : Role) (n : Byte), s.handed r (.mark r n) = true → 4 ≤ n.toNat →
      exec (.mark r n) s = .next (s.place r (.bare .badValue))) ∧
    (∀ (r : Role) (n : Byte), s.handed r (.mark r n) = true → n.toNat = m.val →
      (tuningOwner x ≠ r → exec (.mark r n) s = .next (s.place r (.bare .notPermitted))) ∧
      (tuningOwner x = r → x.state ≠ .closing → exec (.mark r n) s = .next (s.place r (.ok []))) ∧
      (tuningOwner x = r → x.state = .closing → exec (.mark r n) s = .next ((closed s).place r (.ok [])))) ∧
    (∀ rest : List Instr, takeFrom (.boundaryMark m) s.transit = some rest →
      (x.state ≠ .closing → exec (.boundaryMark m) s = .next (s.withTransit rest)) ∧
      (x.state = .closing → exec (.boundaryMark m) s = .next (closed (s.withTransit rest)))) ∧
    (x.state = .closing → x.timer = some 0 → exec (.graceExpiry m) s = .next (closed s))

/-- R78 to R80, R86: the box state follows its two inputs; SET_BOX and STANDBY_LEVEL replace one each; entry darkens and
unseats every screen and drops its passes, departure raises a notice. -/
def Obligations.BoxStateFollowsItsTwoInputs : Prop :=
  (∀ (r : Role) (box : Byte) (s : State), s.handed r (.setBox r box) = true →
    (box = 0 → exec (.setBox r box) s = .next ((s.setBoxInputs .awake s.screens.standbyLevel).place r (.ok []))) ∧
    (box = 1 → exec (.setBox r box) s = .next ((s.setBoxInputs .standby s.screens.standbyLevel).place r (.ok []))) ∧
    (2 ≤ box.toNat → exec (.setBox r box) s = .next (s.place r (.ok [])))) ∧
  (∀ (level : Bool) (rest : List Instr) (s : State), takeFrom (.standbyLevel level) s.transit = some rest →
    exec (.standbyLevel level) s = .next ((s.withTransit rest).setBoxInputs s.screens.requested level)) ∧
  ∀ (q : BoxState) (l : Bool) (s : State), let c : ScreenController := { s.screens with requested := q, standbyLevel := l }
    (c.box = .standby ↔ q = .standby ∨ l = true) ∧
    (c.box = s.screens.box → s.setBoxInputs q l = s.withScreens c) ∧
    (c.box = .awake → s.screens.box = .standby →
      s.setBoxInputs q l = (s.withScreens c).sendAll [.notice .screen .screen .every 0]) ∧
    (c.box = .standby → s.screens.box = .awake →
      ∃ (x : ScreenController) (ms : List Instr) (changed : ScreenSet),
        s.setBoxInputs q l = (s.withScreens x).sendAll (ms ++ [.standbyEntryReport, .notice .screen .screen .every changed]) ∧
        x.requested = q ∧ x.standbyLevel = l ∧
        ∀ n : ScreenNo, let a := s.screens.cells[n]; let b := x.cells[n]
          b.state = .dark ∧ b.seat = 0 ∧ b.kind = a.kind ∧ b.guideWait = a.guideWait ∧
          (a.state ≠ .dark → b.service = none ∧ b.descriptor = none ∧ b.event = none ∧ b.reason = none ∧
            b.override = false ∧ b.timer = none ∧ b.charge = .nothing) ∧
          (ms.filter (· == .dropScreen n)).length = 1 ∧
          (a.state ≠ .dark → a.charge ≠ .nothing → .charge n a.seat .nothing ∈ ms) ∧
          changed.getLsbD n = screenDiffers a b)

/-- R65, R70, R73 to R75, R59, R72: a message tests the live screens that it concerns and that do not wait, each from the gate
it has, and no other; EVENT_CHANGE also ends the wait of a WAITING screen of its service once there is an event; the
guide-wait expiry ends a wait with a test from a closed gate. Each tested screen sends a CHARGE exactly when its pair differs
from the last pair sent, and one SCREEN notice names exactly the screens that changed, none being sent when none did. In
which order the screens send their CHARGE is log 38's choice and stays open here. -/
def Obligations.MessagesTestTheScreensTheyConcern : Prop :=
  let reports : Screen → Screen → Prop := fun a b =>
    ({ profile := b.seat, kind := b.charge } : ChargeEntry) ≠ a.lastPair ∧ ¬ (b.charge = .nothing ∧ a.lastPair.kind = .nothing)
  let told : ScreenController → ScreenController → (ScreenNo → Prop) → List Instr → Prop := fun before after tested ms =>
    ∃ (charges : List Instr) (changed : ScreenSet),
      ms = charges ++ (if changed = 0 then [] else [.notice .screen .screen .every changed]) ∧ charges.Nodup ∧
      (∀ m : Instr, m ∈ charges ↔ ∃ n : ScreenNo, tested n ∧ reports before.cells[n] after.cells[n] ∧
        m = .charge n after.cells[n].seat after.cells[n].charge) ∧
      ∀ n : ScreenNo, let a := before.cells[n]; let b := after.cells[n]
        (changed.getLsbD n = true ↔ b.kind ≠ a.kind ∨ b.guideWait ≠ a.guideWait ∨ b.seat ≠ a.seat ∨ b.state ≠ a.state ∨
          b.reason ≠ a.reason ∨ b.service ≠ a.service ∨ b.descriptor ≠ a.descriptor ∨ b.event ≠ a.event ∨
          b.override ≠ a.override)
  (∀ (i : Instr) (concerned : ScreenNo → Screen → Bool) (rest : List Instr) (s : State),
    testedBy i = some concerned → takeFrom i s.transit = some rest →
    ∃ (x : ScreenController) (ms : List Instr),
      exec i s = .next (((s.withTransit rest).withScreens x).sendAll ms) ∧ x.requested = s.screens.requested ∧
      x.standbyLevel = s.screens.standbyLevel ∧
      told s.screens x (fun n => concerned n s.screens.cells[n] = true ∧ s.screens.cells[n].state ≠ .dark ∧
        s.screens.cells[n].state ≠ .waiting) ms ∧
      ∀ n : ScreenNo, let a := s.screens.cells[n]
        (concerned n a = false ∨ a.state = .dark ∨ a.state = .waiting → x.cells[n] = a) ∧
        (concerned n a = true → a.state ≠ .dark → a.state ≠ .waiting →
          x.cells[n] = (s.test n (s.gate n) false).screens.cells[n])) ∧
  (∀ (service : Half) (rest : List Instr) (s : State), takeFrom (.eventChange service) s.transit = some rest →
    service ≠ 0 →
    ∃ (x : ScreenController) (ms : List Instr),
      exec (.eventChange service) s = .next (((s.withTransit rest).withScreens x).sendAll ms) ∧
      x.requested = s.screens.requested ∧ x.standbyLevel = s.screens.standbyLevel ∧
      told s.screens x (fun n => s.screens.cells[n].service = some service ∧ s.screens.cells[n].state ≠ .dark ∧
        (s.screens.cells[n].state = .waiting → s.cache.currentOf service ≠ none)) ms ∧
      ∀ n : ScreenNo, let a := s.screens.cells[n]
        (a.service ≠ some service ∨ a.state = .dark → x.cells[n] = a) ∧
        (a.service = some service → a.state = .waiting → s.cache.currentOf service = none → x.cells[n] = a) ∧
        (a.service = some service → a.state = .waiting → s.cache.currentOf service ≠ none →
          x.cells[n] = (s.test n false false).screens.cells[n]) ∧
        (a.service = some service → a.state ≠ .waiting → a.state ≠ .dark →
          x.cells[n] = (s.test n (s.gate n) false).screens.cells[n])) ∧
  ∀ (n : ScreenNo) (s : State), s.screens.cells[n].state = .waiting → s.screens.cells[n].timer = some 0 →
    ∃ (y : Screen) (ms : List Instr), exec (.guideWaitExpiry n) s = .next ((s.setScreen n y).sendAll ms) ∧
      y = (s.test n false false).screens.cells[n] ∧ y.timer = none ∧ (y.state, y.reason) = (s.judge y).settled ∧
      y.service = s.screens.cells[n].service ∧ y.seat = s.screens.cells[n].seat ∧
      (reports s.screens.cells[n] y →
        ms = [.charge n y.seat y.charge, .notice .screen .screen .every (1#4 <<< n.val)]) ∧
      (¬ reports s.screens.cells[n] y → ms = [.notice .screen .screen .every (1#4 <<< n.val)])

/-! ### Passes -/

/-- R91 to R94, R89, R90: GRANT_PASS under authority: its checks, and a pass that enters the list after every held pass whose
expiry is not later, under the id of the pass it replaces or under the first free one from the next id upward. How expiries are
ordered around the present is log 29, a deduction, the model's choice. -/
def Obligations.GrantsEnterOrReplaceAPass : Prop :=
  let entered : SecondTime → Pass → List Pass → List Pass → Prop := fun now new held l =>
    ∃ sooner later : List Pass, held = sooner ++ later ∧ l = sooner ++ new :: later ∧
      (∀ q ∈ later, expiryKey now new.expiry < expiryKey now q.expiry) ∧
      (∀ q : Pass, sooner.getLast? = some q → expiryKey now q.expiry ≤ expiryKey now new.expiry)
  (∀ now a b : SecondTime, halfSeconds ≤ secondsAhead a now → halfSeconds ≤ secondsAhead b now →
    (expiryKey now a < expiryKey now b ↔ secondsAhead now a < secondsAhead now b)) ∧
  ∀ (r : Role) (kind target : Byte) (endTime : Option RawTime) (opener : Option Slot) (s : State),
    s.handed r (.grantPass r kind target endTime) = true → s.authority r = some opener →
    let wellAsked := (kind = 0 ∧ endTime = none ∧ target.toNat < 4) ∨
      (kind = 1 ∧ target.toNat < 8 ∧ ∃ t : RawTime, endTime = some t ∧ t.second.toNat < 86400)
    (¬ wellAsked → exec (.grantPass r kind target endTime) s = .next (s.place r (.bare .badValue))) ∧
    (wellAsked → s.metering.running = false →
      exec (.grantPass r kind target endTime) s = .next (s.place r (.bare .wrongState))) ∧
    (∀ m : ScreenNo, s.metering.running = true → kind = 0 → endTime = none → target.toNat = m.val →
      let x := s.screens.cells[m]
      (x.state = .dark ∨ x.state = .waiting ∨ secondsAhead (contentExpiry s.now x) s.now < halfSeconds →
        exec (.grantPass r kind target endTime) s = .next (s.place r (.bare .wrongState)))) ∧
    (∀ (p : Slot) (t : RawTime), s.metering.running = true → kind = 1 → endTime = some t → t.second.toNat < 86400 →
      target.toNat = p.val →
      let ahead := secondsAhead s.now { day := t.day.toNat, second := t.second.toNat }
      (childOf s.profiles.table[p] = none →
        exec (.grantPass r kind target endTime) s = .next (s.place r (.bare .notFound))) ∧
      (childOf s.profiles.table[p] ≠ none → ahead < 1 ∨ 43200 < ahead →
        exec (.grantPass r kind target endTime) s = .next (s.place r (.bare .badValue)))) ∧
    ∀ (scope : PassScope) (expiry : SecondTime), s.metering.running = true →
      ((∃ (m : ScreenNo) (c : ContentId), kind = 0 ∧ endTime = none ∧ target.toNat = m.val ∧ scope = .content m c ∧
          s.screens.cells[m].state ≠ .dark ∧ s.screens.cells[m].state ≠ .waiting ∧
          identityOf s.screens.cells[m] = some c ∧ expiry = contentExpiry s.now s.screens.cells[m] ∧
          halfSeconds ≤ secondsAhead expiry s.now) ∨
        (∃ (p : Slot) (t : RawTime), kind = 1 ∧ endTime = some t ∧ t.second.toNat < 86400 ∧ target.toNat = p.val ∧
          scope = .curfew p ∧ childOf s.profiles.table[p] ≠ none ∧
          expiry = { day := t.day.toNat, second := t.second.toNat } ∧ 1 ≤ secondsAhead s.now expiry ∧
          secondsAhead s.now expiry ≤ 43200)) →
      (∀ old ∈ s.passes.held, old.scope = scope → (s.passes.held.map fun p => p.scope).Nodup →
        let new : Pass := { id := old.id, scope := scope, expiry := expiry, granter := opener }
        ∃ l : List Pass,
          exec (.grantPass r kind target endTime) s = .next (((s.withPasses { s.passes with held := l }).sendAll
            [.notice .passes .authority .every 0]).place r (.ok (grantBody new true))) ∧
          entered s.now new (s.passes.held.filter fun q => q.scope ≠ scope) l ∧
          (∀ q : Pass, q ∈ l ↔ q = new ∨ (q ∈ s.passes.held ∧ q ≠ old)) ∧
          (inExpiryOrder s.now s.passes.held → inExpiryOrder s.now l)) ∧
      ((∀ q ∈ s.passes.held, q.scope ≠ scope) → 16 ≤ s.passes.held.length →
        exec (.grantPass r kind target endTime) s = .next (s.place r (.bare .listFull))) ∧
      ((∀ q ∈ s.passes.held, q.scope ≠ scope) → s.passes.held.length < 16 →
        ∃ (id : Nat) (l : List Pass),
          let new : Pass := { id := id, scope := scope, expiry := expiry, granter := opener }
          exec (.grantPass r kind target endTime) s = .next (((s.withPasses
              { held := l, nextId := (if id = 255 then 1 else id + 1) }).sendAll
            (announceAdded new ++ [.notice .passes .authority .every 0])).place r (.ok (grantBody new false))) ∧
          1 ≤ id ∧ id ≤ 255 ∧ (∀ q ∈ s.passes.held, q.id ≠ id) ∧
          (1 ≤ s.passes.nextId → s.passes.nextId ≤ 255 →
            let nth : Nat → Nat := fun k => (s.passes.nextId - 1 + k) % 255 + 1
            ∃ k < 255, id = nth k ∧ ∀ j < k, ∃ q ∈ s.passes.held, q.id = nth j) ∧
          entered s.now new s.passes.held l ∧
          (∀ q : Pass, q ∈ l ↔ q = new ∨ q ∈ s.passes.held) ∧ l.length = s.passes.held.length + 1 ∧
          (inExpiryOrder s.now s.passes.held → inExpiryOrder s.now l))

/-- R95 to R99: every removal takes the passes it names out of the list and no other, announces each in list order, and
raises one notice; an expiry takes reached passes from the head, all of them when the list is in expiry order. When a check
may be taken is log 9, the model's choice, and the order around the present log 29, a deduction, the model's choice. -/
def Obligations.RemovalsTakePassesOutAndTellOfThem : Prop :=
  let removed : State → List Pass → List Pass → State := fun t gone kept =>
    (t.withPasses { t.passes with held := kept }).sendAll
      (gone.flatMap announceRemoved ++ if gone.isEmpty then [] else [.notice .passes .authority .every 0])
  (∀ p : Pass, announceRemoved p = (match p.scope with
    | .content n c => [.passRemoved { id := p.id, scope := .content n c }]
    | .curfew q => [.curfewPassChange p.id q, .passRemoved { id := p.id, scope := .curfew q }])) ∧
  (∀ (r : Role) (id : Byte) (s : State), s.handed r (.revokePass r id) = true → s.authority r ≠ none →
    (id = 0 → exec (.revokePass r id) s = .next (s.place r (.bare .badValue))) ∧
    (id ≠ 0 → (∀ p ∈ s.passes.held, p.id ≠ id.toNat) →
      exec (.revokePass r id) s = .next (s.place r (.bare .notFound))) ∧
    (id ≠ 0 → (∃ p ∈ s.passes.held, p.id = id.toNat) →
      exec (.revokePass r id) s = .next ((removed s (s.passes.held.filter fun p => p.id = id.toNat)
        (s.passes.held.filter fun p => p.id ≠ id.toNat)).place r (.ok [])))) ∧
  (∀ (n : ScreenNo) (rest : List Instr) (s : State), takeFrom (.dropScreen n) s.transit = some rest →
    ∃ gone kept : List Pass, exec (.dropScreen n) s = .next (removed (s.withTransit rest) gone kept) ∧
      gone.Sublist s.passes.held ∧ kept.Sublist s.passes.held ∧ gone.length + kept.length = s.passes.held.length ∧
      (∀ p ∈ gone, ∃ c : ContentId, p.scope = .content n c) ∧ (∀ p ∈ kept, ∀ c : ContentId, p.scope ≠ .content n c)) ∧
  (∀ (p : Slot) (rest : List Instr) (s : State), takeFrom (.dropProfile p) s.transit = some rest →
    exec (.dropProfile p) s = .next (removed (s.withTransit rest)
      (s.passes.held.filter fun x => x.scope = .curfew p) (s.passes.held.filter fun x => x.scope ≠ .curfew p))) ∧
  (∀ s : State,
    let gone := s.passes.held.takeWhile (expiryReached s.now)
    let kept := s.passes.held.dropWhile (expiryReached s.now)
    (s.awake = true → s.metering.running = true → exec .expiryCheck s = .next (removed s gone kept)) ∧
    (∀ rest : List Instr, takeFrom .passListClockSet s.transit = some rest →
      exec .passListClockSet s = .next (removed (s.withTransit rest) gone kept)) ∧
    (inExpiryOrder s.now s.passes.held → ∀ p ∈ kept, expiryReached s.now p = false))

/-! ### The guide link -/

/-- R102 to R104, R193: nine samples make a symbol, the kind bit first and then eight value bits, most significant first; an
arrival joins the FIFO or is an overrun; a quiet gap aligns the symbols or drops a partial symbol; a lost symbol sets the
loss mark and damages a table open in HEADER or BODY. -/
def Obligations.ArrivalsJoinTheFifoOrAreLost : Prop :=
  (∀ samples : Vector Bool 9, ∃ v : Byte, symbolOf samples = (if samples[0] then .control v else .data v) ∧
    ∀ i : Nat, i < 8 → samples[8 - i]? = some (v.getLsbD i)) ∧
  ∀ s : State, s.awake = true → s.store.state ≠ .loading →
    let v := s.receiver
    let lost : GuideReceiver := { v with lossMark := true, damaged := v.damaged || v.state == .header || v.state == .body }
    (∀ bits : Vector Bool 9, let sym := symbolOf bits
      (v.aligned = false ∨ sym = .control 0 → exec (.symbolArrival bits) s = .next s) ∧
      (v.aligned = true → sym ≠ .control 0 → v.fifo.length < 64 →
        exec (.symbolArrival bits) s = .next (s.withReceiver { v with fifo := v.fifo ++ [sym] })) ∧
      (v.aligned = true → sym ≠ .control 0 → 64 ≤ v.fifo.length →
        exec (.symbolArrival bits) s = .next (s.withReceiver { lost with
          counts := { v.counts with overrun := min (v.counts.overrun + 1) 65535 } }))) ∧
    (∀ bits : Nat, v.aligned = false ∨ bits = 0 →
      exec (.quietGap bits) s = .next (s.withReceiver { v with aligned := true })) ∧
    (∀ bits : Nat, v.aligned = true → 0 < bits →
      exec (.quietGap bits) s = .next (s.withReceiver { lost with
        counts := { v.counts with framing := min (v.counts.framing + 1) 65535 } }))

/-- R103, R104, R109, R110, R117, Table 5-6: the symbols taken in IDLE and in SKIP. -/
def Obligations.IdleAndSkipWaitForATable : Prop :=
  ∀ (s : State) (sym : Symbol) (q : List Symbol), s.receiver.fifo = sym :: q →
    let v := s.receiver
    let up : Nat → Nat := fun n => min (n + 1) 65535
    let took : GuideReceiver → GuideReceiver := fun u => { u with fifo := q, lossMark := v.lossMark && !q.isEmpty }
    let idle : GuideReceiver := { v with
      state := .idle, header := [], recordOpen := false, record := [], damaged := false, staged := none, records := []
      tableHeld := false }
    let opened : GuideReceiver := { idle with state := .header, damaged := v.lossMark }
    let stray : GuideReceiver := { v with counts := { v.counts with stray := up v.counts.stray } }
    let framing : GuideReceiver := { v with counts := { v.counts with framing := up v.counts.framing } }
    let doubled : LinkCounts := { v.counts with duplicate := up v.counts.duplicate }
    (v.state = .idle →
      (∀ b : Byte, sym = .data b → exec (.dataByte b) s = .next (s.withReceiver (took stray))) ∧
      (sym = .control 1 → exec .sot s = .next (s.withReceiver (took opened))) ∧
      (sym = .control 2 → exec .sor s = .next (s.withReceiver (took stray))) ∧
      (sym = .control 3 → exec .eor s = .next (s.withReceiver (took stray))) ∧
      (sym = .control 4 → exec .eot s = .next (s.withReceiver (took stray))) ∧
      (sym = .control 0x0F → exec .abt s = .next (s.withReceiver (took stray))) ∧
      (∀ c : Byte, sym = .control c → c ∉ controlCodes →
        exec (.unknownControl c) s = .next (s.withReceiver (took framing)))) ∧
    (v.state = .skip →
      (∀ b : Byte, sym = .data b → exec (.dataByte b) s = .next (s.withReceiver (took v))) ∧
      (sym = .control 1 → exec .sot s = .next (s.withReceiver (took { opened with counts := doubled }))) ∧
      (sym = .control 2 → exec .sor s = .next (s.withReceiver (took v))) ∧
      (sym = .control 3 → exec .eor s = .next (s.withReceiver (took v))) ∧
      (sym = .control 4 → exec .eot s = .next (s.withReceiver (took { idle with counts := doubled }))) ∧
      (sym = .control 0x0F → exec .abt s = .next (s.withReceiver (took { idle with counts := doubled }))) ∧
      (∀ c : Byte, sym = .control c → c ∉ controlCodes →
        exec (.unknownControl c) s = .next (s.withReceiver (took framing))))

/-- R111 to R116, Table 5-6: the symbols taken in HEADER and in BODY, up to an undamaged end. -/
def Obligations.HeaderAndBodyCollectATable : Prop :=
  ∀ (s : State) (sym : Symbol) (q : List Symbol), s.receiver.fifo = sym :: q →
    let v := s.receiver
    let up : Nat → Nat := fun n => min (n + 1) 65535
    let took : GuideReceiver → GuideReceiver := fun u => { u with fifo := q, lossMark := v.lossMark && !q.isEmpty }
    let idle : GuideReceiver := { v with
      state := .idle, header := [], recordOpen := false, record := [], damaged := false, staged := none, records := []
      tableHeld := false }
    let opened : GuideReceiver := { idle with state := .header, damaged := v.lossMark }
    let framed : LinkCounts := { v.counts with framing := up v.counts.framing }
    let framing : GuideReceiver := { v with counts := framed, damaged := true }
    let gone : LinkCounts := { v.counts with abandoned := up v.counts.abandoned }
    let spoilt : LinkCounts := { v.counts with damaged := up v.counts.damaged }
    let told : GuideReceiver → State := fun u => (s.withReceiver (took u)).sendAll [.notice .receiver .guide .every 0]
    (v.state = .header ∨ v.state = .body →
      (sym = .control 1 → exec .sot s = .next (told { opened with counts := gone })) ∧
      (sym = .control 0x0F → exec .abt s = .next (told { idle with counts := gone })) ∧
      (∀ c : Byte, sym = .control c → c ∉ controlCodes →
        exec (.unknownControl c) s = .next (s.withReceiver (took framing)))) ∧
    (v.state = .header →
      (∀ b : Byte, sym = .data b → v.header.length < 12 →
        exec (.dataByte b) s = .next (s.withReceiver (took { v with header := v.header ++ [b] }))) ∧
      (∀ b : Byte, sym = .data b → 12 ≤ v.header.length →
        let body : GuideReceiver := { v with state := .body, header := [], recordOpen := false, record := [] }
        (v.damaged = true → exec (.dataByte b) s = .next (s.withReceiver (took body))) ∧
        (v.damaged = false → headerOf (v.header ++ [b]) = none →
          exec (.dataByte b) s = .next (s.withReceiver (took { body with damaged := true }))) ∧
        ∀ h : TableHeader, v.damaged = false → headerOf (v.header ++ [b]) = some h →
          (s.cache.holdsVersion h = true →
            exec (.dataByte b) s = .next (s.withReceiver (took { idle with state := .skip }))) ∧
          (s.cache.holdsVersion h = false →
            exec (.dataByte b) s = .next (s.withReceiver (took { body with staged := some h })))) ∧
      (sym = .control 2 → exec .sor s = .next (s.withReceiver (took framing))) ∧
      (sym = .control 3 → exec .eor s = .next (s.withReceiver (took framing))) ∧
      (sym = .control 4 → exec .eot s = .next (told { idle with counts := spoilt }))) ∧
    (v.state = .body → v.recordOpen = false →
      (∀ b : Byte, sym = .data b → exec (.dataByte b) s = .next (s.withReceiver (took framing))) ∧
      (sym = .control 2 → exec .sor s = .next (s.withReceiver (took { v with
        recordOpen := true, record := [], damaged := v.damaged || decide (48 ≤ v.records.length) }))) ∧
      (sym = .control 3 → exec .eor s = .next (s.withReceiver (took framing))) ∧
      (sym = .control 4 → v.damaged = true ∨ (∀ h : TableHeader, v.staged = some h → h.recordCount ≠ v.records.length) →
        exec .eot s = .next (told { idle with counts := spoilt }))) ∧
    (v.state = .body → v.recordOpen = true →
      (∀ b : Byte, sym = .data b → v.record.length < 13 →
        exec (.dataByte b) s = .next (s.withReceiver (took { v with record := v.record ++ [b] }))) ∧
      (∀ b : Byte, sym = .data b → 13 ≤ v.record.length →
        exec (.dataByte b) s = .next (s.withReceiver (took framing))) ∧
      (sym = .control 2 → exec .sor s = .next (s.withReceiver (took { framing with record := [] }))) ∧
      (sym = .control 4 → exec .eot s = .next (told { idle with
        counts := { framed with damaged := up v.counts.damaged } })) ∧
      (sym = .control 3 →
        let closed : GuideReceiver := { v with recordOpen := false, record := [] }
        (v.damaged = true → exec .eor s = .next (s.withReceiver (took closed))) ∧
        (∀ (h : TableHeader) (e : EventRecord), v.damaged = false → v.staged = some h → recordOf v.record = some e →
          v.records.length < 48 → placed h v.records e = true →
          exec .eor s = .next (s.withReceiver (took { closed with records := v.records ++ [e] }))) ∧
        (∀ h : TableHeader, v.damaged = false → v.staged = some h → recordOf v.record = none ∨ 48 ≤ v.records.length ∨
          (∃ e : EventRecord, recordOf v.record = some e ∧ placed h v.records e = false) →
          exec .eor s = .next (s.withReceiver (took { closed with damaged := true })))))

/-- R115, R118, R119, R121: an undamaged table is handed off when no commit is outstanding, waits otherwise, and is dropped
as a duplicate when the cache has come to hold its version; COMMIT_DONE counts the outcome; LINK_RESET. -/
def Obligations.TablesAreHandedOffOneAtATime : Prop :=
  ∀ s : State,
    let v := s.receiver
    let up : Nat → Nat := fun n => min (n + 1) 65535
    let idle : GuideReceiver := { v with
      state := .idle, header := [], recordOpen := false, record := [], damaged := false, staged := none, records := []
      tableHeld := false }
    let sent : TableHeader → GuideTable := fun h =>
      { service := h.service, version := h.version, spanStart := h.spanStart, spanEnd := h.spanEnd, records := v.records }
    (∀ (q : List Symbol) (h : TableHeader), v.fifo = .control 4 :: q → v.state = .body → v.recordOpen = false →
      v.damaged = false → v.staged = some h → h.recordCount = v.records.length →
      let took : GuideReceiver → GuideReceiver := fun u => { u with fifo := q, lossMark := v.lossMark && !q.isEmpty }
      (v.commitOutstanding = true →
        exec .eot s = .next (s.withReceiver (took { v with state := .handoff, tableHeld := true }))) ∧
      (v.commitOutstanding = false → s.cache.holdsVersion h = true →
        exec .eot s = .next (s.withReceiver (took { idle with
          counts := { v.counts with duplicate := up v.counts.duplicate } }))) ∧
      (v.commitOutstanding = false → s.cache.holdsVersion h = false →
        exec .eot s = .next ((s.withReceiver (took { v with
            state := .handoff, staged := none, records := [], tableHeld := false, commitOutstanding := true })).sendAll
          [.commit (sent h)]))) ∧
    (∀ (outcome : CommitOutcome) (rest : List Instr), takeFrom (.commitDone outcome) s.transit = some rest →
      v.commitOutstanding = true →
      let counts : LinkCounts := if outcome = .committed then { v.counts with committed := up v.counts.committed }
        else { v.counts with refused := up v.counts.refused }
      let t := s.withTransit rest
      (v.state ≠ .handoff → exec (.commitDone outcome) s =
        .next (t.withReceiver { v with counts := counts, commitOutstanding := false })) ∧
      (v.state = .handoff → v.tableHeld = false → exec (.commitDone outcome) s =
        .next (t.withReceiver { idle with counts := counts, commitOutstanding := false })) ∧
      ∀ h : TableHeader, v.state = .handoff → v.tableHeld = true → v.staged = some h →
        (s.cache.holdsVersion h = true → exec (.commitDone outcome) s = .next (t.withReceiver { idle with
          counts := { counts with duplicate := up v.counts.duplicate }, commitOutstanding := false })) ∧
        (s.cache.holdsVersion h = false → exec (.commitDone outcome) s = .next ((t.withReceiver { v with
          counts := counts, staged := none, records := [], tableHeld := false }).sendAll [.commit (sent h)]))) ∧
    (∀ r : Role, s.handed r (.linkReset r) = true →
      exec (.linkReset r) s = .next ((s.withReceiver { idle with
        fifo := [], lossMark := false
        counts := { committed := 0, refused := 0, damaged := 0, abandoned := 0, duplicate := 0, stray := 0, framing := 0
                    overrun := 0 } }).place r (.ok [])))

/-! ### The guide cache -/

/-- R127 to R132: a commit is taken into flight, and completes as one act: refused when no entry is free or the store cannot
hold it, else its records replace those of its service that its reach touches, and only ended records are evicted. The entry
is the service's own, else the lowest that is UNUSED, else the lowest without records (R128); what the reach touches is
R129's; records are evicted one at a time, the earliest end first, then the lower entry, then the earlier place (R130). That the
decisions are computed at the completion is log 30, and that an entry which loses records keeps its tracked event until the
next MINUTE is log 39: deductions, the model's choice. -/
def Obligations.CommitsReplaceWhatTheirReachTouches : Prop :=
  let ahead : MinuteTime → EventRecord → Nat := fun m w => minutesAhead (recordEnd w) m
  (∀ (table : GuideTable) (rest : List Instr) (s : State), takeFrom (.commit table) s.transit = some rest →
    exec (.commit table) s = .next ((s.withTransit rest).withCache { s.cache with
      inFlight := some { table := table, present := s.presentMinute } })) ∧
  (∀ (present : Option MinuteTime) (n : Nat) (d : Vector (Option Entry) 32),
    evict present 0 d = some d ∧ (present = none → evict present (n + 1) d = none) ∧
    ∀ m : MinuteTime, present = some m →
      ((∀ w ∈ storedRecords d, halfMinutes ≤ ahead m w) → evict present (n + 1) d = none) ∧
      ∀ (i : Fin 32) (y : Entry) (k : Nat) (w : EventRecord), d[i] = some y → y.records[k]? = some w →
        ahead m w < halfMinutes →
        (∀ (j : Fin 32) (z : Entry) (l : Nat) (v : EventRecord), d[j] = some z → z.records[l]? = some v →
          ahead m v < halfMinutes → ahead m v < ahead m w ∨ (ahead m v = ahead m w ∧ (i < j ∨ (i = j ∧ k ≤ l)))) →
        evict present (n + 1) d = evict present n (put d i (some { y with records := y.records.eraseIdx k }))) ∧
  ∀ (c : Commit) (s : State), s.cache.inFlight = some c → s.cache.heldMinute = false →
    let d := s.cache.directory
    let v := c.table.service
    let reach := max (minutesAhead c.table.spanStart c.table.spanEnd) (match c.table.records.getLast? with
      | some x => minutesAhead c.table.spanStart x.start + x.duration
      | none => 0)
    let marked : EventRecord → Prop := fun x =>
      minutesAhead c.table.spanStart x.start < reach ∨ minutesAhead x.start c.table.spanStart < x.duration ∨
      cycleMinutes < (minutesAhead c.table.spanStart x.start + halfMinutes) % cycleMinutes + x.duration
    let chosen : Fin 32 → Prop := fun i =>
      (∃ e : Entry, d[i] = some e ∧ e.service = v ∧ ∀ j < i, ∀ x : Entry, d[j] = some x → x.service ≠ v) ∨
      ((∀ (j : Fin 32) (x : Entry), d[j] = some x → x.service ≠ v) ∧
        ((d[i] = none ∧ ∀ j < i, d[j] ≠ none) ∨
          ((∀ j : Fin 32, d[j] ≠ none) ∧ (∃ e : Entry, d[i] = some e ∧ e.records = []) ∧
            ∀ j < i, ∀ x : Entry, d[j] = some x → x.records ≠ [])))
    let cut := withoutReplaced c.table d
    let short := c.table.records.length - (384 - (storedRecords cut).length)
    let ended : CommitOutcome → Host.Outcome State Fault Refusal := fun o =>
      .next ((s.withCache { s.cache with inFlight := none }).sendAll [.notice .cache .guide .every 0, .commitDone o])
    ((∀ i : Fin 32, ∃ e : Entry, d[i] = some e ∧ e.service ≠ c.table.service ∧ e.records ≠ []) →
      exec .commitCompletion s = ended .directoryFull) ∧
    (∀ i : Fin 32, d[i] = none → cut[i] = none) ∧
    (∀ (i : Fin 32) (e : Entry), d[i] = some e → e.service ≠ c.table.service → cut[i] = some e) ∧
    (∀ (i : Fin 32) (e : Entry), d[i] = some e → e.service = c.table.service → ∃ l : List EventRecord,
      cut[i] = some { e with records := l } ∧ l.Sublist e.records ∧ ∀ x ∈ e.records, (x ∈ l ↔ ¬ marked x)) ∧
    ∀ i : Fin 32, chosen i →
      (evict c.present short cut = none → exec .commitCompletion s = ended .cacheFull) ∧
      ((storedRecords cut).length + c.table.records.length ≤ 384 → evict c.present short cut = some cut) ∧
      (384 < (storedRecords cut).length + c.table.records.length → (storedRecords cut).length ≤ 384 →
        c.present = none → evict c.present short cut = none) ∧
      ∀ e : Vector (Option Entry) 32, evict c.present short cut = some e →
        (storedRecords e).length + short = (storedRecords cut).length ∧
        (∀ (j : Fin 32) (x : Entry), cut[j] = some x → ∃ y : Entry, e[j] = some y ∧ y.service = x.service ∧
          y.records.Sublist x.records ∧
          ∀ w ∈ x.records, w ∉ y.records → ∃ m : MinuteTime, c.present = some m ∧ hasEnded m w = true) ∧
        ∃ (entry : Entry) (kept : List EventRecord),
          exec .commitCompletion s = .next ((s.withCache { s.cache with
              directory := put e i (some entry), inFlight := none }).sendAll
            ((if ((d[i].filter fun x => x.service == c.table.service).bind fun x => x.current) = entry.current then []
              else [.eventChange c.table.service]) ++ [.notice .cache .guide .every 0, .commitDone .committed])) ∧
          entry.service = c.table.service ∧ entry.version = c.table.version ∧ entry.reference = c.table.spanStart ∧
          entry.current = currentAt c.present entry.records ∧ entry.records.Perm (kept ++ c.table.records) ∧
          (entry.records.Pairwise fun a b => offsetKey c.table.spanStart a ≤ offsetKey c.table.spanStart b) ∧
          kept = (match e[i] with
            | some x => if x.service = c.table.service then x.records else []
            | none => [])

/-- R133, R134: MINUTE finds every entry's current event anew and sends EVENT_CHANGE for each that changed, in order of directory
index; during a commit it is held, and taken with the commit's completion, after the commit's own messages (that it is taken
within the same command is log 30, a deduction, the model's choice). -/
def Obligations.MinutesFindCurrentEventsAnew : Prop :=
  let current : Option MinuteTime → Entry → Option EventRecord := fun present e =>
    present.bind fun m => e.records.find? fun x => minutesAhead x.start m < x.duration
  let changes : Option MinuteTime → GuideCache → List Instr := fun present c => (List.finRange 32).flatMap fun i =>
    match c.directory[i] with
    | none => []
    | some e => if e.current = current present e then [] else [.eventChange e.service]
  (∀ (rest : List Instr) (s : State), takeFrom .minute s.transit = some rest → s.cache.inFlight ≠ none →
    exec .minute s = .next ((s.withTransit rest).withCache { s.cache with heldMinute := true })) ∧
  (∀ (rest : List Instr) (s : State), takeFrom .minute s.transit = some rest → s.cache.inFlight = none →
    ∃ d : Vector (Option Entry) 32,
      exec .minute s = .next (((s.withTransit rest).withCache { s.cache with directory := d }).sendAll
        (changes s.presentMinute s.cache)) ∧
      ∀ i : Fin 32, d[i] = s.cache.directory[i].map fun e => { e with current := current s.presentMinute e }) ∧
  (∀ (c : Commit) (s u : State), s.cache.inFlight = some c → s.cache.heldMinute = true →
    exec .commitCompletion (s.withCache { s.cache with heldMinute := false }) = .next u →
    ∃ d : Vector (Option Entry) 32,
      exec .commitCompletion s = .next ((u.withCache { u.cache with directory := d }).sendAll
        (changes s.presentMinute u.cache)) ∧
      ∀ i : Fin 32, d[i] = u.cache.directory[i].map fun e => { e with current := current s.presentMinute e })

/-- R136, R137: what READ_EVENT and LIST_EVENTS find. -/
def Obligations.LookupsFindTheServicesRecords : Prop :=
  (∀ (r : Role) (service : Half) (time : Option (Half × Half)) (s : State),
    s.handed r (.readEvent r service time) = true →
    (service = 0 ∨ (∃ (d m : Half), time = some (d, m) ∧ 1440 ≤ m.toNat) →
      exec (.readEvent r service time) s = .next (s.place r (.bare .badValue))) ∧
    (service ≠ 0 → (∀ d m : Half, time = some (d, m) → m.toNat < 1440) →
      let found : Option EventRecord := (s.cache.entryFor service).bind fun e =>
        match time with
        | none => e.current
        | some (d, m) => e.records.find? fun x => covers x { day := d.toNat, minute := m.toNat }
      (found = none → exec (.readEvent r service time) s = .next (s.place r (.bare .notFound))) ∧
      ∀ x : EventRecord, found = some x → ∃ now : Byte,
        exec (.readEvent r service time) s = .next (s.place r (.ok (eventBlock x ++ [now]))) ∧
        (now = 1 ↔ s.cache.currentOf service = some x) ∧ (now = 0 ∨ now = 1))) ∧
  (∀ (r : Role) (service day minute : Half) (s : State), s.handed r (.listEvents r service day minute) = true →
    (service = 0 ∨ 1440 ≤ minute.toNat →
      exec (.listEvents r service day minute) s = .next (s.place r (.bare .badValue))) ∧
    (service ≠ 0 → minute.toNat < 1440 → s.cache.entryFor service = none →
      exec (.listEvents r service day minute) s = .next (s.place r (.bare .notFound))) ∧
    ∀ e : Entry, service ≠ 0 → minute.toNat < 1440 → s.cache.entryFor service = some e →
      let ahead : EventRecord → Nat := fun x => minutesAhead { day := day.toNat, minute := minute.toNat } x.start
      ∃ found : List EventRecord,
        exec (.listEvents r service day minute) s = .next (s.place r (.ok
          ([byteOf (min found.length 4), if 4 < found.length then 1 else 0] ++ (found.take 4).flatMap eventBlock))) ∧
        found.Perm (e.records.filter fun x => 1 ≤ ahead x ∧ ahead x < halfMinutes) ∧
        found.Pairwise fun a b => ahead a ≤ ahead b)

/-! ### The management port -/

/-- R141, R142, R144 to R147: the address byte and the bytes of a request frame. The acknowledge bit kept as an output, and cleared
by a move to IGNORE, is log 27, the model's choice. -/
def Obligations.BytesFillTheRequestFrame : Prop :=
  (∀ (b : Byte) (s : State), s.awake = true → s.port.bus = .address →
    let u := s.port
    let ignored : ManagementPort := { u with bus := .ignore, acked := false, sending := none }
    (u.silent = true ∨ (∀ r : Role, b.toNat / 2 ≠ u.base + roleOffset r) →
      exec (.addressByte b) s = .next (s.withPort ignored)) ∧
    ∀ r : Role, u.silent = false → b.toNat / 2 = u.base + roleOffset r →
      (b.toNat % 2 = 1 → exec (.addressByte b) s =
        .next (s.withPort { u with bus := .read r, acked := true, sending := none })) ∧
      (b.toNat % 2 = 0 → exec (.addressByte b) s =
        .next (s.withPort { u with
          bus := .write r, acked := true, sending := none
          frames := u.frames.set r (some
            { phase := .code, code := none, length := none, body := [], check := crc8 [b] }) }))) ∧
  ∀ (r : Role) (f : Frame) (b : Byte) (s : State), s.port.bus = .write r → s.port.frames.get r = some f →
    let u := s.port
    let gone : PerRole (Option Frame) := u.frames.set r none
    let refused : ManagementPort := { u with bus := .ignore, acked := false, sending := none, frames := gone }
    let kept : Frame → State := fun g => s.withPort { u with acked := true, frames := u.frames.set r (some g) }
    let counted : PortCounts → State := fun c =>
      (s.withPort { refused with counts := u.counts.set r c }).sendAll [.notice .port .port (.only r) 0]
    (f.phase = .code →
      ((∃ i : Option Instr, s.exchange r = .inFlight i) → exec (.codeByte b) s = .next (s.withPort refused)) ∧
      ((∀ i : Option Instr, s.exchange r ≠ .inFlight i) → exec (.codeByte b) s =
        .next (kept { f with phase := .length, code := some b, check := crc8Byte f.check b }))) ∧
    (f.phase = .length →
      (48 < b.toNat → exec (.lengthByte b) s = .next (counted { u.counts.get r with
        overlong := min ((u.counts.get r).overlong + 1) 255 })) ∧
      (b.toNat ≤ 48 → exec (.lengthByte b) s = .next (kept { f with
        phase := (if b = 0 then .check else .body), length := some b.toNat, check := crc8Byte f.check b }))) ∧
    (f.phase = .body → exec (.bodyByte b) s = .next (kept { f with
      phase := (if f.length = some (f.body.length + 1) then .check else .body), body := f.body ++ [b]
      check := crc8Byte f.check b })) ∧
    (f.phase = .check →
      (b ≠ f.check → exec (.checkByte b) s = .next (counted { u.counts.get r with
        check := min ((u.counts.get r).check + 1) 255 })) ∧
      (b = f.check → exec (.checkByte b) s = .next ((s.withPort { refused with acked := true }).setExchange r
        (match rulingOn r (f.code.getD 0) f.body with
          | .answered result => .held (.bare result)
          | .handed i => .inFlight (some i)))))

/-- R143 to R147: from a free bus, a whole frame sent byte by byte becomes the role's request, handed to its owner or
answered by the port, and nothing else of the part changes (the acknowledge bit last given is an output kept by log 27, the
model's choice). -/
def Obligations.WholeFrameBecomesTheRequest : Prop :=
  ∀ (r : Role) (code : Byte) (body : List Byte) (s : State), s.awake = true → s.port.bus = .free →
    s.port.silent = false → s.port.base + 2 < 128 → (∀ i : Option Instr, s.exchange r ≠ .inFlight i) →
    body.length ≤ 48 →
    let address := byteOf (2 * (s.port.base + roleOffset r))
    let bytes := [address, code, byteOf body.length] ++ body
    s.after ([.startCondition false, .addressByte address, .codeByte code, .lengthByte (byteOf body.length)] ++
        body.map .bodyByte ++ [.checkByte (crc8 bytes)]) =
      (s.withPort { s.port with
        bus := .ignore, acked := true, sending := none, frames := s.port.frames.set r none }).setExchange r
          (match rulingOn r code body with
            | .answered result => .held (.bare result)
            | .handed i => .inFlight (some i))

/-- R154 to R156: a held response is read byte by byte, status first and check last, and is released exactly when its check
byte has been sent. That a byte is sent and settled in one command, and the byte last sent is kept, is log 27, the model's
choice. -/
def Obligations.HeldResponsesAreReadToTheEnd : Prop :=
  ∀ (r : Role) (a : Answer) (k : Nat) (s : State), s.awake = true → s.port.bus = .free → s.port.silent = false →
    s.port.base + 2 < 128 → s.exchange r = .held a →
    let address := byteOf (2 * (s.port.base + roleOffset r) + 1)
    let frame := [resultByte a.result, byteOf a.body.length] ++ a.body
    let bytes := frame ++ [crc8 (address :: frame)]
    1 ≤ k → k ≤ bytes.length →
      let t := s.after ([.startCondition false, .addressByte address] ++ List.replicate k (.responseByteSent true))
      t.port.sent = bytes[k - 1]? ∧ t.port.bus = .read r ∧ t.profiles = s.profiles ∧ t.metering = s.metering ∧
      t.screens = s.screens ∧ t.transit = s.transit ∧
      (k < bytes.length → t.port.exchanges = s.port.exchanges) ∧
      (k = bytes.length → t.port.exchanges = s.port.exchanges.set r .noResponse)

/-- R149 to R151, R157, R142: what START, STOP, a byte the master does not acknowledge and the timeout do to a transaction
under way, with the fault each counts. The acknowledge bit and the byte last sent are outputs kept by log 27, the model's
choice, and that a START or STOP before the acknowledge bit of the completed address byte is counted is log 44, the model's
choice. -/
def Obligations.BusFaultsAreCountedForTheirRole : Prop :=
  ∀ s : State,
    let u := s.port
    let fault : Role → PortCounts → ManagementPort → State := fun r c v =>
      (s.withPort { v with counts := u.counts.set r c }).sendAll [.notice .port .port (.only r) 0]
    (∀ (i : Instr) (within : Bool) (b : BusState), s.awake = true →
      (i = .startCondition within ∧ b = .address) ∨ (i = .stopCondition within ∧ b = .free) →
      let moved : ManagementPort := { u with bus := b, acked := false, sending := none }
      (busRole u.bus = none → exec i s = .next (s.withPort moved)) ∧
      (∀ r : Role, u.bus = .read r → within = false → exec i s = .next (s.withPort moved)) ∧
      (∀ r : Role, u.bus = .read r → within = true → exec i s =
        .next (fault r { u.counts.get r with bus := min ((u.counts.get r).bus + 1) 255 } moved)) ∧
      (∀ r : Role, u.bus = .write r →
        let emptied : ManagementPort := { moved with frames := u.frames.set r none }
        (within = true → exec i s =
          .next (fault r { u.counts.get r with bus := min ((u.counts.get r).bus + 1) 255 } emptied)) ∧
        (within = false → frameBegun (u.frames.get r) = true → exec i s =
          .next (fault r { u.counts.get r with truncated := min ((u.counts.get r).truncated + 1) 255 } emptied)) ∧
        (within = false → frameBegun (u.frames.get r) = false → exec i s = .next (s.withPort emptied)))) ∧
    (∀ r : Role, busRole u.bus = some r → exec .transactionTimeout s =
      .next (fault r { u.counts.get r with timeout := min ((u.counts.get r).timeout + 1) 255 }
        { u with bus := .ignore, acked := false, sending := none, frames := u.frames.set r none })) ∧
    (busRole u.bus = none → exec .transactionTimeout s = .next s) ∧
    (∀ (r : Role) (acks : Bool), u.bus = .read r →
      ∃ v : ManagementPort, exec (.responseByteSent acks) s = .next (s.withPort v) ∧ v.frames = u.frames ∧
        v.counts = u.counts ∧ v.base = u.base ∧ v.silent = u.silent ∧
        (∀ q : Role, q ≠ r → v.exchanges.get q = u.exchanges.get q) ∧
        (acks = true → v.bus = .read r ∧ v.sending ≠ none) ∧ (acks = false → v.bus = .ignore ∧ v.sending = none) ∧
        (u.sending = none → v.exchanges = u.exchanges ∧ v.sent = some (match u.exchanges.get r with
          | .noResponse => 0x01
          | .inFlight _ => 0x02
          | .held a => resultByte a.result)))

/-- R159, R160: READ_PORT_COUNTS reads and clears its role's counters; RESET silences the port, answers nothing and tells the
store. That a bus in FREE or ADDRESS stays there is log 34, the model's deduction, and that the exchange then holds no request
is log 3, its choice. -/
def Obligations.PortCountsAreClearedAndResetIsSilent : Prop :=
  (∀ (r : Role) (s : State), s.handed r (.readPortCounts r) = true →
    let c := s.port.counts.get r
    exec (.readPortCounts r) s = .next ((s.withPort { s.port with
        counts := s.port.counts.set r { check := 0, truncated := 0, timeout := 0, bus := 0, overlong := 0 } }).place r
      (.ok [byteOf c.check, byteOf c.truncated, byteOf c.timeout, byteOf c.bus, byteOf c.overlong]))) ∧
  ∀ (r : Role) (s : State), s.handed r (.reset r) = true →
    ∃ u : ManagementPort, exec (.reset r) s = .next ((s.withPort u).sendAll [.softReset]) ∧ u.silent = true ∧
      u.exchanges = s.port.exchanges.set r (.inFlight none) ∧ u.base = s.port.base ∧ u.counts = s.port.counts ∧
      (busRole s.port.bus = none → u.bus = s.port.bus ∧ u.frames = s.port.frames) ∧
      ∀ q : Role, busRole s.port.bus = some q → u.bus = .ignore ∧ u.frames = s.port.frames.set q none ∧ u.sending = none

/-! ### Notices and input lines -/

/-- R163 to R167: a notice joins the pending set of every role that it concerns; GET_NOTICES reads and empties one role's
sets; SET_NOTICE_MASK replaces one role's mask. That GET_NOTICES may be taken before a notice message that is still in transit,
also one sent while the request is in flight, is log 45, the model's choice. -/
def Obligations.NoticesArePendingUntilTheyAreRead : Prop :=
  (∀ (source : Block) (category : Category) (roles : Concerned) (screens : ScreenSet) (rest : List Instr) (s : State),
    takeFrom (.notice source category roles screens) s.transit = some rest →
    ∃ u : SignalUnit, exec (.notice source category roles screens) s = .next ((s.withTransit rest).withSignal u) ∧
      u.masks = s.signal.masks ∧ u.lines = s.signal.lines ∧ u.reported = s.signal.reported ∧
      ∀ r : Role,
        (concerns roles r = true → u.notices.get r = s.signal.notices.get r ||| categoryBit category ∧
          u.changed.get r =
            if category = .screen then s.signal.changed.get r ||| screens else s.signal.changed.get r) ∧
        (concerns roles r = false → u.notices.get r = s.signal.notices.get r ∧
          u.changed.get r = s.signal.changed.get r)) ∧
  (∀ (r : Role) (s : State), s.handed r (.getNotices r) = true →
    exec (.getNotices r) s = .next ((s.withSignal { s.signal with
        notices := s.signal.notices.set r 0, changed := s.signal.changed.set r 0 }).place r
      (.ok [(s.signal.notices.get r).setWidth 8, (s.signal.changed.get r).setWidth 8,
        (s.signal.masks.get r).setWidth 8]))) ∧
  (∀ (r : Role) (mask : Byte) (s : State), s.handed r (.setNoticeMask r mask) = true →
    (mask.toNat < 64 → exec (.setNoticeMask r mask) s = .next ((s.withSignal { s.signal with
        masks := s.signal.masks.set r (mask.setWidth 6) }).place r (.ok []))) ∧
    (64 ≤ mask.toNat → exec (.setNoticeMask r mask) s = .next (s.place r (.bare .badValue)))) ∧
  ∀ (r : Role) (s : State), s.alert r = true ↔ s.store.state ≠ .loading ∧
    ∃ c : Category, s.signal.notices.get r &&& categoryBit c ≠ 0 ∧ s.signal.masks.get r &&& categoryBit c = 0

/-- R168 to R171: a level change asserts a BOUNDARY line with a mark, and either it or SET_LINE_FUNCTION reports a changed
standby level; SET_LINE_FUNCTION gives no mark and marks the store dirty. -/
def Obligations.LinesGiveMarksAndTheStandbyLevel : Prop :=
  let report : SignalUnit → Bool → List Instr := fun u l => if u.standbyLevel = l then [] else [.standbyLevel u.standbyLevel]
  (∀ (u : SignalUnit), u.standbyLevel = true ↔ ∃ i : Fin 4, u.lines[i].setting.function = .standby ∧
    u.lines[i].level = (u.lines[i].setting.polarity == .high)) ∧
  (∀ (i : Fin 4) (high : Bool) (s : State), s.awake = true → s.store.state ≠ .loading →
    let l := s.signal.lines[i]
    (l.level = high → exec (.levelChange i high) s = .next s) ∧
    (l.level ≠ high →
      ∃ u : SignalUnit, u.lines = put s.signal.lines i { l with level := high } ∧ u.notices = s.signal.notices ∧
        u.changed = s.signal.changed ∧ u.masks = s.signal.masks ∧ u.reported = u.standbyLevel ∧
        exec (.levelChange i high) s = .next ((s.withSignal u).sendAll
          ((match l.setting.function with
            | .boundary n => if high = (l.setting.polarity == .high) then [.boundaryMark n] else []
            | _ => []) ++ report u s.signal.reported)))) ∧
  ∀ (r : Role) (line function screen polarity : Byte) (s : State),
    s.handed r (.setLineFunction r line function screen polarity) = true →
    (4 ≤ line.toNat ∨ lineFunctionOf function screen = none ∨ 2 ≤ polarity.toNat →
      exec (.setLineFunction r line function screen polarity) s = .next (s.place r (.bare .badValue))) ∧
    ∀ (i : Fin 4) (f : LineFunction), line.toNat = i.val → lineFunctionOf function screen = some f → polarity.toNat < 2 →
      ∃ u : SignalUnit, u.lines = put s.signal.lines i { s.signal.lines[i] with
          setting := { function := f, polarity := (if polarity = 1 then .high else .low) } } ∧
        u.notices = s.signal.notices ∧ u.changed = s.signal.changed ∧ u.masks = s.signal.masks ∧
        u.reported = u.standbyLevel ∧
        exec (.setLineFunction r line function screen polarity) s = .next (((s.withSignal u).sendAll
          (report u s.signal.reported ++ [.dirtyMark .signal false])).place r (.ok []))

/-! ### The profile store -/

/-- R176 to R178: dirty marks and account activity, the snapshot timer and the settle timer, and the commit that follows. That a
mark between a soft reset's last write and its LOAD_BEGIN begins one more commit is log 42, the model's choice; that the settle
timer stands stopped on the way to a load is log 20, a deduction, the model's choice. -/
def Obligations.MarksSettleIntoACommit : Prop :=
  (∀ (source : Block) (rollover : Bool) (rest : List Instr) (s : State),
    takeFrom (.dirtyMark source rollover) s.transit = some rest →
    let u := s.store
    let t := s.withTransit rest
    let unsaved := u.rolloverUnsaved || rollover
    (u.state = .loading ∨ (∃ (d : Nat) (g : FactoryStage), u.underWay = .factoryClear d g) →
      exec (.dirtyMark source rollover) s = .next (t.withStore { u with dirty := true, rolloverUnsaved := unsaved })) ∧
    (u.state ≠ .loading → u.underWay = .nothing → exec (.dirtyMark source rollover) s =
      .next (t.withStore { u with dirty := true, rolloverUnsaved := unsaved, settle := some 2 })) ∧
    (u.state = .writing → u.underWay = .reset → exec (.dirtyMark source rollover) s =
      .next (t.withStore { u with dirty := true, rolloverUnsaved := unsaved })) ∧
    (u.state = .idle ∨ u.state = .failed → u.underWay = .reset →
      exec (.dirtyMark source rollover) s = .next (t.withStore { u with
        dirty := false, rolloverUnsaved := false, state := .writing, snapshot := some (sealed s.storedContent)
        attempt := some .first, image := .torn }))) ∧
  (∀ (rest : List Instr) (s : State), takeFrom .accountActivity s.transit = some rest → s.store.underWay = .nothing →
    let u := s.store
    let t := s.withTransit rest
    (u.snapshotTimer ≠ none → exec .accountActivity s = .next (t.withStore { u with activity := true })) ∧
    (u.snapshotTimer = none → u.state = .loading →
      exec .accountActivity s = .next (t.withStore { u with snapshotTimer := some 60, dirty := true })) ∧
    (u.snapshotTimer = none → u.state ≠ .loading →
      exec .accountActivity s = .next (t.withStore { u with
        snapshotTimer := some 60, dirty := true, settle := some 2 }))) ∧
  (∀ (rest : List Instr) (s : State), takeFrom .accountActivity s.transit = some rest → s.store.underWay ≠ .nothing →
    exec .accountActivity s = .next (s.withTransit rest).takeDirtyMark) ∧
  (∀ s : State, s.store.snapshotTimer = some 0 →
    let u := s.store
    (u.activity = false → exec .snapshotTimerExpiry s = .next (s.withStore { u with snapshotTimer := none })) ∧
    (u.activity = true → u.state ≠ .loading → u.underWay = .nothing →
      exec .snapshotTimerExpiry s = .next (s.withStore { u with
        activity := false, snapshotTimer := some 60, dirty := true, settle := some 2 })) ∧
    (u.activity = true → u.state = .loading ∨ u.underWay ≠ .nothing →
      exec .snapshotTimerExpiry s =
        .next (s.withStore { u with activity := false, snapshotTimer := some 60 }).takeDirtyMark)) ∧
  ∀ s : State, s.store.settle = some 0 →
    let u := s.store
    ((u.state = .idle ∨ u.state = .failed) → u.dirty = true →
      exec .settleExpiry s = .next (s.withStore { u with
        settle := none, dirty := false, rolloverUnsaved := false, state := .writing
        snapshot := some (sealed s.storedContent), attempt := some .first, image := .torn })) ∧
    (u.state = .writing ∨ u.state = .loading ∨ u.dirty = false →
      exec .settleExpiry s = .next (s.withStore { u with settle := none }))

/-- R179, R184, R185: a verified write makes the image whole and the store IDLE; a first failure is retried, a second leaves
it FAILED with a notice, and leaves of a factory image the image that R185 says a load uses or finds lost; what follows an
ended write depends on the reset under way. -/
def Obligations.WriteAttemptsEndIdleRetriedOrFailed : Prop :=
  ∀ (i : Image) (s : State), s.store.state = .writing → s.store.snapshot = some i →
    let u := s.store
    let begun : Image → ProfileStore → ProfileStore := fun x w => { w with
      state := .writing, snapshot := some x, attempt := some .first, image := .torn }
    let committing : ProfileStore → ProfileStore := fun w =>
      begun (sealed s.storedContent) { w with dirty := false, rolloverUnsaved := false }
    let whole : ProfileStore := { u with
      state := .idle, snapshot := none, attempt := none, writeFailed := false, image := .whole i }
    let failed : ProfileStore := { u with
      state := .failed, snapshot := none, attempt := none, writeFailed := true
      image := (match u.underWay with
        | .factoryClear _ .writing => .factoryFailed i
        | _ => u.image) }
    let ended : ProfileStore → ProfileStore := fun w =>
      match u.underWay with
      | .nothing => if u.dirty = true ∧ u.settle = none then committing w else w
      | .reset => if u.dirty = true then committing w else w
      | .factoryClear d .waiting => begun (sealed (factoryContent d)) { w with underWay := .factoryClear d .writing }
      | .factoryClear d .writing => { w with underWay := .factoryClear d .written }
      | .factoryClear _ .written => w
    exec (.writeAttemptEnd true) s = .next (s.withStore (ended whole)) ∧
    (u.attempt = some .first →
      exec (.writeAttemptEnd false) s = .next (s.withStore { u with attempt := some .retry })) ∧
    (u.attempt = some .retry →
      exec (.writeAttemptEnd false) s = .next ((s.withStore (ended failed)).sendAll [.notice .store .store .every 0]))

/-- R184, R185: a soft reset commits what is unsaved, and at once from FAILED; FACTORY_CLEAR under authority silences the
port, answers nothing, and writes the factory content with the account day kept. Both stop the settle timer: log 20, a
deduction, the model's choice. -/
def Obligations.SoftResetsWriteBeforeTheyLoad : Prop :=
  (∀ (rest : List Instr) (s : State), takeFrom .softReset s.transit = some rest →
    let u := s.store
    let t := s.withTransit rest
    (u.state = .failed ∨ (u.state = .idle ∧ u.dirty = true) →
      exec .softReset s = .next (t.withStore { u with
        underWay := .reset, settle := none, dirty := false, rolloverUnsaved := false, state := .writing
        snapshot := some (sealed s.storedContent), attempt := some .first, image := .torn })) ∧
    ((u.state = .idle ∧ u.dirty = false) ∨ u.state = .writing →
      exec .softReset s = .next (t.withStore { u with underWay := .reset, settle := none }))) ∧
  ∀ (r : Role) (s : State), s.handed r (.factoryClear r) = true → s.authority r ≠ none →
    ∃ (u : ProfileStore) (v : ManagementPort),
      exec (.factoryClear r) s = .next ((s.withStore u).withPort v) ∧ v.silent = true ∧
      v.exchanges = s.port.exchanges.set r (.inFlight none) ∧ busRole v.bus = none ∧ u.settle = none ∧
      u.rolloverUnsaved = false ∧ u.dirty = s.store.dirty ∧
      (s.store.state = .idle ∨ s.store.state = .failed →
        u.underWay = .factoryClear s.metering.accountDay .writing ∧ u.state = .writing ∧ u.image = .torn ∧
        u.snapshot = some (sealed (factoryContent s.metering.accountDay)) ∧ u.attempt = some .first) ∧
      (s.store.state = .writing →
        u.underWay = .factoryClear s.metering.accountDay .waiting ∧ u.state = .writing ∧
        u.snapshot = s.store.snapshot ∧ u.image = s.store.image)

/-- R181, R162, R30, R33, R42, Tables 1-7, 2-6, 3-7, 5-9, 6-5, 7-6, 8-3, 9-3: how a load begins after power-on, RESET_N and a
soft reset: volatile state at its reset values, and the clock running on through a soft reset alone. The model's own: stored
registers keep their values from here to the load's end, also after power-on and without supply (log 6); a change of today's
kind reassesses the accounts held and evaluates their curfew without messages (log 13). -/
def Obligations.LoadsBeginWithVolatileStateCleared : Prop :=
  ∀ (i : Instr) (hard : Bool) (s : State),
    (∃ straps : BitVec 2, i = .powerOn straps ∧ hard = true) ∨ (i = .resetNAssert ∧ hard = true) ∨
    (∃ straps : BitVec 2, i = .resetNRelease straps ∧ s.resetHeld = true ∧ hard = true) ∨
    (i = .powerLoss ∧ hard = true) ∨
    (∃ straps : BitVec 2, i = .loadBegin straps ∧ hard = false ∧ s.awake = true ∧
      ((s.store.underWay = .reset ∧ (s.store.state = .idle ∨ s.store.state = .failed) ∧ s.store.dirty = false) ∨
        ∃ d : Nat, s.store.underWay = .factoryClear d .written)) →
    ∃ t : State, exec i s = .next t ∧
      (∀ straps : BitVec 2, i = .powerOn straps ∨ i = .resetNRelease straps ∨ i = .loadBegin straps →
        t.port.base = 0x30 + 4 * straps.toNat) ∧
      (i = .powerLoss → t.power = false) ∧ (i = .resetNAssert → t.resetHeld = true) ∧
      ((∃ straps : BitVec 2, i = .resetNRelease straps) → t.resetHeld = false) ∧
      ((∃ straps : BitVec 2, i = .powerOn straps) → t.power = true) ∧
      t.profiles.table = s.profiles.table ∧ t.profiles.maps = s.profiles.maps ∧
      t.profiles.household = s.profiles.household ∧
      (∀ p : Slot, t.profiles.failures[p] = 0 ∧ t.profiles.lockouts[p] = none) ∧
      (∀ r : Role, t.profiles.windows.get r = none ∧ t.exchange r = .noResponse ∧ t.port.frames.get r = none ∧
        t.signal.notices.get r = 0 ∧ t.signal.changed.get r = 0 ∧ t.signal.masks.get r = 0 ∧
        t.port.counts.get r = { check := 0, truncated := 0, timeout := 0, bus := 0, overlong := 0 }) ∧
      t.metering.override = none ∧ (∀ n : ScreenNo, t.metering.charges[n].kind = .nothing) ∧
      t.metering.plan = s.metering.plan ∧ t.metering.accountDay = s.metering.accountDay ∧
      (∀ p : Slot,
        (s.metering.accounts[p] = none → t.metering.accounts[p] = none) ∧
        ∀ a : Account, s.metering.accounts[p] = some a →
          ∃ b : Account, t.metering.accounts[p] = some b ∧ b.terms = a.terms ∧ b.bonus = a.bonus ∧ b.used = a.used ∧
            b.overrun = a.overrun ∧ b.curfewWarned = a.curfewWarned ∧
            (b.warned = true ↔ a.warned = true ∧ (t.metering.today = s.metering.today ∨
              a.remaining t.metering.today ≤ a.terms.lead * 60)) ∧
            (hard = true → b.curfew = .outside) ∧
            (hard = false → t.metering.today = s.metering.today ∨ s.metering.running = false → b.curfew = a.curfew) ∧
            (hard = false → t.metering.today ≠ s.metering.today → s.metering.running = true →
              (b.curfew = .inside ↔ insideCurfew t.passes t.metering p a = true))) ∧
      (hard = true → t.metering.running = false ∧ t.metering.second = 0 ∧ t.metering.weekday = 0 ∧
        t.metering.trim = 0 ∧ t.ref = { phase := 0, length := 32768, ticksDue := 0 }) ∧
      (hard = false → t.metering.running = s.metering.running ∧ t.metering.day = s.metering.day ∧
        t.metering.second = s.metering.second ∧ t.metering.weekday = s.metering.weekday ∧
        t.metering.trim = s.metering.trim ∧ t.metering.yesterday = s.metering.yesterday ∧ t.ref = s.ref) ∧
      (∀ n : ScreenNo, t.screens.cells[n] = Screen.dark s.screens.cells[n].kind s.screens.cells[n].guideWait ∧
        t.gate n = false) ∧ t.screens.requested = .awake ∧
      t.passes = { held := [], nextId := 1 } ∧ t.receiver = GuideReceiver.cleared false false ∧
      t.cache = GuideCache.empty ∧ t.port.silent = true ∧ busRole t.port.bus = none ∧
      t.store.state = .loading ∧ t.store.image = s.store.image ∧ t.store.underWay = .nothing ∧ t.store.dirty = false ∧
      t.store.rolloverUnsaved = (!hard && s.store.rolloverUnsaved) ∧
      t.store.writeFailed = (!hard && s.store.writeFailed) ∧ (∀ r : Role, t.alert r = false)

/-- R182, R183, R185, R188: the end of a load hands a valid image's content to the blocks, or else the factory content with
store lost; of an image that no write has verified it may be either (log 11, the model's choice), and an image found lost, or
found valid, stays so until the next write. Loaded accounts are reassessed without messages (R30, R33; that each is, is log
13's deduction), curfew states are evaluated without messages, the STORE notice is raised when the store is lost or the last
write failed, and the port answers again. That the day serial and yesterday's kind are set here is log 26, a deduction, the
model's choice; the line levels are an operand (log 10, the model's choice). -/
def Obligations.LoadsEndWithTheImageOrFactoryContent : Prop :=
  ∀ (pins : BitVec 4) (s : State), s.awake = true → s.store.state = .loading →
    let unsaved := s.store.rolloverUnsaved
    let loaded : State → Content → Bool → Prop := fun t c lost =>
      t.profiles.table = c.table ∧ t.profiles.maps = c.maps ∧ t.profiles.household = c.household ∧
      t.metering.plan = c.plan ∧
      (∀ n : ScreenNo, t.screens.cells[n].kind = c.screens[n].kind ∧
        t.screens.cells[n].guideWait = c.screens[n].guideWait) ∧
      (∀ l : Fin 4, t.signal.lines[l] = { setting := c.lines[l], level := pins.getLsbD l }) ∧
      (lost = false → ∃ i : Image, t.store.image = .whole i ∧ imageValid i = true ∧ i.content = c) ∧
      (lost = true → t.store.image = .blank ∨ t.store.image = .lost ∨
        ∃ i : Image, t.store.image = .whole i ∧ imageValid i = false) ∧
      t.store.lost = lost ∧ t.store.dirty = (s.store.dirty || unsaved || lost) ∧
      t.store.settle = (if s.store.dirty || unsaved || lost then some 2 else none) ∧
      t.transit = s.transit ++ (if lost || s.store.writeFailed then [.notice .store .store .every 0] else []) ∧
      (s.store.hardLoad = true → t.metering.day = c.accountDay ∧ t.metering.yesterday = c.plan[(6 : Fin 7)]) ∧
      t.metering.accountDay = (if unsaved then t.metering.day else c.accountDay) ∧
      ∀ p : Slot,
        (childOf c.table[p] = none → t.metering.accounts[p] = none) ∧
        ∀ (k : ChildPart) (a : StoredAccount), childOf c.table[p] = some k → c.accounts[p] = some a →
          ∃ b : Account, t.metering.accounts[p] = some b ∧
            b.terms = { school := k.school, free := k.free, bonusCap := k.bonusCap, mode := k.mode, lead := k.lead
                        windows := k.windows } ∧
            (b.curfew = .inside ↔ t.metering.running = true ∧ insideCurfew t.passes t.metering p b = true) ∧
            (unsaved = false → b.bonus = a.bonus ∧ b.used = a.used ∧ b.overrun = a.overrun ∧
              b.curfewWarned = a.curfewWarned ∧
              (b.warned = true ↔ a.warned = true ∧ b.remaining t.metering.today ≤ k.lead * 60)) ∧
            (unsaved = true → b.bonus = 0 ∧ b.used = 0 ∧ b.overrun = 0 ∧ b.warned = false ∧
              b.curfewWarned = a.curfewWarned.map fun _ => false)
    ∃ t : State, exec (.loadEnd pins) s = .next t ∧
      (∀ i : Image, s.store.image = .whole i → imageValid i = true → loaded t i.content false) ∧
      (s.store.image = .blank ∨ s.store.image = .lost ∨
        (∃ i : Image, (s.store.image = .whole i ∨ s.store.image = .factoryFailed i) ∧ imageValid i = false) →
        loaded t (factoryContent 0) true) ∧
      (∀ i : Image, s.store.image = .factoryFailed i → imageValid i = true →
        loaded t i.content false ∨ loaded t (factoryContent 0) true) ∧
      (s.store.image = .torn →
        (∃ i : Image, imageValid i = true ∧ loaded t i.content false) ∨ loaded t (factoryContent 0) true) ∧
      (s.store.hardLoad = false → t.metering.day = s.metering.day ∧ t.metering.yesterday = s.metering.yesterday) ∧
      t.metering.running = s.metering.running ∧ t.metering.second = s.metering.second ∧
      t.metering.weekday = s.metering.weekday ∧ t.metering.trim = s.metering.trim ∧
      t.metering.override = s.metering.override ∧ t.metering.charges = s.metering.charges ∧ t.ref = s.ref ∧
      t.store.state = .idle ∧ t.port.silent = false ∧ t.port.bus = .ignore ∧ t.port.exchanges = s.port.exchanges ∧
      t.store.rolloverUnsaved = false ∧ t.store.writeFailed = s.store.writeFailed ∧
      t.signal.reported = t.signal.standbyLevel ∧ t.screens.standbyLevel = t.signal.reported ∧
      (∀ n : ScreenNo, t.screens.cells[n].state = s.screens.cells[n].state) ∧ t.passes = s.passes ∧ t.cache = s.cache ∧
      (∀ p : Slot, t.profiles.failures[p] = s.profiles.failures[p])

/-! ### What every step keeps -/

/-- R2, R8: the profile table stays as the manual requires, and a lockout runs exactly while its failure counter is 5. -/
def Obligations.EveryStepKeepsTheProfilesSound : Prop :=
  ∀ s t : State, s.tableSound → s.lockoutsSound → step s = .next t → t.tableSound ∧ t.lockoutsSound

/-- R27, R28, R31, R32: the clock, the second under way and the accounts stay in their ranges. The bonus is held against the
cap of the terms the account copied from its profile (log 14, the model's deduction), where R32 names the profile's cap. -/
def Obligations.EveryStepKeepsTheClockAndAccountsSound : Prop :=
  ∀ s t : State, s.clockSound → s.accountsSound → step s = .next t → t.clockSound ∧ t.accountsSound

/-- R56, R59: state, reason, timer, content and charge of every screen record go on fitting together. -/
def Obligations.EveryStepKeepsTheScreensSound : Prop :=
  ∀ s t : State, s.screensSound → step s = .next t → t.screensSound

/-- R76: no profile is ever live on more screens than its seat limit, and no seat is EMPTY. -/
def Obligations.EveryStepKeepsSeatsWithinLimits : Prop :=
  ∀ s t : State, s.seatingSound → step s = .next t → t.seatingSound

/-- R88, R89: at most 16 passes, with different ids, none of them for the same kind, target and content. -/
def Obligations.EveryStepKeepsThePassesSound : Prop :=
  ∀ s t : State, s.passesSound → step s = .next t → t.passesSound

/-- R103, R108, R120, R124, R125: the FIFO, the staging, the link counters, the event store and the directory stay within
their sizes, and no service is held twice. -/
def Obligations.EveryStepKeepsTheGuideWithinItsSizes : Prop :=
  ∀ s t : State, s.receiverSound → s.linkCountsSound → s.cacheSound → step s = .next t →
    t.receiverSound ∧ t.linkCountsSound ∧ t.cacheSound

/-- R143, R157, R160, R164, R175, R185: the port's frames and silence, the port counters, the changed-screen sets, the store's
snapshot and the images of a FACTORY_CLEAR stay as the manual says. -/
def Obligations.EveryStepKeepsPortNoticesAndStoreSound : Prop :=
  ∀ s t : State, s.portSound → s.portCountsSound → s.noticesSound → s.storeSound → step s = .next t →
    t.portSound ∧ t.portCountsSound ∧ t.noticesSound ∧ t.storeSound

/-- The machine right after reset meets every one of these invariants. -/
def Obligations.ResetMeetsEveryInvariant : Prop :=
  State.reset.seatingSound ∧ State.reset.lockoutsSound ∧ State.reset.clockSound ∧ State.reset.accountsSound ∧
  State.reset.screensSound ∧ State.reset.passesSound ∧ State.reset.receiverSound ∧ State.reset.linkCountsSound ∧
  State.reset.cacheSound ∧ State.reset.portCountsSound ∧ State.reset.noticesSound ∧ State.reset.storeSound
end

