-- ==== Sys2Proof/Laws/State.lean ====
section
/-! SUPPORT. What each update of State does to each field, and that an update of a field twice is the last one. -/

namespace Sys2Proof.Machine

/-! ### withPower -/

@[simp] theorem State.withPower_power (s : State) (x) : (s.withPower x).power = x := rfl
@[simp] theorem State.withPower_resetHeld (s : State) (x) : (s.withPower x).resetHeld = s.resetHeld := rfl
@[simp] theorem State.withPower_ref (s : State) (x) : (s.withPower x).ref = s.ref := rfl
@[simp] theorem State.withPower_profiles (s : State) (x) : (s.withPower x).profiles = s.profiles := rfl
@[simp] theorem State.withPower_metering (s : State) (x) : (s.withPower x).metering = s.metering := rfl
@[simp] theorem State.withPower_screens (s : State) (x) : (s.withPower x).screens = s.screens := rfl
@[simp] theorem State.withPower_passes (s : State) (x) : (s.withPower x).passes = s.passes := rfl
@[simp] theorem State.withPower_receiver (s : State) (x) : (s.withPower x).receiver = s.receiver := rfl
@[simp] theorem State.withPower_cache (s : State) (x) : (s.withPower x).cache = s.cache := rfl
@[simp] theorem State.withPower_port (s : State) (x) : (s.withPower x).port = s.port := rfl
@[simp] theorem State.withPower_signal (s : State) (x) : (s.withPower x).signal = s.signal := rfl
@[simp] theorem State.withPower_store (s : State) (x) : (s.withPower x).store = s.store := rfl
@[simp] theorem State.withPower_transit (s : State) (x) : (s.withPower x).transit = s.transit := rfl
@[simp] theorem State.withPower_freeCount (s : State) (x) : (s.withPower x).freeCount = s.freeCount := rfl
@[simp] theorem State.withPower_pending (s : State) (x) : (s.withPower x).pending = s.pending := rfl
@[simp] theorem State.withPower_withPower (s : State) (x y) : (s.withPower x).withPower y = s.withPower y := rfl
@[simp] theorem State.withPower_self (s : State) : s.withPower s.power = s := rfl

/-! ### withResetHeld -/

@[simp] theorem State.withResetHeld_power (s : State) (x) : (s.withResetHeld x).power = s.power := rfl
@[simp] theorem State.withResetHeld_resetHeld (s : State) (x) : (s.withResetHeld x).resetHeld = x := rfl
@[simp] theorem State.withResetHeld_ref (s : State) (x) : (s.withResetHeld x).ref = s.ref := rfl
@[simp] theorem State.withResetHeld_profiles (s : State) (x) : (s.withResetHeld x).profiles = s.profiles := rfl
@[simp] theorem State.withResetHeld_metering (s : State) (x) : (s.withResetHeld x).metering = s.metering := rfl
@[simp] theorem State.withResetHeld_screens (s : State) (x) : (s.withResetHeld x).screens = s.screens := rfl
@[simp] theorem State.withResetHeld_passes (s : State) (x) : (s.withResetHeld x).passes = s.passes := rfl
@[simp] theorem State.withResetHeld_receiver (s : State) (x) : (s.withResetHeld x).receiver = s.receiver := rfl
@[simp] theorem State.withResetHeld_cache (s : State) (x) : (s.withResetHeld x).cache = s.cache := rfl
@[simp] theorem State.withResetHeld_port (s : State) (x) : (s.withResetHeld x).port = s.port := rfl
@[simp] theorem State.withResetHeld_signal (s : State) (x) : (s.withResetHeld x).signal = s.signal := rfl
@[simp] theorem State.withResetHeld_store (s : State) (x) : (s.withResetHeld x).store = s.store := rfl
@[simp] theorem State.withResetHeld_transit (s : State) (x) : (s.withResetHeld x).transit = s.transit := rfl
@[simp] theorem State.withResetHeld_freeCount (s : State) (x) : (s.withResetHeld x).freeCount = s.freeCount := rfl
@[simp] theorem State.withResetHeld_pending (s : State) (x) : (s.withResetHeld x).pending = s.pending := rfl
@[simp] theorem State.withResetHeld_withResetHeld (s : State) (x y) : (s.withResetHeld x).withResetHeld y = s.withResetHeld y := rfl
@[simp] theorem State.withResetHeld_self (s : State) : s.withResetHeld s.resetHeld = s := rfl

/-! ### withRef -/

@[simp] theorem State.withRef_power (s : State) (x) : (s.withRef x).power = s.power := rfl
@[simp] theorem State.withRef_resetHeld (s : State) (x) : (s.withRef x).resetHeld = s.resetHeld := rfl
@[simp] theorem State.withRef_ref (s : State) (x) : (s.withRef x).ref = x := rfl
@[simp] theorem State.withRef_profiles (s : State) (x) : (s.withRef x).profiles = s.profiles := rfl
@[simp] theorem State.withRef_metering (s : State) (x) : (s.withRef x).metering = s.metering := rfl
@[simp] theorem State.withRef_screens (s : State) (x) : (s.withRef x).screens = s.screens := rfl
@[simp] theorem State.withRef_passes (s : State) (x) : (s.withRef x).passes = s.passes := rfl
@[simp] theorem State.withRef_receiver (s : State) (x) : (s.withRef x).receiver = s.receiver := rfl
@[simp] theorem State.withRef_cache (s : State) (x) : (s.withRef x).cache = s.cache := rfl
@[simp] theorem State.withRef_port (s : State) (x) : (s.withRef x).port = s.port := rfl
@[simp] theorem State.withRef_signal (s : State) (x) : (s.withRef x).signal = s.signal := rfl
@[simp] theorem State.withRef_store (s : State) (x) : (s.withRef x).store = s.store := rfl
@[simp] theorem State.withRef_transit (s : State) (x) : (s.withRef x).transit = s.transit := rfl
@[simp] theorem State.withRef_freeCount (s : State) (x) : (s.withRef x).freeCount = s.freeCount := rfl
@[simp] theorem State.withRef_pending (s : State) (x) : (s.withRef x).pending = s.pending := rfl
@[simp] theorem State.withRef_withRef (s : State) (x y) : (s.withRef x).withRef y = s.withRef y := rfl
@[simp] theorem State.withRef_self (s : State) : s.withRef s.ref = s := rfl

/-! ### withProfiles -/

@[simp] theorem State.withProfiles_power (s : State) (x) : (s.withProfiles x).power = s.power := rfl
@[simp] theorem State.withProfiles_resetHeld (s : State) (x) : (s.withProfiles x).resetHeld = s.resetHeld := rfl
@[simp] theorem State.withProfiles_ref (s : State) (x) : (s.withProfiles x).ref = s.ref := rfl
@[simp] theorem State.withProfiles_profiles (s : State) (x) : (s.withProfiles x).profiles = x := rfl
@[simp] theorem State.withProfiles_metering (s : State) (x) : (s.withProfiles x).metering = s.metering := rfl
@[simp] theorem State.withProfiles_screens (s : State) (x) : (s.withProfiles x).screens = s.screens := rfl
@[simp] theorem State.withProfiles_passes (s : State) (x) : (s.withProfiles x).passes = s.passes := rfl
@[simp] theorem State.withProfiles_receiver (s : State) (x) : (s.withProfiles x).receiver = s.receiver := rfl
@[simp] theorem State.withProfiles_cache (s : State) (x) : (s.withProfiles x).cache = s.cache := rfl
@[simp] theorem State.withProfiles_port (s : State) (x) : (s.withProfiles x).port = s.port := rfl
@[simp] theorem State.withProfiles_signal (s : State) (x) : (s.withProfiles x).signal = s.signal := rfl
@[simp] theorem State.withProfiles_store (s : State) (x) : (s.withProfiles x).store = s.store := rfl
@[simp] theorem State.withProfiles_transit (s : State) (x) : (s.withProfiles x).transit = s.transit := rfl
@[simp] theorem State.withProfiles_freeCount (s : State) (x) : (s.withProfiles x).freeCount = s.freeCount := rfl
@[simp] theorem State.withProfiles_pending (s : State) (x) : (s.withProfiles x).pending = s.pending := rfl
@[simp] theorem State.withProfiles_withProfiles (s : State) (x y) : (s.withProfiles x).withProfiles y = s.withProfiles y := rfl
@[simp] theorem State.withProfiles_self (s : State) : s.withProfiles s.profiles = s := rfl

/-! ### withMetering -/

@[simp] theorem State.withMetering_power (s : State) (x) : (s.withMetering x).power = s.power := rfl
@[simp] theorem State.withMetering_resetHeld (s : State) (x) : (s.withMetering x).resetHeld = s.resetHeld := rfl
@[simp] theorem State.withMetering_ref (s : State) (x) : (s.withMetering x).ref = s.ref := rfl
@[simp] theorem State.withMetering_profiles (s : State) (x) : (s.withMetering x).profiles = s.profiles := rfl
@[simp] theorem State.withMetering_metering (s : State) (x) : (s.withMetering x).metering = x := rfl
@[simp] theorem State.withMetering_screens (s : State) (x) : (s.withMetering x).screens = s.screens := rfl
@[simp] theorem State.withMetering_passes (s : State) (x) : (s.withMetering x).passes = s.passes := rfl
@[simp] theorem State.withMetering_receiver (s : State) (x) : (s.withMetering x).receiver = s.receiver := rfl
@[simp] theorem State.withMetering_cache (s : State) (x) : (s.withMetering x).cache = s.cache := rfl
@[simp] theorem State.withMetering_port (s : State) (x) : (s.withMetering x).port = s.port := rfl
@[simp] theorem State.withMetering_signal (s : State) (x) : (s.withMetering x).signal = s.signal := rfl
@[simp] theorem State.withMetering_store (s : State) (x) : (s.withMetering x).store = s.store := rfl
@[simp] theorem State.withMetering_transit (s : State) (x) : (s.withMetering x).transit = s.transit := rfl
@[simp] theorem State.withMetering_freeCount (s : State) (x) : (s.withMetering x).freeCount = s.freeCount := rfl
@[simp] theorem State.withMetering_pending (s : State) (x) : (s.withMetering x).pending = s.pending := rfl
@[simp] theorem State.withMetering_withMetering (s : State) (x y) : (s.withMetering x).withMetering y = s.withMetering y := rfl
@[simp] theorem State.withMetering_self (s : State) : s.withMetering s.metering = s := rfl

/-! ### withScreens -/

@[simp] theorem State.withScreens_power (s : State) (x) : (s.withScreens x).power = s.power := rfl
@[simp] theorem State.withScreens_resetHeld (s : State) (x) : (s.withScreens x).resetHeld = s.resetHeld := rfl
@[simp] theorem State.withScreens_ref (s : State) (x) : (s.withScreens x).ref = s.ref := rfl
@[simp] theorem State.withScreens_profiles (s : State) (x) : (s.withScreens x).profiles = s.profiles := rfl
@[simp] theorem State.withScreens_metering (s : State) (x) : (s.withScreens x).metering = s.metering := rfl
@[simp] theorem State.withScreens_screens (s : State) (x) : (s.withScreens x).screens = x := rfl
@[simp] theorem State.withScreens_passes (s : State) (x) : (s.withScreens x).passes = s.passes := rfl
@[simp] theorem State.withScreens_receiver (s : State) (x) : (s.withScreens x).receiver = s.receiver := rfl
@[simp] theorem State.withScreens_cache (s : State) (x) : (s.withScreens x).cache = s.cache := rfl
@[simp] theorem State.withScreens_port (s : State) (x) : (s.withScreens x).port = s.port := rfl
@[simp] theorem State.withScreens_signal (s : State) (x) : (s.withScreens x).signal = s.signal := rfl
@[simp] theorem State.withScreens_store (s : State) (x) : (s.withScreens x).store = s.store := rfl
@[simp] theorem State.withScreens_transit (s : State) (x) : (s.withScreens x).transit = s.transit := rfl
@[simp] theorem State.withScreens_freeCount (s : State) (x) : (s.withScreens x).freeCount = s.freeCount := rfl
@[simp] theorem State.withScreens_pending (s : State) (x) : (s.withScreens x).pending = s.pending := rfl
@[simp] theorem State.withScreens_withScreens (s : State) (x y) : (s.withScreens x).withScreens y = s.withScreens y := rfl
@[simp] theorem State.withScreens_self (s : State) : s.withScreens s.screens = s := rfl

/-! ### withPasses -/

@[simp] theorem State.withPasses_power (s : State) (x) : (s.withPasses x).power = s.power := rfl
@[simp] theorem State.withPasses_resetHeld (s : State) (x) : (s.withPasses x).resetHeld = s.resetHeld := rfl
@[simp] theorem State.withPasses_ref (s : State) (x) : (s.withPasses x).ref = s.ref := rfl
@[simp] theorem State.withPasses_profiles (s : State) (x) : (s.withPasses x).profiles = s.profiles := rfl
@[simp] theorem State.withPasses_metering (s : State) (x) : (s.withPasses x).metering = s.metering := rfl
@[simp] theorem State.withPasses_screens (s : State) (x) : (s.withPasses x).screens = s.screens := rfl
@[simp] theorem State.withPasses_passes (s : State) (x) : (s.withPasses x).passes = x := rfl
@[simp] theorem State.withPasses_receiver (s : State) (x) : (s.withPasses x).receiver = s.receiver := rfl
@[simp] theorem State.withPasses_cache (s : State) (x) : (s.withPasses x).cache = s.cache := rfl
@[simp] theorem State.withPasses_port (s : State) (x) : (s.withPasses x).port = s.port := rfl
@[simp] theorem State.withPasses_signal (s : State) (x) : (s.withPasses x).signal = s.signal := rfl
@[simp] theorem State.withPasses_store (s : State) (x) : (s.withPasses x).store = s.store := rfl
@[simp] theorem State.withPasses_transit (s : State) (x) : (s.withPasses x).transit = s.transit := rfl
@[simp] theorem State.withPasses_freeCount (s : State) (x) : (s.withPasses x).freeCount = s.freeCount := rfl
@[simp] theorem State.withPasses_pending (s : State) (x) : (s.withPasses x).pending = s.pending := rfl
@[simp] theorem State.withPasses_withPasses (s : State) (x y) : (s.withPasses x).withPasses y = s.withPasses y := rfl
@[simp] theorem State.withPasses_self (s : State) : s.withPasses s.passes = s := rfl

/-! ### withReceiver -/

@[simp] theorem State.withReceiver_power (s : State) (x) : (s.withReceiver x).power = s.power := rfl
@[simp] theorem State.withReceiver_resetHeld (s : State) (x) : (s.withReceiver x).resetHeld = s.resetHeld := rfl
@[simp] theorem State.withReceiver_ref (s : State) (x) : (s.withReceiver x).ref = s.ref := rfl
@[simp] theorem State.withReceiver_profiles (s : State) (x) : (s.withReceiver x).profiles = s.profiles := rfl
@[simp] theorem State.withReceiver_metering (s : State) (x) : (s.withReceiver x).metering = s.metering := rfl
@[simp] theorem State.withReceiver_screens (s : State) (x) : (s.withReceiver x).screens = s.screens := rfl
@[simp] theorem State.withReceiver_passes (s : State) (x) : (s.withReceiver x).passes = s.passes := rfl
@[simp] theorem State.withReceiver_receiver (s : State) (x) : (s.withReceiver x).receiver = x := rfl
@[simp] theorem State.withReceiver_cache (s : State) (x) : (s.withReceiver x).cache = s.cache := rfl
@[simp] theorem State.withReceiver_port (s : State) (x) : (s.withReceiver x).port = s.port := rfl
@[simp] theorem State.withReceiver_signal (s : State) (x) : (s.withReceiver x).signal = s.signal := rfl
@[simp] theorem State.withReceiver_store (s : State) (x) : (s.withReceiver x).store = s.store := rfl
@[simp] theorem State.withReceiver_transit (s : State) (x) : (s.withReceiver x).transit = s.transit := rfl
@[simp] theorem State.withReceiver_freeCount (s : State) (x) : (s.withReceiver x).freeCount = s.freeCount := rfl
@[simp] theorem State.withReceiver_pending (s : State) (x) : (s.withReceiver x).pending = s.pending := rfl
@[simp] theorem State.withReceiver_withReceiver (s : State) (x y) : (s.withReceiver x).withReceiver y = s.withReceiver y := rfl
@[simp] theorem State.withReceiver_self (s : State) : s.withReceiver s.receiver = s := rfl

/-! ### withCache -/

@[simp] theorem State.withCache_power (s : State) (x) : (s.withCache x).power = s.power := rfl
@[simp] theorem State.withCache_resetHeld (s : State) (x) : (s.withCache x).resetHeld = s.resetHeld := rfl
@[simp] theorem State.withCache_ref (s : State) (x) : (s.withCache x).ref = s.ref := rfl
@[simp] theorem State.withCache_profiles (s : State) (x) : (s.withCache x).profiles = s.profiles := rfl
@[simp] theorem State.withCache_metering (s : State) (x) : (s.withCache x).metering = s.metering := rfl
@[simp] theorem State.withCache_screens (s : State) (x) : (s.withCache x).screens = s.screens := rfl
@[simp] theorem State.withCache_passes (s : State) (x) : (s.withCache x).passes = s.passes := rfl
@[simp] theorem State.withCache_receiver (s : State) (x) : (s.withCache x).receiver = s.receiver := rfl
@[simp] theorem State.withCache_cache (s : State) (x) : (s.withCache x).cache = x := rfl
@[simp] theorem State.withCache_port (s : State) (x) : (s.withCache x).port = s.port := rfl
@[simp] theorem State.withCache_signal (s : State) (x) : (s.withCache x).signal = s.signal := rfl
@[simp] theorem State.withCache_store (s : State) (x) : (s.withCache x).store = s.store := rfl
@[simp] theorem State.withCache_transit (s : State) (x) : (s.withCache x).transit = s.transit := rfl
@[simp] theorem State.withCache_freeCount (s : State) (x) : (s.withCache x).freeCount = s.freeCount := rfl
@[simp] theorem State.withCache_pending (s : State) (x) : (s.withCache x).pending = s.pending := rfl
@[simp] theorem State.withCache_withCache (s : State) (x y) : (s.withCache x).withCache y = s.withCache y := rfl
@[simp] theorem State.withCache_self (s : State) : s.withCache s.cache = s := rfl

/-! ### withPort -/

@[simp] theorem State.withPort_power (s : State) (x) : (s.withPort x).power = s.power := rfl
@[simp] theorem State.withPort_resetHeld (s : State) (x) : (s.withPort x).resetHeld = s.resetHeld := rfl
@[simp] theorem State.withPort_ref (s : State) (x) : (s.withPort x).ref = s.ref := rfl
@[simp] theorem State.withPort_profiles (s : State) (x) : (s.withPort x).profiles = s.profiles := rfl
@[simp] theorem State.withPort_metering (s : State) (x) : (s.withPort x).metering = s.metering := rfl
@[simp] theorem State.withPort_screens (s : State) (x) : (s.withPort x).screens = s.screens := rfl
@[simp] theorem State.withPort_passes (s : State) (x) : (s.withPort x).passes = s.passes := rfl
@[simp] theorem State.withPort_receiver (s : State) (x) : (s.withPort x).receiver = s.receiver := rfl
@[simp] theorem State.withPort_cache (s : State) (x) : (s.withPort x).cache = s.cache := rfl
@[simp] theorem State.withPort_port (s : State) (x) : (s.withPort x).port = x := rfl
@[simp] theorem State.withPort_signal (s : State) (x) : (s.withPort x).signal = s.signal := rfl
@[simp] theorem State.withPort_store (s : State) (x) : (s.withPort x).store = s.store := rfl
@[simp] theorem State.withPort_transit (s : State) (x) : (s.withPort x).transit = s.transit := rfl
@[simp] theorem State.withPort_freeCount (s : State) (x) : (s.withPort x).freeCount = s.freeCount := rfl
@[simp] theorem State.withPort_pending (s : State) (x) : (s.withPort x).pending = s.pending := rfl
@[simp] theorem State.withPort_withPort (s : State) (x y) : (s.withPort x).withPort y = s.withPort y := rfl
@[simp] theorem State.withPort_self (s : State) : s.withPort s.port = s := rfl

/-! ### withSignal -/

@[simp] theorem State.withSignal_power (s : State) (x) : (s.withSignal x).power = s.power := rfl
@[simp] theorem State.withSignal_resetHeld (s : State) (x) : (s.withSignal x).resetHeld = s.resetHeld := rfl
@[simp] theorem State.withSignal_ref (s : State) (x) : (s.withSignal x).ref = s.ref := rfl
@[simp] theorem State.withSignal_profiles (s : State) (x) : (s.withSignal x).profiles = s.profiles := rfl
@[simp] theorem State.withSignal_metering (s : State) (x) : (s.withSignal x).metering = s.metering := rfl
@[simp] theorem State.withSignal_screens (s : State) (x) : (s.withSignal x).screens = s.screens := rfl
@[simp] theorem State.withSignal_passes (s : State) (x) : (s.withSignal x).passes = s.passes := rfl
@[simp] theorem State.withSignal_receiver (s : State) (x) : (s.withSignal x).receiver = s.receiver := rfl
@[simp] theorem State.withSignal_cache (s : State) (x) : (s.withSignal x).cache = s.cache := rfl
@[simp] theorem State.withSignal_port (s : State) (x) : (s.withSignal x).port = s.port := rfl
@[simp] theorem State.withSignal_signal (s : State) (x) : (s.withSignal x).signal = x := rfl
@[simp] theorem State.withSignal_store (s : State) (x) : (s.withSignal x).store = s.store := rfl
@[simp] theorem State.withSignal_transit (s : State) (x) : (s.withSignal x).transit = s.transit := rfl
@[simp] theorem State.withSignal_freeCount (s : State) (x) : (s.withSignal x).freeCount = s.freeCount := rfl
@[simp] theorem State.withSignal_pending (s : State) (x) : (s.withSignal x).pending = s.pending := rfl
@[simp] theorem State.withSignal_withSignal (s : State) (x y) : (s.withSignal x).withSignal y = s.withSignal y := rfl
@[simp] theorem State.withSignal_self (s : State) : s.withSignal s.signal = s := rfl

/-! ### withStore -/

@[simp] theorem State.withStore_power (s : State) (x) : (s.withStore x).power = s.power := rfl
@[simp] theorem State.withStore_resetHeld (s : State) (x) : (s.withStore x).resetHeld = s.resetHeld := rfl
@[simp] theorem State.withStore_ref (s : State) (x) : (s.withStore x).ref = s.ref := rfl
@[simp] theorem State.withStore_profiles (s : State) (x) : (s.withStore x).profiles = s.profiles := rfl
@[simp] theorem State.withStore_metering (s : State) (x) : (s.withStore x).metering = s.metering := rfl
@[simp] theorem State.withStore_screens (s : State) (x) : (s.withStore x).screens = s.screens := rfl
@[simp] theorem State.withStore_passes (s : State) (x) : (s.withStore x).passes = s.passes := rfl
@[simp] theorem State.withStore_receiver (s : State) (x) : (s.withStore x).receiver = s.receiver := rfl
@[simp] theorem State.withStore_cache (s : State) (x) : (s.withStore x).cache = s.cache := rfl
@[simp] theorem State.withStore_port (s : State) (x) : (s.withStore x).port = s.port := rfl
@[simp] theorem State.withStore_signal (s : State) (x) : (s.withStore x).signal = s.signal := rfl
@[simp] theorem State.withStore_store (s : State) (x) : (s.withStore x).store = x := rfl
@[simp] theorem State.withStore_transit (s : State) (x) : (s.withStore x).transit = s.transit := rfl
@[simp] theorem State.withStore_freeCount (s : State) (x) : (s.withStore x).freeCount = s.freeCount := rfl
@[simp] theorem State.withStore_pending (s : State) (x) : (s.withStore x).pending = s.pending := rfl
@[simp] theorem State.withStore_withStore (s : State) (x y) : (s.withStore x).withStore y = s.withStore y := rfl
@[simp] theorem State.withStore_self (s : State) : s.withStore s.store = s := rfl

/-! ### withTransit -/

@[simp] theorem State.withTransit_power (s : State) (x) : (s.withTransit x).power = s.power := rfl
@[simp] theorem State.withTransit_resetHeld (s : State) (x) : (s.withTransit x).resetHeld = s.resetHeld := rfl
@[simp] theorem State.withTransit_ref (s : State) (x) : (s.withTransit x).ref = s.ref := rfl
@[simp] theorem State.withTransit_profiles (s : State) (x) : (s.withTransit x).profiles = s.profiles := rfl
@[simp] theorem State.withTransit_metering (s : State) (x) : (s.withTransit x).metering = s.metering := rfl
@[simp] theorem State.withTransit_screens (s : State) (x) : (s.withTransit x).screens = s.screens := rfl
@[simp] theorem State.withTransit_passes (s : State) (x) : (s.withTransit x).passes = s.passes := rfl
@[simp] theorem State.withTransit_receiver (s : State) (x) : (s.withTransit x).receiver = s.receiver := rfl
@[simp] theorem State.withTransit_cache (s : State) (x) : (s.withTransit x).cache = s.cache := rfl
@[simp] theorem State.withTransit_port (s : State) (x) : (s.withTransit x).port = s.port := rfl
@[simp] theorem State.withTransit_signal (s : State) (x) : (s.withTransit x).signal = s.signal := rfl
@[simp] theorem State.withTransit_store (s : State) (x) : (s.withTransit x).store = s.store := rfl
@[simp] theorem State.withTransit_transit (s : State) (x) : (s.withTransit x).transit = x := rfl
@[simp] theorem State.withTransit_freeCount (s : State) (x) : (s.withTransit x).freeCount = s.freeCount := rfl
@[simp] theorem State.withTransit_pending (s : State) (x) : (s.withTransit x).pending = s.pending := rfl
@[simp] theorem State.withTransit_withTransit (s : State) (x y) : (s.withTransit x).withTransit y = s.withTransit y := rfl
@[simp] theorem State.withTransit_self (s : State) : s.withTransit s.transit = s := rfl

/-! ### withFreeCount -/

@[simp] theorem State.withFreeCount_power (s : State) (x) : (s.withFreeCount x).power = s.power := rfl
@[simp] theorem State.withFreeCount_resetHeld (s : State) (x) : (s.withFreeCount x).resetHeld = s.resetHeld := rfl
@[simp] theorem State.withFreeCount_ref (s : State) (x) : (s.withFreeCount x).ref = s.ref := rfl
@[simp] theorem State.withFreeCount_profiles (s : State) (x) : (s.withFreeCount x).profiles = s.profiles := rfl
@[simp] theorem State.withFreeCount_metering (s : State) (x) : (s.withFreeCount x).metering = s.metering := rfl
@[simp] theorem State.withFreeCount_screens (s : State) (x) : (s.withFreeCount x).screens = s.screens := rfl
@[simp] theorem State.withFreeCount_passes (s : State) (x) : (s.withFreeCount x).passes = s.passes := rfl
@[simp] theorem State.withFreeCount_receiver (s : State) (x) : (s.withFreeCount x).receiver = s.receiver := rfl
@[simp] theorem State.withFreeCount_cache (s : State) (x) : (s.withFreeCount x).cache = s.cache := rfl
@[simp] theorem State.withFreeCount_port (s : State) (x) : (s.withFreeCount x).port = s.port := rfl
@[simp] theorem State.withFreeCount_signal (s : State) (x) : (s.withFreeCount x).signal = s.signal := rfl
@[simp] theorem State.withFreeCount_store (s : State) (x) : (s.withFreeCount x).store = s.store := rfl
@[simp] theorem State.withFreeCount_transit (s : State) (x) : (s.withFreeCount x).transit = s.transit := rfl
@[simp] theorem State.withFreeCount_freeCount (s : State) (x) : (s.withFreeCount x).freeCount = x := rfl
@[simp] theorem State.withFreeCount_pending (s : State) (x) : (s.withFreeCount x).pending = s.pending := rfl
@[simp] theorem State.withFreeCount_withFreeCount (s : State) (x y) : (s.withFreeCount x).withFreeCount y = s.withFreeCount y := rfl
@[simp] theorem State.withFreeCount_self (s : State) : s.withFreeCount s.freeCount = s := rfl

/-! ### withPending -/

@[simp] theorem State.withPending_power (s : State) (x) : (s.withPending x).power = s.power := rfl
@[simp] theorem State.withPending_resetHeld (s : State) (x) : (s.withPending x).resetHeld = s.resetHeld := rfl
@[simp] theorem State.withPending_ref (s : State) (x) : (s.withPending x).ref = s.ref := rfl
@[simp] theorem State.withPending_profiles (s : State) (x) : (s.withPending x).profiles = s.profiles := rfl
@[simp] theorem State.withPending_metering (s : State) (x) : (s.withPending x).metering = s.metering := rfl
@[simp] theorem State.withPending_screens (s : State) (x) : (s.withPending x).screens = s.screens := rfl
@[simp] theorem State.withPending_passes (s : State) (x) : (s.withPending x).passes = s.passes := rfl
@[simp] theorem State.withPending_receiver (s : State) (x) : (s.withPending x).receiver = s.receiver := rfl
@[simp] theorem State.withPending_cache (s : State) (x) : (s.withPending x).cache = s.cache := rfl
@[simp] theorem State.withPending_port (s : State) (x) : (s.withPending x).port = s.port := rfl
@[simp] theorem State.withPending_signal (s : State) (x) : (s.withPending x).signal = s.signal := rfl
@[simp] theorem State.withPending_store (s : State) (x) : (s.withPending x).store = s.store := rfl
@[simp] theorem State.withPending_transit (s : State) (x) : (s.withPending x).transit = s.transit := rfl
@[simp] theorem State.withPending_freeCount (s : State) (x) : (s.withPending x).freeCount = s.freeCount := rfl
@[simp] theorem State.withPending_pending (s : State) (x) : (s.withPending x).pending = x := rfl
@[simp] theorem State.withPending_withPending (s : State) (x y) : (s.withPending x).withPending y = s.withPending y := rfl
@[simp] theorem State.withPending_self (s : State) : s.withPending s.pending = s := rfl

end Sys2Proof.Machine
end

