-- ==== Sys2Proof/Laws/Tables.lean ====
section
/-! SUPPORT. Reading a fixed table after one cell is replaced, and reading a per-role value after one role's is replaced. -/

namespace Sys2Proof

/-- The cell just written. -/
@[simp] theorem put_self (v : Vector α n) (i : Fin n) (x : α) : (put v i x)[i] = x := by
  simp [put]

/-- Any other cell. -/
theorem put_other (v : Vector α n) {i j : Fin n} (x : α) (h : i ≠ j) : (put v i x)[j] = v[j] := by
  have : i.val ≠ j.val := fun e => h (Fin.ext e)
  simp [put, Vector.getElem_set_ne _ _ this]

/-- Every cell. -/
theorem put_get (v : Vector α n) (i j : Fin n) (x : α) : (put v i x)[j] = if i = j then x else v[j] := by
  by_cases h : i = j
  · subst h; rw [if_pos rfl]; exact put_self _ _ _
  · rw [if_neg h]; exact put_other _ _ h

/-- The cell just written, by its number. -/
@[simp] theorem put_val_self (v : Vector α n) (i : Fin n) (x : α) : (put v i x)[i.val] = x := put_self v i x

/-- Every cell, by its number. -/
theorem put_val_get (v : Vector α n) (i j : Fin n) (x : α) : (put v i x)[j.val] = if i = j then x else v[j.val] :=
  put_get v i j x

/-- Changing some cells one after another, each by a function of its own value. -/
theorem foldPut_get (f : Fin n → α → α) (l : List (Fin n)) (h : l.Nodup) (v : Vector α n) (i : Fin n) :
    (l.foldl (fun w j => put w j (f j w[j])) v)[i] = if i ∈ l then f i v[i] else v[i] := by
  induction l generalizing v with
  | nil => simp
  | cons j l ih =>
    have hj := List.nodup_cons.mp h
    rw [List.foldl_cons, ih hj.2]
    by_cases e : i = j
    · subst e; simp [hj.1]
    · simp only [put_get, if_neg (Ne.symm e), List.mem_cons, e, false_or]

/-- Writing the value already there changes nothing. -/
theorem put_get_self (v : Vector α n) (i : Fin n) : put v i v[i] = v := by
  simp [put]

/-- The later of two writes to one cell stands. -/
@[simp] theorem put_put (v : Vector α n) (i : Fin n) (x y : α) : put (put v i x) i y = put v i y := by
  simp [put]

/-- The role just written. -/
@[simp] theorem PerRole.get_set_self (v : PerRole α) (r : Role) (x : α) : (v.set r x).get r = x := by
  cases r <;> rfl

/-- Any other role. -/
theorem PerRole.get_set_other (v : PerRole α) {r q : Role} (x : α) (h : r ≠ q) : (v.set r x).get q = v.get q := by
  cases r <;> cases q <;> first | rfl | exact absurd rfl h

/-- Every role. -/
theorem PerRole.get_set (v : PerRole α) (r q : Role) (x : α) :
    (v.set r x).get q = if r = q then x else v.get q := by
  cases r <;> cases q <;> rfl

/-- The same value everywhere. -/
@[simp] theorem PerRole.get_same (x : α) (r : Role) : (PerRole.same x).get r = x := by cases r <;> rfl

/-- The later of two writes to one role stands. -/
@[simp] theorem PerRole.set_set (v : PerRole α) (r : Role) (x y : α) : (v.set r x).set r y = v.set r y := by
  cases r <;> rfl

end Sys2Proof
end

