-- ==== Sys2Proof/Laws/Ops.lean ====
section
/-! SUPPORT. What the shared operations can do: messages are taken in order and sent at the end of the line, requests are
taken when handed, everything else is left alone. -/

namespace Sys2Proof.Machine

/-! ### All slots, all screens -/

theorem slots_nodup : slots.Nodup := by decide

theorem screenNumbers_nodup : screenNumbers.Nodup := by decide

/-- Every slot is among them. -/
@[simp] theorem mem_slots (p : Slot) : p ∈ slots := by revert p; decide

/-- Every screen is among them. -/
@[simp] theorem mem_screenNumbers (n : ScreenNo) : n ∈ screenNumbers := by revert n; decide

/-! ### Sending -/

@[simp] theorem State.sendAll_power (s : State) (ms) : (s.sendAll ms).power = s.power := rfl
@[simp] theorem State.sendAll_resetHeld (s : State) (ms) : (s.sendAll ms).resetHeld = s.resetHeld := rfl
@[simp] theorem State.sendAll_ref (s : State) (ms) : (s.sendAll ms).ref = s.ref := rfl
@[simp] theorem State.sendAll_profiles (s : State) (ms) : (s.sendAll ms).profiles = s.profiles := rfl
@[simp] theorem State.sendAll_metering (s : State) (ms) : (s.sendAll ms).metering = s.metering := rfl
@[simp] theorem State.sendAll_screens (s : State) (ms) : (s.sendAll ms).screens = s.screens := rfl
@[simp] theorem State.sendAll_passes (s : State) (ms) : (s.sendAll ms).passes = s.passes := rfl
@[simp] theorem State.sendAll_receiver (s : State) (ms) : (s.sendAll ms).receiver = s.receiver := rfl
@[simp] theorem State.sendAll_cache (s : State) (ms) : (s.sendAll ms).cache = s.cache := rfl
@[simp] theorem State.sendAll_port (s : State) (ms) : (s.sendAll ms).port = s.port := rfl
@[simp] theorem State.sendAll_signal (s : State) (ms) : (s.sendAll ms).signal = s.signal := rfl
@[simp] theorem State.sendAll_store (s : State) (ms) : (s.sendAll ms).store = s.store := rfl
@[simp] theorem State.sendAll_transit (s : State) (ms) : (s.sendAll ms).transit = s.transit ++ ms := rfl
@[simp] theorem State.sendAll_freeCount (s : State) (ms) : (s.sendAll ms).freeCount = s.freeCount := rfl
@[simp] theorem State.sendAll_pending (s : State) (ms) : (s.sendAll ms).pending = s.pending := rfl

/-- Sending twice is sending the one list after the other. -/
@[simp] theorem State.sendAll_sendAll (s : State) (a b : List Instr) : (s.sendAll a).sendAll b = s.sendAll (a ++ b) := by
  simp [State.sendAll, List.append_assoc]

/-- Sending nothing. -/
@[simp] theorem State.sendAll_nil (s : State) : s.sendAll [] = s := by simp [State.sendAll]

theorem State.send_eq (s : State) (m : Instr) : s.send m = s.sendAll [m] := rfl

theorem State.raise_eq (s : State) (b : Block) (c : Category) : s.raise b c = s.sendAll [.notice b c .every 0] := rfl

theorem State.raiseIf_eq (s : State) (c : Bool) (b : Block) (g : Category) :
    s.raiseIf c b g = s.sendAll (if c then [.notice b g .every 0] else []) := by
  cases c <;> simp [State.raiseIf, State.raise_eq]

theorem State.raiseScreens_eq (s : State) (x : ScreenSet) :
    s.raiseScreens x = s.sendAll [.notice .screen .screen .every x] := rfl

theorem State.raisePort_eq (s : State) (r : Role) : s.raisePort r = s.sendAll [.notice .port .port (.only r) 0] := rfl

theorem State.markDirty_eq (s : State) (b : Block) : s.markDirty b = s.sendAll [.dirtyMark b false] := rfl

theorem State.markDirtyIf_eq (s : State) (c : Bool) (b : Block) :
    s.markDirtyIf c b = s.sendAll (if c then [.dirtyMark b false] else []) := by
  cases c <;> simp [State.markDirtyIf, State.markDirty_eq]

/-! ### Answering -/

@[simp] theorem State.setExchange_power (s : State) (r e) : (s.setExchange r e).power = s.power := rfl
@[simp] theorem State.setExchange_resetHeld (s : State) (r e) : (s.setExchange r e).resetHeld = s.resetHeld := rfl
@[simp] theorem State.setExchange_ref (s : State) (r e) : (s.setExchange r e).ref = s.ref := rfl
@[simp] theorem State.setExchange_profiles (s : State) (r e) : (s.setExchange r e).profiles = s.profiles := rfl
@[simp] theorem State.setExchange_metering (s : State) (r e) : (s.setExchange r e).metering = s.metering := rfl
@[simp] theorem State.setExchange_screens (s : State) (r e) : (s.setExchange r e).screens = s.screens := rfl
@[simp] theorem State.setExchange_passes (s : State) (r e) : (s.setExchange r e).passes = s.passes := rfl
@[simp] theorem State.setExchange_receiver (s : State) (r e) : (s.setExchange r e).receiver = s.receiver := rfl
@[simp] theorem State.setExchange_cache (s : State) (r e) : (s.setExchange r e).cache = s.cache := rfl
@[simp] theorem State.setExchange_signal (s : State) (r e) : (s.setExchange r e).signal = s.signal := rfl
@[simp] theorem State.setExchange_store (s : State) (r e) : (s.setExchange r e).store = s.store := rfl
@[simp] theorem State.setExchange_transit (s : State) (r e) : (s.setExchange r e).transit = s.transit := rfl
@[simp] theorem State.setExchange_freeCount (s : State) (r e) : (s.setExchange r e).freeCount = s.freeCount := rfl
@[simp] theorem State.setExchange_pending (s : State) (r e) : (s.setExchange r e).pending = s.pending := rfl
@[simp] theorem State.place_power (s : State) (r a) : (s.place r a).power = s.power := rfl
@[simp] theorem State.place_resetHeld (s : State) (r a) : (s.place r a).resetHeld = s.resetHeld := rfl
@[simp] theorem State.place_ref (s : State) (r a) : (s.place r a).ref = s.ref := rfl
@[simp] theorem State.place_profiles (s : State) (r a) : (s.place r a).profiles = s.profiles := rfl
@[simp] theorem State.place_metering (s : State) (r a) : (s.place r a).metering = s.metering := rfl
@[simp] theorem State.place_screens (s : State) (r a) : (s.place r a).screens = s.screens := rfl
@[simp] theorem State.place_passes (s : State) (r a) : (s.place r a).passes = s.passes := rfl
@[simp] theorem State.place_receiver (s : State) (r a) : (s.place r a).receiver = s.receiver := rfl
@[simp] theorem State.place_cache (s : State) (r a) : (s.place r a).cache = s.cache := rfl
@[simp] theorem State.place_signal (s : State) (r a) : (s.place r a).signal = s.signal := rfl
@[simp] theorem State.place_store (s : State) (r a) : (s.place r a).store = s.store := rfl
@[simp] theorem State.place_transit (s : State) (r a) : (s.place r a).transit = s.transit := rfl
@[simp] theorem State.place_freeCount (s : State) (r a) : (s.place r a).freeCount = s.freeCount := rfl
@[simp] theorem State.place_pending (s : State) (r a) : (s.place r a).pending = s.pending := rfl

/-- The exchange just set. -/
@[simp] theorem State.setExchange_exchange (s : State) (r : Role) (e : Exchange) :
    (s.setExchange r e).exchange r = e := by simp [State.setExchange, State.exchange]

/-- Another role's exchange. -/
theorem State.setExchange_other (s : State) {r q : Role} (e : Exchange) (h : r ≠ q) :
    (s.setExchange r e).exchange q = s.exchange q := by
  simp [State.setExchange, State.exchange, PerRole.get_set_other _ _ h]

/-! ### Taking -/

/-- A request that is handed is taken, and its answer placed. -/
theorem onRequest_handed {i : Instr} {r : Role} {s : State} (h : s.handed r i = true) (act : State → State × Answer) :
    onRequest i r s act = .next (((act s).1).place r (act s).2) := by simp [onRequest, h]

/-- A request that is not handed changes nothing. -/
theorem onRequest_absent {i : Instr} {r : Role} {s : State} (h : s.handed r i = false) (act : State → State × Answer) :
    onRequest i r s act = .next s := by simp [onRequest, h]

/-- The oldest message on its path is taken. -/
theorem onMessage_taken {m : Instr} {s : State} {rest : List Instr} (h : takeFrom m s.transit = some rest)
    (act : State → State) : onMessage m s act = .next (act (s.withTransit rest)) := by simp [onMessage, h]

/-- A message that is not there to be taken changes nothing. -/
theorem onMessage_absent {m : Instr} {s : State} (h : takeFrom m s.transit = none) (act : State → State) :
    onMessage m s act = .next s := by simp [onMessage, h]

/-- A message at the head of the line is taken. -/
@[simp] theorem takeFrom_head (m : Instr) (l : List Instr) : takeFrom m (m :: l) = some l := by simp [takeFrom]

/-- What taking a message means: it stood there, everything before it is on other paths, and only it is gone. -/
theorem takeFrom_some {m : Instr} {l rest : List Instr} (h : takeFrom m l = some rest) :
    ∃ a b, l = a ++ m :: b ∧ rest = a ++ b ∧ ∀ x ∈ a, x.path ≠ m.path := by
  induction l generalizing rest with
  | nil => simp [takeFrom] at h
  | cons x xs ih =>
    unfold takeFrom at h
    split at h
    · rename_i e; subst e; exact ⟨[], xs, by simp_all⟩
    · split at h
      · simp at h
      · rename_i hp
        cases hx : takeFrom m xs with
        | none => simp [hx] at h
        | some r =>
          obtain ⟨a, b, h1, h2, h3⟩ := ih hx
          refine ⟨x :: a, b, by simp [h1], ?_, ?_⟩
          · simp [hx] at h; simp [← h, h2]
          · intro y hy
            rcases List.mem_cons.mp hy with e | e
            · subst e; exact hp
            · exact h3 y e

/-- No message is on no path: taking a message needs one of its path in the line. -/
theorem takeFrom_none_of_path {m : Instr} {l : List Instr} (h : ∀ x ∈ l, x.path ≠ m.path) : takeFrom m l = none := by
  induction l with
  | nil => rfl
  | cons x xs ih =>
    have hx := h x (by simp)
    have hne : x ≠ m := fun e => hx (by rw [e])
    simp [takeFrom, hne, hx, ih fun y hy => h y (by simp [hy])]

end Sys2Proof.Machine
end

