-- ==== Sys2Proof/Laws/Accounts.lean ====
section
/-! SUPPORT. What the Metering Unit's acts on its accounts can do: each account is acted on by itself, the clock, the plan and
the charges stand still, and the messages are those of the single accounts. -/

namespace Sys2Proof.Machine

/-- Nothing differs but accounts. -/
def MeteringUnit.onlyAccounts (u v : MeteringUnit) : Prop := v = { u with accounts := v.accounts }

theorem MeteringUnit.onlyAccounts_refl (u : MeteringUnit) : u.onlyAccounts u := rfl

theorem MeteringUnit.onlyAccounts_trans {u v w : MeteringUnit} (h : u.onlyAccounts v) (k : v.onlyAccounts w) :
    u.onlyAccounts w := by
  unfold MeteringUnit.onlyAccounts at *
  rw [k, h]

/-- What a unit that differs in its accounts alone still holds. -/
theorem MeteringUnit.onlyAccounts_frame {u v : MeteringUnit} (h : u.onlyAccounts v) :
    v.running = u.running ∧ v.day = u.day ∧ v.second = u.second ∧ v.weekday = u.weekday ∧ v.trim = u.trim ∧
    v.plan = u.plan ∧ v.override = u.override ∧ v.yesterday = u.yesterday ∧ v.accountDay = u.accountDay ∧
    v.charges = u.charges ∧ v.today = u.today ∧ v.minute = u.minute := by
  unfold MeteringUnit.onlyAccounts at h
  refine ⟨?_, ?_, ?_, ?_, ?_, ?_, ?_, ?_, ?_, ?_, ?_, ?_⟩ <;> rw [h] <;> rfl

/-- An act on one account that reads nothing of the unit but what no account holds. -/
def perAccountLocal (u : MeteringUnit) (f : MeteringUnit → Slot → Account → Account × List Instr) : Prop :=
  ∀ (v : MeteringUnit), u.onlyAccounts v → ∀ (p : Slot) (a : Account), f v p a = f u p a

/-- Each account is acted on by itself, and the messages come slot by slot. -/
theorem MeteringUnit.perAccount_spec {u : MeteringUnit} {f : MeteringUnit → Slot → Account → Account × List Instr}
    (hf : perAccountLocal u f) {ps : List Slot} (hp : ps.Nodup) :
    u.onlyAccounts (u.perAccount ps f).unit ∧
    (∀ p : Slot, (u.perAccount ps f).unit.accounts[p] =
      if p ∈ ps then u.accounts[p].map fun a => (f u p a).1 else u.accounts[p]) ∧
    (u.perAccount ps f).sent = ps.flatMap fun p => (u.accounts[p].map fun a => (f u p a).2).getD [] := by
  unfold MeteringUnit.perAccount
  suffices h : ∀ (v : MeteringUnit) (sent : List Instr), u.onlyAccounts v → ps.Nodup →
      (∀ p ∈ ps, v.accounts[p] = u.accounts[p]) →
      let m := ps.foldl (fun m p =>
        match m.unit.accounts[p] with
        | none => m
        | some a =>
          let r := f m.unit p a
          { unit := { m.unit with accounts := put m.unit.accounts p (some r.1) }, sent := m.sent ++ r.2 })
        ({ unit := v, sent := sent } : Metered)
      u.onlyAccounts m.unit ∧
      (∀ p : Slot, m.unit.accounts[p] = if p ∈ ps then u.accounts[p].map fun a => (f u p a).1 else v.accounts[p]) ∧
      m.sent = sent ++ ps.flatMap fun p => (u.accounts[p].map fun a => (f u p a).2).getD [] by
    have k := h u [] rfl hp fun _ _ => rfl
    rw [List.nil_append] at k
    exact k
  clear hp
  induction ps with
  | nil => intro v sent hv _ _; exact ⟨hv, by simp, by simp⟩
  | cons q ps ih =>
    intro v sent hv hp he
    obtain ⟨hq, hp⟩ := List.nodup_cons.mp hp
    have hqe := he q (by simp)
    dsimp only
    rw [List.foldl_cons]
    cases hu : u.accounts[q] with
    | none =>
      rw [hu] at hqe
      simp only [hqe]
      obtain ⟨h1, h2, h3⟩ := ih v sent hv hp fun p hm => he p (by simp [hm])
      refine ⟨h1, fun p => ?_, ?_⟩
      · rw [h2 p]
        by_cases e : p = q
        · subst e; simp [hq, hu, hqe]
        · simp [e]
      · rw [h3, List.flatMap_cons, hu]; rfl
    | some a =>
      rw [hu] at hqe
      simp only [hqe]
      have hv' : u.onlyAccounts { v with accounts := put v.accounts q (some (f v q a).1) } := by
        unfold MeteringUnit.onlyAccounts at *; rw [hv]
      obtain ⟨h1, h2, h3⟩ := ih _ (sent ++ (f v q a).2) hv' hp fun p hm => by
        have : q ≠ p := fun e => hq (e ▸ hm)
        simpa [put_other _ _ this] using he p (by simp [hm])
      refine ⟨h1, fun p => ?_, ?_⟩
      · rw [h2 p]
        by_cases e : p = q
        · subst e; simp [hq, hu, hf v hv]
        · have : q ≠ p := fun h => e h.symm
          simp [e, put_other _ _ this]
      · rw [h3, List.flatMap_cons, hu, hf v hv, List.append_assoc]; rfl

/-- A message that one account's act sends is sent by the whole. -/
theorem MeteringUnit.mem_perAccount_sent {u : MeteringUnit} {f : MeteringUnit → Slot → Account → Account × List Instr}
    (hf : perAccountLocal u f) {ps : List Slot} (hp : ps.Nodup) (m : Instr) :
    m ∈ (u.perAccount ps f).sent ↔ ∃ p ∈ ps, ∃ a : Account, u.accounts[p] = some a ∧ m ∈ (f u p a).2 := by
  rw [(perAccount_spec hf hp).2.2, List.mem_flatMap]
  constructor
  · rintro ⟨p, hp, hm⟩
    cases h : u.accounts[p] with
    | none => rw [h] at hm; exact absurd hm List.not_mem_nil
    | some a => rw [h] at hm; exact ⟨p, hp, a, h, hm⟩
  · rintro ⟨p, hp, a, h, hm⟩
    exact ⟨p, hp, by rw [h]; exact hm⟩

/-- No message is sent twice, when one account's act sends none twice and each message names its account. -/
theorem MeteringUnit.perAccount_sent_nodup {u : MeteringUnit} {f : MeteringUnit → Slot → Account → Account × List Instr}
    (hf : perAccountLocal u f) {ps : List Slot} (hp : ps.Nodup) (h1 : ∀ p a, (f u p a).2.Nodup)
    (h2 : ∀ p q a b m, m ∈ (f u p a).2 → m ∈ (f u q b).2 → p = q) : (u.perAccount ps f).sent.Nodup := by
  rw [(perAccount_spec hf hp).2.2, List.nodup_flatMap]
  refine ⟨fun p _ => ?_, hp.imp fun {p q} hne m hm hn => ?_⟩
  · cases u.accounts[p] with
    | none => exact List.nodup_nil
    | some a => exact h1 p a
  · dsimp only at hm hn
    cases ha : u.accounts[p] with
    | none => rw [ha] at hm; exact absurd hm List.not_mem_nil
    | some a =>
      cases hb : u.accounts[q] with
      | none => rw [hb] at hn; exact absurd hn List.not_mem_nil
      | some b => rw [ha] at hm; rw [hb] at hn; exact hne (h2 p q a b m hm hn)

/-- Changing each account and sending nothing. -/
theorem MeteringUnit.mapAccounts_spec {u : MeteringUnit} {f : MeteringUnit → Slot → Account → Account}
    (hf : ∀ v : MeteringUnit, u.onlyAccounts v → ∀ p a, f v p a = f u p a) :
    u.onlyAccounts (u.mapAccounts f) ∧ ∀ p : Slot, (u.mapAccounts f).accounts[p] = u.accounts[p].map (f u p) := by
  have h := perAccount_spec (u := u) (f := fun v p a => (f v p a, [])) (fun v hv p a => by dsimp only; rw [hf v hv]) slots_nodup
  exact ⟨h.1, fun p => by rw [MeteringUnit.mapAccounts, h.2.1 p]; simp⟩

/-- Reading what no account holds of a unit and of one that differs in accounts alone. -/
theorem insideCurfew_onlyAccounts {u v : MeteringUnit} (h : u.onlyAccounts v) (l : PassList) (p : Slot) (a : Account) :
    insideCurfew l v p a = insideCurfew l u p a := by
  unfold MeteringUnit.onlyAccounts at h; rw [h]; rfl

/-- Curfew evaluation and curfew warnings read nothing of the unit that an account holds. -/
theorem evaluateAccount_local (l : PassList) (u : MeteringUnit) : perAccountLocal u (evaluateAccount l) :=
  fun v hv p a => by unfold evaluateAccount; rw [insideCurfew_onlyAccounts hv]

theorem warnAccountCurfew_local (l : PassList) (u : MeteringUnit) : perAccountLocal u (warnAccountCurfew l) :=
  fun v hv p a => by unfold MeteringUnit.onlyAccounts at hv; rw [hv]; rfl

theorem warnAccount_local (u : MeteringUnit) : perAccountLocal u warnAccount :=
  fun v hv p a => by unfold MeteringUnit.onlyAccounts at hv; rw [hv]; rfl

/-- One account's reassessment against the unit before the act. -/
def reassessFrom (before : MeteringUnit) (v : MeteringUnit) (p : Slot) (a : Account) : Account × List Instr :=
  match before.accounts[p] with
  | some b => reassess p v.today (b.remaining before.today) b.warned a
  | none => reassess p v.today 0 false a

theorem reassessAll_eq (before after : MeteringUnit) :
    reassessAll before after = after.perAccount slots (reassessFrom before) := rfl

theorem reassessFrom_some {before : MeteringUnit} {p : Slot} {b : Account} (h : before.accounts[p] = some b)
    (v : MeteringUnit) (a : Account) :
    reassessFrom before v p a = reassess p v.today (b.remaining before.today) b.warned a := by
  unfold reassessFrom; rw [h]

theorem reassessFrom_local (before u : MeteringUnit) : perAccountLocal u (reassessFrom before) :=
  fun v hv p a => by
    unfold reassessFrom; rw [(MeteringUnit.onlyAccounts_frame hv).2.2.2.2.2.2.2.2.2.2.1]

/-- R42: the evaluation of some accounts; none is made while the clock is UNSET. -/
theorem evaluateCurfew_spec (l : PassList) {ps : List Slot} (hp : ps.Nodup) (u : MeteringUnit) :
    u.onlyAccounts (evaluateCurfew l ps u).unit ∧
    (∀ p : Slot, (evaluateCurfew l ps u).unit.accounts[p] =
      if u.running = true ∧ p ∈ ps then u.accounts[p].map fun a => (evaluateAccount l u p a).1 else u.accounts[p]) ∧
    ∀ m : Instr, m ∈ (evaluateCurfew l ps u).sent ↔
      u.running = true ∧ ∃ p ∈ ps, ∃ a : Account, u.accounts[p] = some a ∧ m ∈ (evaluateAccount l u p a).2 := by
  unfold evaluateCurfew
  cases h : u.running
  · exact ⟨rfl, fun p => rfl, fun m => by simp⟩
  · have k := MeteringUnit.perAccount_spec (evaluateAccount_local l u) hp
    refine ⟨k.1, fun p => ?_, fun m => ?_⟩
    · have := k.2.1 p
      simp only [if_true, true_and] at this ⊢
      exact this
    · simp only [if_true, true_and]
      exact MeteringUnit.mem_perAccount_sent (evaluateAccount_local l u) hp m

/-- R42: an evaluation changes the curfew state alone. -/
theorem evaluateAccount_fst (l : PassList) (u : MeteringUnit) (p : Slot) (a : Account) :
    (evaluateAccount l u p a).1 = { a with curfew := if insideCurfew l u p a then .inside else .outside } := rfl

/-- R42: CURFEW_ON for OUT to IN, CURFEW_OFF for IN to OUT, nothing else. -/
theorem mem_evaluateAccount_snd (l : PassList) (u : MeteringUnit) (p : Slot) (a : Account) (m : Instr) :
    m ∈ (evaluateAccount l u p a).2 ↔
      (m = .curfewOn p ∧ a.curfew = .outside ∧ insideCurfew l u p a = true) ∨
      (m = .curfewOff p ∧ a.curfew = .inside ∧ insideCurfew l u p a = false) := by
  unfold evaluateAccount
  cases insideCurfew l u p a <;> cases a.curfew <;> simp

/-- R33: a reassessment changes the allowance warned flag alone. -/
theorem reassess_fst (p : Slot) (k : DayKind) (n : Nat) (w : Bool) (a : Account) :
    (reassess p k n w a).1 =
      { a with warned := a.warned && !(w && decide (a.terms.lead * 60 < a.remaining k)) } := by
  unfold reassess
  cases w && decide (a.terms.lead * 60 < a.remaining k) <;> simp

/-- R33: the messages of a reassessment. -/
theorem mem_reassess_snd (p : Slot) (k : DayKind) (n : Nat) (w : Bool) (a : Account) (m : Instr) :
    m ∈ (reassess p k n w a).2 ↔
      (m = .exhausted p ∧ 0 < n ∧ a.remaining k = 0) ∨
      (m = .replenished p ∧ ((n = 0 ∧ 0 < a.remaining k) ∨ (w = true ∧ a.terms.lead * 60 < a.remaining k))) := by
  unfold reassess
  by_cases h1 : 0 < n ∧ a.remaining k = 0 <;> by_cases h2 : n = 0 ∧ 0 < a.remaining k <;> cases w <;>
    by_cases h3 : a.terms.lead * 60 < a.remaining k <;> simp [h1, h2, h3]

/-- A reassessment sends no message twice, and each names its account. -/
theorem reassess_snd_nodup (p : Slot) (k : DayKind) (n : Nat) (w : Bool) (a : Account) : (reassess p k n w a).2.Nodup := by
  unfold reassess
  by_cases h1 : 0 < n ∧ a.remaining k = 0 <;> by_cases h2 : n = 0 ∧ 0 < a.remaining k <;> cases w <;>
    by_cases h3 : a.terms.lead * 60 < a.remaining k <;> simp [h1, h2, h3]

/-- An evaluation sends at most one message. -/
theorem evaluateAccount_snd_nodup (l : PassList) (u : MeteringUnit) (p : Slot) (a : Account) :
    (evaluateAccount l u p a).2.Nodup := by
  unfold evaluateAccount
  cases insideCurfew l u p a <;> cases a.curfew <;> simp

/-! ### PROFILE_CHANGED (R34) -/

/-- The account that slot p has after PROFILE_CHANGED(p), and the messages sent for it. -/
def takenAccount (l : PassList) (table : Vector Profile 8) (u : MeteringUnit) (p : Slot) : Option Account × List Instr :=
  match childOf table[p] with
  | none => (none, [])
  | some k =>
    let r := match u.accounts[p] with
      | none => reassess p u.today 0 false (freshAccount k)
      | some a => reassess p u.today (a.remaining u.today) a.warned (keptAccount k a)
    if u.running then (some (evaluateAccount l u p r.1).1, r.2 ++ (evaluateAccount l u p r.1).2) else (some r.1, r.2)

/-- The evaluation of one account. -/
theorem evaluateCurfew_one (l : PassList) (u : MeteringUnit) (p : Slot) (a : Account) :
    evaluateCurfew l [p] { u with accounts := put u.accounts p (some a) } =
      if u.running then
        { unit := { u with accounts := put u.accounts p (some (evaluateAccount l u p a).1) }
          sent := (evaluateAccount l u p a).2 }
      else { unit := { u with accounts := put u.accounts p (some a) }, sent := [] } := by
  have h : ∀ x, evaluateAccount l { u with accounts := x } p a = evaluateAccount l u p a := fun _ => rfl
  unfold evaluateCurfew
  split
  · unfold MeteringUnit.perAccount
    simp only [List.foldl_cons, List.foldl_nil, put_self, put_put, h, List.nil_append]
  · rfl

/-- PROFILE_CHANGED(p) replaces the account of p and nothing else. -/
theorem takeProfile_spec (l : PassList) (table : Vector Profile 8) (u : MeteringUnit) (p : Slot) :
    takeProfile l table u p =
      { unit := { u with accounts := put u.accounts p (takenAccount l table u p).1 }
        sent := (takenAccount l table u p).2 } := by
  unfold takeProfile takenAccount
  cases hc : childOf table[p] with
  | none =>
    cases ha : u.accounts[p] with
    | none => dsimp only; rw [← ha, put_get_self]
    | some a => rfl
  | some k =>
    cases ha : u.accounts[p] <;> dsimp only <;> rw [evaluateCurfew_one] <;> split <;> simp

theorem takenAccount_congr {l : PassList} {table : Vector Profile 8} {u v : MeteringUnit} {p : Slot} (h : u.onlyAccounts v)
    (ha : v.accounts[p] = u.accounts[p]) : takenAccount l table v p = takenAccount l table u p := by
  have hf := MeteringUnit.onlyAccounts_frame h
  have he : ∀ a, evaluateAccount l v p a = evaluateAccount l u p a := fun a => evaluateAccount_local l u v h p a
  unfold takenAccount
  rw [ha, hf.2.2.2.2.2.2.2.2.2.2.1, hf.1]
  simp only [he]

/-- PROFILE_CHANGED(all) replaces each account by itself, and the messages come slot by slot. -/
theorem takeProfiles_spec (l : PassList) (table : Vector Profile 8) {ps : List Slot} (hp : ps.Nodup) (u : MeteringUnit) :
    u.onlyAccounts (takeProfiles l table ps u).unit ∧
    (∀ p : Slot, (takeProfiles l table ps u).unit.accounts[p] =
      if p ∈ ps then (takenAccount l table u p).1 else u.accounts[p]) ∧
    (takeProfiles l table ps u).sent = ps.flatMap fun p => (takenAccount l table u p).2 := by
  unfold takeProfiles
  suffices h : ∀ (v : MeteringUnit) (sent : List Instr), u.onlyAccounts v → ps.Nodup →
      (∀ p ∈ ps, v.accounts[p] = u.accounts[p]) →
      let m := ps.foldl (fun m p =>
        let r := takeProfile l table m.unit p
        { unit := r.unit, sent := m.sent ++ r.sent }) ({ unit := v, sent := sent } : Metered)
      u.onlyAccounts m.unit ∧
      (∀ p : Slot, m.unit.accounts[p] = if p ∈ ps then (takenAccount l table u p).1 else v.accounts[p]) ∧
      m.sent = sent ++ ps.flatMap fun p => (takenAccount l table u p).2 by
    have k := h u [] rfl hp fun _ _ => rfl
    rw [List.nil_append] at k
    exact k
  clear hp
  induction ps with
  | nil => intro v sent hv _ _; exact ⟨hv, by simp, by simp⟩
  | cons q ps ih =>
    intro v sent hv hp he
    obtain ⟨hq, hp⟩ := List.nodup_cons.mp hp
    have hqe := he q (by simp)
    dsimp only
    rw [List.foldl_cons, takeProfile_spec, takenAccount_congr hv hqe]
    have hv' : u.onlyAccounts { v with accounts := put v.accounts q (takenAccount l table u q).1 } := by
      unfold MeteringUnit.onlyAccounts at *; rw [hv]
    obtain ⟨h1, h2, h3⟩ := ih _ (sent ++ (takenAccount l table u q).2) hv' hp fun p hm => by
      have : q ≠ p := fun e => hq (e ▸ hm)
      simpa [put_other _ _ this] using he p (by simp [hm])
    refine ⟨h1, fun p => ?_, ?_⟩
    · rw [h2 p]
      by_cases e : p = q
      · subst e; simp [hq]
      · have : q ≠ p := fun h => e h.symm
        simp [e, put_other _ _ this]
    · rw [h3, List.flatMap_cons, List.append_assoc]

/-! ### The second tick (R36 to R43) -/

/-- R37 to R39: an account after parts 2 to 4 of the tick. -/
def tickedAccount (u : MeteringUnit) (p : Slot) (a : Account) : Account :=
  (warnAccount u p (overrunAccount u p (chargeAccount u p a))).1

theorem MeteringUnit.chargeCount_onlyAccounts {u v : MeteringUnit} (h : u.onlyAccounts v) (p : Slot) (k : ChargeKind) :
    v.chargeCount p k = u.chargeCount p k := by
  unfold MeteringUnit.chargeCount; rw [(MeteringUnit.onlyAccounts_frame h).2.2.2.2.2.2.2.2.2.1]

theorem chargeAccount_onlyAccounts {u v : MeteringUnit} (h : u.onlyAccounts v) (p : Slot) (a : Account) :
    chargeAccount v p a = chargeAccount u p a := by
  unfold chargeAccount
  rw [MeteringUnit.chargeCount_onlyAccounts h, (MeteringUnit.onlyAccounts_frame h).2.2.2.2.2.2.2.2.2.2.1]

theorem overrunAccount_onlyAccounts {u v : MeteringUnit} (h : u.onlyAccounts v) (p : Slot) (a : Account) :
    overrunAccount v p a = overrunAccount u p a := by
  unfold overrunAccount; rw [MeteringUnit.chargeCount_onlyAccounts h]

/-- R39: the account is given the allowance warning. -/
def givesWarning (u : MeteringUnit) (a : Account) : Prop :=
  0 < a.terms.lead ∧ a.warned = false ∧ 0 < a.remaining u.today ∧ a.remaining u.today ≤ a.terms.lead * 60

theorem mem_warnAccount_snd (u : MeteringUnit) (p : Slot) (a : Account) (m : Instr) :
    m ∈ (warnAccount u p a).2 ↔ m = .warn p .allowance ∧ givesWarning u a := by
  unfold warnAccount givesWarning; split <;> simp_all

/-- Parts 2 to 5 of the tick: each account by itself, a WARN for each one warned, EXHAUSTED for each one that falls to 0. -/
theorem tickAccounts_spec (u : MeteringUnit) :
    u.onlyAccounts (tickAccounts u).unit ∧
    (∀ p : Slot, (tickAccounts u).unit.accounts[p] = u.accounts[p].map (tickedAccount u p)) ∧
    ∀ m : Instr, m ∈ (tickAccounts u).sent ↔ ∃ (p : Slot) (a : Account), u.accounts[p] = some a ∧
      ((m = .warn p .allowance ∧ givesWarning u (overrunAccount u p (chargeAccount u p a))) ∨
        (m = .exhausted p ∧ 0 < a.remaining u.today ∧ (tickedAccount u p a).remaining u.today = 0)) := by
  obtain ⟨c1, c2⟩ := MeteringUnit.mapAccounts_spec (u := u) (f := chargeAccount)
    fun v hv p a => chargeAccount_onlyAccounts hv p a
  have o := MeteringUnit.mapAccounts_spec (u := u.mapAccounts chargeAccount) (f := overrunAccount)
    fun v hv p a => overrunAccount_onlyAccounts hv p a
  have o1 := MeteringUnit.onlyAccounts_trans c1 o.1
  have o2 : ∀ p : Slot, ((u.mapAccounts chargeAccount).mapAccounts overrunAccount).accounts[p] =
      u.accounts[p].map fun a => overrunAccount u p (chargeAccount u p a) := fun p => by
    rw [o.2 p, c2 p]
    cases u.accounts[p] with
    | none => simp only [Option.map_none]
    | some a => simp only [Option.map_some, overrunAccount_onlyAccounts c1]
  clear o
  unfold tickAccounts
  generalize (u.mapAccounts chargeAccount).mapAccounts overrunAccount = v at *
  have hw := MeteringUnit.perAccount_spec (warnAccount_local v) slots_nodup
  have hm := MeteringUnit.mem_perAccount_sent (warnAccount_local v) slots_nodup
  have hv : ∀ p a, warnAccount v p a = warnAccount u p a := fun p a => warnAccount_local u v o1 p a
  have w1 := MeteringUnit.onlyAccounts_trans o1 hw.1
  have w2 : ∀ p : Slot, (v.perAccount slots warnAccount).unit.accounts[p] = u.accounts[p].map (tickedAccount u p) := fun p => by
    rw [hw.2.1 p, if_pos (mem_slots p), o2 p]
    cases u.accounts[p] with
    | none => simp only [Option.map_none]
    | some a => simp only [Option.map_some, hv, tickedAccount]
  dsimp only
  refine ⟨w1, w2, fun m => ?_⟩
  have today : (v.perAccount slots warnAccount).unit.today = u.today :=
    (MeteringUnit.onlyAccounts_frame w1).2.2.2.2.2.2.2.2.2.2.1
  rw [List.mem_append, hm]
  have he : m ∈ exhaustions u (v.perAccount slots warnAccount).unit ↔ ∃ (p : Slot) (a : Account), u.accounts[p] = some a ∧
      m = .exhausted p ∧ 0 < a.remaining u.today ∧ (tickedAccount u p a).remaining u.today = 0 := by
    unfold exhaustions
    rw [List.mem_map]
    constructor
    · rintro ⟨p, hp, rfl⟩
      rw [List.mem_filter, w2 p, today] at hp
      cases h : u.accounts[p] with
      | none => rw [h] at hp; simp at hp
      | some a => rw [h] at hp; exact ⟨p, a, h, rfl, by simpa [Account.exhausted] using hp.2⟩
    · rintro ⟨p, a, h, rfl, k⟩
      refine ⟨p, ?_, rfl⟩
      rw [List.mem_filter, w2 p, today, h]
      exact ⟨mem_slots p, by simpa [Account.exhausted] using k⟩
  rw [he]
  constructor
  · rintro (⟨p, _, b, hb, hmem⟩ | ⟨p, a, h, k⟩)
    · rw [o2 p] at hb
      obtain ⟨a, h, rfl⟩ := Option.map_eq_some_iff.1 hb
      rw [hv, mem_warnAccount_snd] at hmem
      exact ⟨p, a, h, Or.inl hmem⟩
    · exact ⟨p, a, h, Or.inr k⟩
  · rintro ⟨p, a, h, k | k⟩
    · refine Or.inl ⟨p, mem_slots p, overrunAccount u p (chargeAccount u p a), by rw [o2 p, h, Option.map_some], ?_⟩
      rw [hv, mem_warnAccount_snd]
      exact k
    · exact Or.inr ⟨p, a, h, k⟩

/-- R42, R43: an account after the minute work, and the messages sent for it. -/
def minuteAccount (l : PassList) (u : MeteringUnit) (p : Slot) (a : Account) : Account × List Instr :=
  let e := if u.running then evaluateAccount l u p a else (a, [])
  ((warnAccountCurfew l u p e.1).1, e.2 ++ (warnAccountCurfew l u p e.1).2)

theorem mem_minuteAccount_snd (l : PassList) (u : MeteringUnit) (p : Slot) (a : Account) (m : Instr) :
    m ∈ (minuteAccount l u p a).2 ↔ (u.running = true ∧ m ∈ (evaluateAccount l u p a).2) ∨
      m ∈ (warnAccountCurfew l u p (if u.running then evaluateAccount l u p a else (a, [])).1).2 := by
  unfold minuteAccount
  rw [List.mem_append]
  cases u.running <;> simp

/-- Part 6 of the tick: each account by itself. -/
theorem minuteWork_spec (l : PassList) (u : MeteringUnit) :
    u.onlyAccounts (minuteWork l u).unit ∧
    (∀ p : Slot, (minuteWork l u).unit.accounts[p] = u.accounts[p].map fun a => (minuteAccount l u p a).1) ∧
    ∀ m : Instr, m ∈ (minuteWork l u).sent ↔ ∃ (p : Slot) (a : Account), u.accounts[p] = some a ∧ m ∈ (minuteAccount l u p a).2 := by
  obtain ⟨e1, e2, e3⟩ := evaluateCurfew_spec l slots_nodup u
  unfold minuteWork giveCurfewWarnings
  generalize evaluateCurfew l slots u = e at *
  have hw := MeteringUnit.perAccount_spec (warnAccountCurfew_local l e.unit) slots_nodup
  have hm := MeteringUnit.mem_perAccount_sent (warnAccountCurfew_local l e.unit) slots_nodup
  have hv : ∀ p a, warnAccountCurfew l e.unit p a = warnAccountCurfew l u p a :=
    fun p a => warnAccountCurfew_local l u e.unit e1 p a
  have he : ∀ p : Slot, e.unit.accounts[p] =
      u.accounts[p].map fun a => (if u.running then evaluateAccount l u p a else (a, [])).1 := fun p => by
    rw [e2 p]
    cases u.running
    · simp only [Bool.false_eq_true, false_and, if_false]
      cases u.accounts[p] <;> rfl
    · simp only [mem_slots, true_and, if_true]
  dsimp only
  refine ⟨MeteringUnit.onlyAccounts_trans e1 hw.1, fun p => ?_, fun m => ?_⟩
  · have := hw.2.1 p
    rw [if_pos (mem_slots p), he p] at this
    rw [this]
    cases u.accounts[p] with
    | none => simp only [Option.map_none]
    | some a => simp only [Option.map_some, hv, minuteAccount]
  · rw [List.mem_append, hm, e3]
    simp only [mem_minuteAccount_snd]
    constructor
    · rintro (⟨hr, p, _, a, h, k⟩ | ⟨p, _, b, hb, k⟩)
      · exact ⟨p, a, h, Or.inl ⟨hr, k⟩⟩
      · rw [he p] at hb
        obtain ⟨a, h, rfl⟩ := Option.map_eq_some_iff.1 hb
        rw [hv] at k
        exact ⟨p, a, h, Or.inr k⟩
    · rintro ⟨p, a, h, ⟨hr, k⟩ | k⟩
      · exact Or.inl ⟨hr, p, mem_slots p, a, h, k⟩
      · refine Or.inr ⟨p, mem_slots p, (if u.running then evaluateAccount l u p a else (a, [])).1, ?_, ?_⟩
        · rw [he p, h, Option.map_some]
        · rw [hv]; exact k

end Sys2Proof.Machine
end

