-- ==== Sys2Proof/Laws/Screens.lean ====
section
/-! SUPPORT. What the shared acts on screens can do: a screen record is replaced, a charge is ended or settled, a screen is
tested, and nothing else of the part changes but the messages sent. -/

namespace Sys2Proof.Machine

/-! ### Replacing one record -/

@[simp] theorem State.setScreen_power (s : State) (n x) : (s.setScreen n x).power = s.power := rfl
@[simp] theorem State.setScreen_resetHeld (s : State) (n x) : (s.setScreen n x).resetHeld = s.resetHeld := rfl
@[simp] theorem State.setScreen_ref (s : State) (n x) : (s.setScreen n x).ref = s.ref := rfl
@[simp] theorem State.setScreen_profiles (s : State) (n x) : (s.setScreen n x).profiles = s.profiles := rfl
@[simp] theorem State.setScreen_metering (s : State) (n x) : (s.setScreen n x).metering = s.metering := rfl
@[simp] theorem State.setScreen_passes (s : State) (n x) : (s.setScreen n x).passes = s.passes := rfl
@[simp] theorem State.setScreen_receiver (s : State) (n x) : (s.setScreen n x).receiver = s.receiver := rfl
@[simp] theorem State.setScreen_cache (s : State) (n x) : (s.setScreen n x).cache = s.cache := rfl
@[simp] theorem State.setScreen_port (s : State) (n x) : (s.setScreen n x).port = s.port := rfl
@[simp] theorem State.setScreen_signal (s : State) (n x) : (s.setScreen n x).signal = s.signal := rfl
@[simp] theorem State.setScreen_store (s : State) (n x) : (s.setScreen n x).store = s.store := rfl
@[simp] theorem State.setScreen_transit (s : State) (n x) : (s.setScreen n x).transit = s.transit := rfl
@[simp] theorem State.setScreen_freeCount (s : State) (n x) : (s.setScreen n x).freeCount = s.freeCount := rfl
@[simp] theorem State.setScreen_pending (s : State) (n x) : (s.setScreen n x).pending = s.pending := rfl
@[simp] theorem State.setScreen_requested (s : State) (n x) :
    (s.setScreen n x).screens.requested = s.screens.requested := rfl
@[simp] theorem State.setScreen_standbyLevel (s : State) (n x) :
    (s.setScreen n x).screens.standbyLevel = s.screens.standbyLevel := rfl
@[simp] theorem State.setScreen_cells (s : State) (n x) : (s.setScreen n x).screens.cells = put s.screens.cells n x := rfl

/-- The later of two replacements stands. -/
@[simp] theorem State.setScreen_setScreen (s : State) (n : ScreenNo) (x y : Screen) :
    (s.setScreen n x).setScreen n y = s.setScreen n y := by
  simp [State.setScreen, State.withScreens]

/-- Replacing a record after sending is sending after replacing it. -/
@[simp] theorem State.sendAll_setScreen (s : State) (ms : List Instr) (n : ScreenNo) (x : Screen) :
    (s.sendAll ms).setScreen n x = (s.setScreen n x).sendAll ms := rfl

/-- Replacing a record by itself changes nothing. -/
@[simp] theorem State.setScreen_self (s : State) (n : ScreenNo) : s.setScreen n s.screens.cells[n] = s := by
  rw [State.setScreen, put_get_self]; rfl

/-! ### Charges (R59) -/

/-- The pair that a record should report. -/
def chargePair (table : Vector Profile 8) (x : Screen) : ChargeEntry where
  profile := x.seat
  kind := chargeKind x.state table[x.seat]

/-- The record once its charge is settled. -/
def chargedScreen (table : Vector Profile 8) (x : Screen) : Screen :=
  { x with
    charge := (chargePair table x).kind
    lastPair := if pairDiffers (chargePair table x) x.lastPair then chargePair table x else x.lastPair }

/-- The CHARGE message that settling sends, if any. -/
def chargeMessages (table : Vector Profile 8) (n : ScreenNo) (x : Screen) : List Instr :=
  if pairDiffers (chargePair table x) x.lastPair then [.charge n x.seat (chargePair table x).kind] else []

/-- What settling a charge does. -/
theorem State.settleCharge_eq (s : State) (n : ScreenNo) :
    s.settleCharge n = (s.setScreen n (chargedScreen s.profiles.table s.screens.cells[n])).sendAll
      (chargeMessages s.profiles.table n s.screens.cells[n]) := by
  unfold State.settleCharge chargedScreen chargeMessages chargePair
  dsimp only
  split <;> simp [State.send_eq]

/-- The record once its charge has ended. -/
def endedScreen (x : Screen) : Screen :=
  { x with
    charge := .nothing
    lastPair := if x.charge = .nothing then x.lastPair else { profile := x.seat, kind := .nothing } }

/-- What ending a charge does. -/
theorem State.endCharge_eq (s : State) (n : ScreenNo) :
    s.endCharge n = (s.setScreen n (endedScreen s.screens.cells[n])).sendAll
      (if s.screens.cells[n].charge = .nothing then [] else [.charge n s.screens.cells[n].seat .nothing]) := by
  unfold State.endCharge endedScreen
  dsimp only
  split
  · rename_i h
    have e : { s.screens.cells[n] with charge := .nothing, lastPair := s.screens.cells[n].lastPair } = s.screens.cells[n] := by
      rw [← h]
    simp only [State.sendAll_nil]
    rw [e, State.setScreen_self]
  · rfl

/-! ### The test (R60 to R62) -/

/-- The record that a test of screen n leaves. -/
def State.testedScreen (s : State) (n : ScreenNo) (fromOpen noPass : Bool) : Screen :=
  applied fromOpen s.profiles.table[(s.contentRead n noPass).seat] (s.contentRead n noPass)
    (s.judge (s.contentRead n noPass))

/-- What a test does: it replaces the one record and sends at most a CHARGE. -/
theorem State.test_eq (s : State) (n : ScreenNo) (fromOpen noPass : Bool) :
    s.test n fromOpen noPass =
      (s.setScreen n (chargedScreen s.profiles.table (s.testedScreen n fromOpen noPass))).sendAll
        (chargeMessages s.profiles.table n (s.testedScreen n fromOpen noPass)) := by
  unfold State.test
  dsimp only
  rw [State.settleCharge_eq]
  simp [State.testedScreen]

/-- A test reads its own record and no other. -/
theorem State.testedScreen_congr {s t : State} (n : ScreenNo) (o p : Bool) (h1 : t.screens.cells[n] = s.screens.cells[n])
    (h2 : t.profiles = s.profiles) (h3 : t.metering = s.metering) (h4 : t.passes = s.passes) (h5 : t.cache = s.cache) :
    t.testedScreen n o p = s.testedScreen n o p := by
  have e : t.contentRead n p = s.contentRead n p := by
    unfold State.contentRead; rw [h1, h2, h4, h5]
  have j : ∀ x, t.judge x = s.judge x := fun x => by unfold State.judge; rw [h2, h3]
  have g : ∀ x, applied o t.profiles.table[x.seat] x (t.judge x) = applied o s.profiles.table[x.seat] x (s.judge x) :=
    fun x => by rw [j]; simp only [h2]
  exact (g _).trans (by rw [e]; rfl)

/-- The record that a test leaves, with its charge. -/
theorem State.test_cell (s : State) (n : ScreenNo) (o p : Bool) :
    (s.test n o p).screens.cells[n] = chargedScreen s.profiles.table (s.testedScreen n o p) := by
  rw [State.test_eq]; simp

/-- A test of one screen leaves the others alone. -/
theorem State.test_other (s : State) {n m : ScreenNo} (h : n ≠ m) (o p : Bool) :
    (s.test n o p).screens.cells[m] = s.screens.cells[m] := by
  rw [State.test_eq]
  exact put_other _ _ h

/-! ### Acts on several screens -/

/-- Nothing differs but screen records and messages sent. -/
def State.onlyScreens (s t : State) : Prop :=
  ∃ (x : ScreenController) (ms : List Instr), t = (s.withScreens x).sendAll ms ∧ x.requested = s.screens.requested ∧
    x.standbyLevel = s.screens.standbyLevel

theorem State.onlyScreens_refl (s : State) : s.onlyScreens s := ⟨s.screens, [], by simp, rfl, rfl⟩

theorem State.onlyScreens_trans {a b c : State} (h1 : a.onlyScreens b) (h2 : b.onlyScreens c) : a.onlyScreens c := by
  obtain ⟨x, ms, rfl, h, h'⟩ := h1
  obtain ⟨y, ns, rfl, k, k'⟩ := h2
  exact ⟨y, ms ++ ns, by simp [State.sendAll, State.withScreens, State.withTransit], k.trans h, k'.trans h'⟩

theorem State.setScreen_onlyScreens (s : State) (n : ScreenNo) (y : Screen) (ms : List Instr) :
    s.onlyScreens ((s.setScreen n y).sendAll ms) :=
  ⟨{ s.screens with cells := put s.screens.cells n y }, ms, rfl, rfl, rfl⟩

theorem State.test_onlyScreens (s : State) (n : ScreenNo) (o p : Bool) : s.onlyScreens (s.test n o p) := by
  rw [State.test_eq]; exact State.setScreen_onlyScreens _ _ _ _

/-- What any act that changes screens alone keeps. -/
theorem State.onlyScreens_frame {s t : State} (h : s.onlyScreens t) :
    t.profiles = s.profiles ∧ t.metering = s.metering ∧ t.passes = s.passes ∧ t.cache = s.cache ∧
    t.receiver = s.receiver ∧ t.port = s.port ∧ t.signal = s.signal ∧ t.store = s.store ∧ t.pending = s.pending := by
  obtain ⟨x, ms, rfl, _, _⟩ := h
  exact ⟨rfl, rfl, rfl, rfl, rfl, rfl, rfl, rfl, rfl⟩

/-- A retest tests a screen that is live and does not wait, and leaves any other alone. -/
theorem State.retest_onlyScreens (s : State) (n : ScreenNo) : s.onlyScreens (s.retest n) := by
  unfold State.retest; split
  · exact State.onlyScreens_refl s
  · exact State.test_onlyScreens _ _ _ _

theorem State.retest_other (s : State) {n m : ScreenNo} (h : n ≠ m) :
    (s.retest n).screens.cells[m] = s.screens.cells[m] := by
  unfold State.retest; split
  · rfl
  · exact State.test_other s h _ _

/-- An act on each screen in turn, which touches its own record alone and reads nothing else that it changes, acts on every
screen as it stood before. -/
theorem foldScreens (f : State → ScreenNo → State) (hf : ∀ (s : State) (n : ScreenNo), s.onlyScreens (f s n))
    (ho : ∀ (s : State) (n m : ScreenNo), n ≠ m → (f s n).screens.cells[m] = s.screens.cells[m])
    (hc : ∀ (s t : State) (n : ScreenNo), s.onlyScreens t → t.screens.cells[n] = s.screens.cells[n] →
      (f t n).screens.cells[n] = (f s n).screens.cells[n])
    (l : List ScreenNo) (hl : l.Nodup) (s : State) :
    s.onlyScreens (l.foldl f s) ∧
    ∀ n : ScreenNo, (l.foldl f s).screens.cells[n] = if n ∈ l then (f s n).screens.cells[n] else s.screens.cells[n] := by
  induction l generalizing s with
  | nil => exact ⟨State.onlyScreens_refl s, by simp⟩
  | cons m l ih =>
    have hm := List.nodup_cons.mp hl
    obtain ⟨h1, h2⟩ := ih hm.2 (f s m)
    refine ⟨State.onlyScreens_trans (hf s m) h1, fun n => ?_⟩
    rw [List.foldl_cons, h2 n]
    by_cases e : n = m
    · subst e; simp only [hm.1, if_false, List.mem_cons, true_or, if_true]
    · simp only [List.mem_cons, e, false_or]
      rw [ho s m n (Ne.symm e)]
      split
      · exact hc s (f s m) n (hf s m) (ho s m n (Ne.symm e))
      · rfl

end Sys2Proof.Machine
end

