-- ==== Sys2Proof/Laws/Store.lean ====
section
/-! SUPPORT. What a load makes of an image that the store itself has sealed, and of one that a load has read before. -/

namespace Sys2Proof.Machine

/-- A sealed image of a valid content is valid. -/
theorem imageValid_sealed {c : Content} (h : contentValid c = true) : imageValid (sealed c) = true := by
  simp [imageValid, sealed, h]

/-- A load hands out the content of a sealed image, if valid, with store lost clear (R182). -/
theorem judged_sealed {c : Content} (h : contentValid c = true) : judged (some (sealed c)) = (c, false) :=
  if_pos (imageValid_sealed h)

/-- R183: what a load found of an image, lost or valid, the next load finds again, whatever the free values have become. -/
theorem judged_imageAfterReading (v : Nonvolatile) (n m : Nat) :
    judged (imageRead (imageAfterReading v n) m) = judged (imageRead v n) := by
  unfold imageAfterReading
  split
  · cases h : imageRead v n with
    | none => rfl
    | some i =>
      dsimp only
      split
      · rfl
      · rename_i hv; simp [judged, imageRead, hv]
  · rename_i h
    cases v <;> first | rfl | exact absurd rfl h

/-- R183: an image that a load has read is one that reads the same from then on. -/
theorem unverified_imageAfterReading (v : Nonvolatile) (n : Nat) : unverified (imageAfterReading v n) = false := by
  unfold imageAfterReading
  split
  · split
    · split <;> rfl
    · rfl
  · rename_i h; exact Bool.not_eq_true _ ▸ h

/-- The factory accounts are valid for the factory table. -/
theorem accountsValid_factory :
    (slots.all fun p => accountValid factoryTable[p] (factoryContent 0).accounts[p]) = true := by decide +kernel

/-- The factory content is valid, whatever day of the cycle its account day is. -/
theorem contentValid_factory {day : Nat} (h : day < 65536) : contentValid (factoryContent day) = true := by
  have table : tableValid factoryTable = true := by decide +kernel
  have screens : ((factoryContent 0).screens.all fun x => decide (x.guideWait ≤ 30)) = true := by decide +kernel
  have ranges : decide (30 ≤ 120 ∧ 120 ≤ 900 ∧ 60 ≤ 300 ∧ 300 ≤ 3600 ∧ day < 65536) = true := by simpa using h
  exact Bool.and_eq_true_iff.2 ⟨Bool.and_eq_true_iff.2 ⟨Bool.and_eq_true_iff.2 ⟨ranges, table⟩, accountsValid_factory⟩, screens⟩

end Sys2Proof.Machine
end

