-- ==== Sys2Proof/Tests/Slice0.lean ====
section
/-! SUPPORT. Tests: ill-formed terms are refused; each command does what the spec says on a small state; and for every
statement with hypotheses, a state and operands that meet them. -/

namespace Sys2Proof.Tests

set_option Elab.async false

open Sys2Proof.Machine

/-! ### States -/

/-- After the first load of a new part, with no input pin high, its STORE notice taken. -/
def booted : State := State.reset.after [.loadEnd 0, .notice .store .store .every 0]

/-- Role r's request i handed to its owner. -/
def hand (s : State) (r : Role) (i : Instr) : State := s.setExchange r (.inFlight (some i))

/-- After request i of role r. -/
def ask (s : State) (r : Role) (i : Instr) : State := (hand s r i).after [i]

/-- What role r reads after request i. -/
def reply (s : State) (r : Role) (i : Instr) : Exchange := (ask s r i).exchange r

/-- After a message that is alone in transit. -/
def told (s : State) (m : Instr) : State := (s.withTransit [m]).after [m]

/-- PIN 1234. -/
def pinA : RawPin := { count := 4, d1 := 0x12, d2 := 0x34, d3 := 0 }

/-- PIN 9999. -/
def pinB : RawPin := { count := 4, d1 := 0x99, d2 := 0x99, d3 := 0 }

/-- No PIN. -/
def noPin : RawPin := { count := 0, d1 := 0, d2 := 0, d3 := 0 }

/-- An ADULT with PIN 1234. -/
def grown : CommonPart := { label := [], pin := some [1, 2, 3, 4], ceiling := 15, blocked := 0, unrated := .allow, seatLimit := 4 }

/-- A child's common part: ceiling 7, VIOLENCE blocked, unrated content blocked, one seat. -/
def kidCommon : CommonPart := { label := [0x4B], pin := none, ceiling := 7, blocked := 1, unrated := .block, seatLimit := 1 }

/-- 60 minutes on school days, a curfew from 21:00 to 07:00, warnings 5 minutes ahead, closing at a boundary within 90 s. -/
def kidPart : ChildPart where
  school := 60
  free := 120
  bonusCap := 30
  mode := .each
  lead := 5
  close := .atBoundary
  grace := 90
  windows := [{ start := 1260, stop := 420, applies := .both }]

/-- The child's account with the given seconds used. -/
def kidAccount (used : Nat) : Account where
  terms := termsOf kidPart
  bonus := 0
  used := used
  overrun := 0
  warned := false
  curfewWarned := [false]
  curfew := .outside

/-- 10:00 on day 100, a school day, the child in slot 2 having used some seconds. -/
def clockAt (second used : Nat) : MeteringUnit :=
  { booted.metering with
    running := true
    day := 100
    second := second
    accountDay := 100
    accounts := put booted.metering.accounts 2 (some (kidAccount used)) }

/-- A household: profile 0, an ADULT in slot 1, a child in slot 2, the console holding the ADULT's authority. -/
def family : State :=
  (booted.withProfiles { booted.profiles with
    table := put (put booted.profiles.table 1 (.adult grown)) 2 (.child kidCommon kidPart)
    windows := { console := some { opener := 1, seconds := 60 }, panel := none, relay := none } }).withMetering
  (clockAt 36000 0)

/-- Rating 5 of scheme 0. -/
def rated (v : Fin 32) : Descriptor :=
  { contentId := 0x1234, rating := some { scheme := 0, value := v }, flags := none, duration := none }

/-- The same as a TUNE body has it. -/
def rawRated (v : Byte) : RawDescriptor :=
  { contentId := 0x1234, presence := 1, scheme := 0, value := v, flags := 0, duration := 0 }

/-- A screen in a state with the child seated and content of service 0 with step 5. -/
def viewed (st : ScreenState) (reason : Option Reason) (timer : Option Nat) (charge : ChargeKind) : Screen where
  kind := .localKind
  guideWait := 5
  seat := 2
  state := st
  reason := reason
  service := some 0
  descriptor := some (rated 5)
  event := none
  override := false
  timer := timer
  charge := charge
  lastPair := { profile := 2, kind := charge }
  step := some 5

/-- The child viewing on screen 0. -/
def viewing : State := (family.setScreen 0 (viewed .showing none none .view)).withMetering
  { family.metering with charges := put family.metering.charges 0 { profile := 2, kind := .view } }

/-- The child's screen 0 closing, with the given seconds of grace left. -/
def closing (left : Nat) : State := family.setScreen 0 (viewed .closing (some .allowance) (some left) .overrun)

/-- The exchange that holds OK with a body. -/
def ok (body : List Byte) : Exchange := .held (.ok body)

/-- The exchange that holds another result. -/
def no (r : Result) : Exchange := .held (.bare r)

/-- The notices that acts raise for all roles. -/
def tells (b : Block) (c : Category) : Instr := .notice b c .every 0

/-- A receiver state after a quiet gap. -/
def linked (u : GuideReceiver) : State := booted.withReceiver u

/-- An idle receiver with these symbols waiting. -/
def waitingFor (syms : List Symbol) : GuideReceiver := { GuideReceiver.cleared false true with fifo := syms }

/-- The table header of 05 section 5.8: service 77, version 7, (900, 1080) to (901, 0), 3 records. -/
def header77 : TableHeader :=
  { service := 77, version := 7, spanStart := { day := 900, minute := 1080 }, spanEnd := { day := 901, minute := 0 }
    recordCount := 3 }

/-- Its twelve bytes before the check. -/
def header77Bytes : List Byte := [77, 0, 7, 0x84, 3, 0x38, 4, 0x85, 3, 0, 0, 3]

/-- Event 6001 of 05 section 5.8. -/
def event6001 : EventRecord :=
  { id := 6001, start := { day := 900, minute := 1080 }, duration := 90, rating := some { scheme := 0, value := 5 }
    flags := some 2 }

/-- An event of service 77 with a rating. -/
def event (id : Half) (minute duration : Nat) (v : Fin 32) : EventRecord :=
  { id := id, start := { day := 900, minute := minute }, duration := duration
    rating := some { scheme := 0, value := v }, flags := none }

/-- A receiver in BODY with a judged header and the records staged. -/
def inBody (records : List EventRecord) : GuideReceiver :=
  { GuideReceiver.cleared false true with
    state := .body, staged := some header77, records := records }

/-- Service 77's entry at version 7 of 06 section 6.7, without the events of other days. -/
def entry77 : Entry :=
  { service := 77, version := 7, reference := { day := 900, minute := 1080 }
    records := [event 5990 960 120 3, event 6001 1080 90 5, event 6002 1170 95 7, event 6003 1265 175 7]
    current := some (event 6002 1170 95 7) }

/-- The directory with service 77 in entry 4. -/
def guide : GuideCache := { GuideCache.empty with directory := put GuideCache.empty.directory 4 (some entry77) }

/-- The clock of 06 section 6.7: day 900, 20:00. -/
def evening (second : Nat) : MeteringUnit := { family.metering with day := 900, second := second, accountDay := 900 }

/-- The family with the guide, at 20:00 on day 900. -/
def guided : State := (family.withCache guide).withMetering (evening 72000)

/-- The table of version 8 in 06 section 6.7. -/
def table8 : GuideTable :=
  { service := 77, version := 8, spanStart := { day := 900, minute := 1170 }, spanEnd := { day := 901, minute := 0 }
    records := [event 6002 1170 95 12, event 6004 1265 60 6, event 6005 1325 60 6, event 6006 1385 90 8] }

/-- A content pass for screen 0's content and a curfew pass for the child. -/
def passA : Pass :=
  { id := 1, scope := .content 0 (.source 0x1234), expiry := { day := 100, second := 40000 }, granter := some 1 }

/-- The curfew pass. -/
def passB : Pass := { id := 2, scope := .curfew 2, expiry := { day := 100, second := 50000 }, granter := none }

/-- The family holding both passes. -/
def passed (s : State) : State := s.withPasses { held := [passA, passB], nextId := 3 }

/-- The port between transactions, its answers unread. -/
def portAt (b : BusState) : State := booted.withPort { booted.port with bus := b }

/-- A store state. -/
def stored (f : ProfileStore → ProfileStore) : State := booted.withStore (f booted.store)

/-- An image of the factory content. -/
def image7 : Image := { formatMark := true, check := 0, content := factoryContent 7 }

/-- A store that is writing its image at the given attempt. -/
def writing (a : Attempt) : State :=
  stored fun t => { t with
    state := .writing, dirty := false, settle := none, snapshot := some image7, attempt := some a
    image := .torn }

/-- An edit image for a CHILD with ceiling 9, the given seat limit and no window. -/
def childImage (pin : RawPin) (seatLimit : Byte) : EditImage :=
  { kind := 1, label := List.replicate 12 0, pin := pin, ceiling := 9, blocked := 0, unrated := 0x40
    seatLimit := seatLimit, school := 60, free := 60, bonusCap := 0, modes := 0, lead := 0, grace := 0, windowCount := 0
    windows := List.replicate 3 default }

/-- Seven SCHOOL days. -/
def schoolWeek : List Byte := List.replicate 7 0

/-! ### Ill-formed commands are refused -/

theorem test_illFormed_editLabel :
    (Instr.editProfile .console 1 { childImage noPin 1 with label := List.replicate 11 0 }).wellFormed = false := by decide +kernel

theorem test_illFormed_editWindows :
    (Instr.editProfile .console 1 { childImage noPin 1 with windows := [] }).wellFormed = false := by decide +kernel

theorem test_illFormed_map : (Instr.setSchemeMap .console 0 (List.replicate 31 0)).wellFormed = false := by decide +kernel

theorem test_illFormed_plan : (Instr.setWeekPlan .console (List.replicate 8 0)).wellFormed = false := by decide +kernel

theorem test_illFormed_quietGap : (Instr.quietGap 9).wellFormed = false := by decide +kernel

theorem test_illFormed_unknownControl : (Instr.unknownControl 0x0F).wellFormed = false := by decide +kernel

theorem test_illFormed_commit :
    (Instr.commit { table8 with service := 0 }).wellFormed = false ∧
    (Instr.commit { table8 with version := 32 }).wellFormed = false ∧
    (Instr.commit { table8 with spanStart := { day := 65536, minute := 0 } }).wellFormed = false ∧
    (Instr.commit { table8 with spanEnd := { day := 0, minute := 1440 } }).wellFormed = false ∧
    (Instr.commit { table8 with records := List.replicate 49 event6001 }).wellFormed = false := by decide +kernel

theorem test_illFormed_record :
    (Instr.commit { table8 with records := [event 1 1440 1 0] }).wellFormed = false ∧
    (Instr.commit { table8 with records := [event 1 0 0 0] }).wellFormed = false ∧
    (Instr.commit { table8 with records := [event 1 0 1441 0] }).wellFormed = false := by decide +kernel

theorem test_illFormed_passId :
    (Instr.passAdded { id := 0, scope := .curfew 0 }).wellFormed = false ∧
    (Instr.passRemoved { id := 256, scope := .curfew 0 }).wellFormed = false ∧
    (Instr.curfewPassChange 0 0).wellFormed = false := by decide +kernel

theorem test_illFormed_notice :
    (Instr.notice .store .screen .every 0).wellFormed = false ∧ (Instr.notice .port .port .every 0).wellFormed = false ∧
    (Instr.notice .store .store .every 1).wellFormed = false := by decide +kernel

theorem test_illFormed_dirtyMark :
    (Instr.dirtyMark .port false).wellFormed = false ∧ (Instr.dirtyMark .profile true).wellFormed = false := by decide +kernel

theorem test_wellFormed :
    (Instr.editProfile .console 1 (childImage noPin 1)).wellFormed = true ∧ (Instr.commit table8).wellFormed = true ∧
    (Instr.notice .screen .screen .every 3).wellFormed = true ∧ (Instr.quietGap 8).wellFormed = true ∧
    (Instr.notice .port .port (.only .relay) 0).wellFormed = true ∧ (Instr.dirtyMark .metering true).wellFormed = true ∧
    (Instr.unknownControl 0x05).wellFormed = true := by decide +kernel

/-! ### Check codes and records of the wire -/

/-- 10 R189: the CRC-8 of the single byte 0x01 is 0x31; the others were computed apart from the model. -/
theorem test_crc8 :
    crc8 [0x01] = 0x31 ∧ crc8 header77Bytes = 0x87 ∧ crc8 [0x62, 0x20, 0] = 0xDB ∧ crc8 [0x63, 1, 0] = 0xB5 := by decide +kernel

theorem test_headerAndRecord :
    headerOf (header77Bytes ++ [0x87]) = some header77 ∧ headerOf (header77Bytes ++ [0x88]) = none ∧
    recordOf [0x71, 0x17, 0x84, 3, 0x38, 4, 90, 0, 3, 0, 5, 2, 0x23] = some event6001 := by decide +kernel

/-! ### The port and its requests -/

theorem test_identify : reply booted .console (.identify .console) = ok [0xD1, 0x53, 0x40, 0x03, 1, 0, 1, 0] := by decide +kernel

theorem test_readPortCounts :
    let s := booted.withPort { booted.port with counts := booted.port.counts.set .panel { PortCounts.zero with check := 1, truncated := 2 } }
    reply s .panel (.readPortCounts .panel) = ok [1, 2, 0, 0, 0] ∧
    (ask s .panel (.readPortCounts .panel)).port.counts.get .panel = PortCounts.zero := by decide +kernel

theorem test_reset :
    (ask booted .console (.reset .console)).transit = [.softReset] ∧
    (ask booted .console (.reset .console)).port.silent = true ∧
    reply booted .console (.reset .console) = .inFlight none := by decide +kernel

theorem test_startCondition : (booted.after [.startCondition false]).port.bus = .address := by decide +kernel

theorem test_stopCondition :
    ((portAt (.read .panel)).after [.stopCondition true]).port.bus = .free ∧
    (((portAt (.read .panel)).after [.stopCondition true]).port.counts.get .panel).bus = 1 := by decide +kernel

theorem test_addressByte :
    ((portAt .address).after [.addressByte 0x62]).port.bus = .write .panel ∧
    ((portAt .address).after [.addressByte 0x65]).port.bus = .read .relay ∧
    ((portAt .address).after [.addressByte 0x66]).port.bus = .ignore := by decide +kernel

/-- PANEL's READ_CLOCK at 0x31, the first exchange of 07 section 7.10 in outline. -/
theorem test_frameBytes :
    (booted.after [.startCondition false, .addressByte 0x62, .codeByte 0x20, .lengthByte 0, .checkByte 0xDB]).exchange
      .panel = .inFlight (some (.readClock .panel)) := by decide +kernel

/-- 07 section 7.10: RELAY's GRANT_BONUS is answered NOT_PERMITTED by the port. -/
theorem test_bodyBytes :
    (booted.after [.startCondition false, .addressByte 0x64, .codeByte 0x24, .lengthByte 2, .bodyByte 2, .bodyByte 10,
      .checkByte (crc8 [0x64, 0x24, 2, 2, 10])]).exchange .relay = no .notPermitted := by decide +kernel

theorem test_responseByteSent :
    ((portAt (.read .panel)).after [.responseByteSent true]).port.sent = some 1 ∧
    ((portAt (.read .panel)).after [.responseByteSent true, .responseByteSent true, .responseByteSent true]).port.sent =
      some 0xB5 := by decide +kernel

theorem test_transactionTimeout :
    (((portAt (.write .relay)).after [.transactionTimeout]).port.counts.get .relay).timeout = 1 ∧
    ((portAt (.write .relay)).after [.transactionTimeout]).port.bus = .ignore := by decide +kernel

/-! ### Profiles -/

theorem test_readProfile :
    reply family .relay (.readProfile .relay 8) = no .badValue ∧
    reply family .relay (.readProfile .relay 1) = ok ([2] ++ List.replicate 12 0 ++ [1, 0, 0, 0, 15, 0, 0x40, 4] ++
      List.replicate 25 0) := by decide +kernel

theorem test_editProfile :
    reply family .panel (.editProfile .panel 3 (childImage noPin 1)) = no .noAuthority ∧
    (ask family .console (.editProfile .console 3 (childImage pinA 1))).profiles.table[(3 : Slot)] ≠ .empty ∧
    (ask family .console (.editProfile .console 3 (childImage pinA 1))).transit =
      [.profileChangedMetering (.one 3), .profileChanged (.one 3), .dirtyMark .profile false, tells .profile .authority] := by decide +kernel

theorem test_clearProfile :
    reply family .console (.clearProfile .console 0) = no .badValue ∧
    (ask family .console (.clearProfile .console 2)).profiles.table[(2 : Slot)] = .empty := by decide +kernel

theorem test_verifyPin :
    reply family .panel (.verifyPin .panel 1 pinA) = ok [120, 0] ∧
    (ask family .panel (.verifyPin .panel 1 pinA)).profiles.windows.panel = some { opener := 1, seconds := 120 } ∧
    reply family .panel (.verifyPin .panel 1 pinB) = no .badPin := by decide +kernel

/-- 01 section 1.4: the fifth failure locks for 300 seconds. -/
theorem test_fifthFailureLocks :
    let s := family.withProfiles { family.profiles with failures := put family.profiles.failures 1 4 }
    reply s .relay (.verifyPin .relay 1 pinB) = no .lockedOut ∧
    (ask s .relay (.verifyPin .relay 1 pinB)).profiles.lockouts[(1 : Slot)] = some 300 := by decide +kernel

theorem test_endAuthority : (ask family .console (.endAuthority .console)).profiles.windows.console = none := by decide +kernel

theorem test_readAuthority :
    reply family .console (.readAuthority .console) = ok [1, 1, 60, 0] ∧
    reply family .relay (.readAuthority .relay) = ok [0, 0xFF, 0, 0] := by decide +kernel

theorem test_schemeMaps :
    reply family .relay (.readSchemeMap .relay 3) = ok (List.replicate 32 0xFF) ∧
    (ask family .console (.setSchemeMap .console 3 (List.replicate 32 6))).profiles.maps[(3 : Fin 4)].toList =
      List.replicate 32 (some 6) := by decide +kernel

theorem test_setHousehold :
    (ask family .console (.setHousehold .console 900 60)).profiles.household =
      { authorityLength := 900, lockoutLength := 60 } ∧
    reply family .console (.setHousehold .console 901 60) = no .badValue := by decide +kernel

theorem test_expiries :
    let s := family.withProfiles { family.profiles with
      failures := put family.profiles.failures 1 5, lockouts := put family.profiles.lockouts 1 (some 0)
      windows := { family.profiles.windows with console := some { opener := 1, seconds := 0 } } }
    (s.after [.lockoutExpiry 1]).profiles.failures[(1 : Slot)] = 0 ∧
    (s.after [.windowExpiry .console]).profiles.windows.console = none := by decide +kernel

theorem test_standbyEntryReport : (told family .standbyEntryReport).profiles.windows.console = none := by decide +kernel

/-! ### Ratings (01 section 1.2) -/

/-- Profile 2 of the example: ceiling 9, FEAR blocked, STEP(12). -/
def exampleChild : CommonPart := { kidCommon with ceiling := 9, blocked := 8, unrated := .step 12 }

theorem test_verdicts :
    let judged := fun (scheme : Fin 4) (v : Fin 32) (f : Option FlagSet) =>
      verdict exampleChild (resolve factoryMaps (some { scheme := scheme, value := v })) f
    judged 0 7 none = .pass ∧ judged 0 22 (some 2) = .rating ∧ judged 0 4 (some 8) = .flags ∧ judged 1 3 none = .rating ∧
    verdict exampleChild (resolve factoryMaps none) none = .rating := by decide +kernel

/-! ### Time and accounts -/

theorem test_readClock :
    reply family .relay (.readClock .relay) = ok [1, 100, 0, 0xA0, 0x8C, 0, 0, 0, 0, 0, 1, 100, 0] := by decide +kernel

/-- 02 section 2.7: from day 812 to day 815, then back to 814. -/
theorem test_setClock :
    let s := family.withMetering { clockAt 72000 3000 with day := 812, weekday := 2, accountDay := 812 }
    let t := ask s .console (.setClock .console { day := 815, second := 3600 } 5)
    t.metering.accountDay = 815 ∧ t.metering.yesterday = .school ∧
    (t.metering.accounts[(2 : Slot)].map fun a => a.used) = some 0 ∧
    (ask t .console (.setClock .console { day := 814, second := 4800 } 4)).metering.accountDay = 815 := by decide +kernel

theorem test_setTrim :
    (ask booted .console (.setTrim .console 0xFF80)).metering.trim = -128 ∧
    reply booted .console (.setTrim .console 128) = no .badValue := by decide +kernel

theorem test_readAccount :
    reply family .relay (.readAccount .relay 3) = no .notFound ∧
    reply family .relay (.readAccount .relay 2) = ok ([100, 0] ++ [0x10, 0x0E, 0, 0, 0] ++ [0x10, 0x0E, 0, 0, 0, 0] ++
      [0x10, 0x0E, 0, 0, 0, 0, 0, 0, 0, 0]) := by decide +kernel

/-- 02 section 2.4: a grant of 5 minutes from 0 sends REPLENISHED. -/
theorem test_grantBonus :
    let s := family.withMetering (clockAt 36000 3600)
    reply s .console (.grantBonus .console 2 5) = ok [0x2C, 1, 0x2C, 1, 0] ∧
    .replenished 2 ∈ (ask s .console (.grantBonus .console 2 5)).transit := by decide +kernel

theorem test_weekPlanAndTodayKind :
    (ask family .console (.setWeekPlan .console (List.replicate 7 1))).metering.today = .free ∧
    (ask family .console (.setTodayKind .console 1)).metering.override = some .free ∧
    reply family .console (.setTodayKind .console 3) = no .badValue := by decide +kernel

/-- 02 section 2.4: a tick at the lead warns; a tick at the end exhausts. -/
theorem test_secondTick :
    let at_ := fun used => (viewing.withMetering { viewing.metering with
      accounts := put viewing.metering.accounts 2 (some (kidAccount used)) }).after [.secondTick]
    (at_ 3299).transit = [.warn 2 .allowance, tells .metering .time, .accountActivity] ∧
    ((at_ 3299).metering.accounts[(2 : Slot)].map fun a => a.used) = some 3300 ∧
    .exhausted 2 ∈ (at_ 3599).transit := by decide +kernel

/-- 02 section 2.5: the curfew comes on at 21:00. -/
theorem test_curfewAtMinute :
    .curfewOn 2 ∈ ((family.withMetering (clockAt 75599 0)).after [.secondTick]).transit ∧
    .warn 2 .curfew ∈ ((family.withMetering (clockAt 75299 0)).after [.secondTick]).transit := by decide +kernel

theorem test_rolloverAtTick :
    let t := (family.withMetering (clockAt 86399 3000)).after [.secondTick]
    t.metering.day = 101 ∧ t.metering.accountDay = 101 ∧ t.metering.second = 0 ∧
    (t.metering.accounts[(2 : Slot)].map fun a => a.used) = some 0 := by decide +kernel

theorem test_charge : (told family (.charge 3 2 .view)).metering.charges[(3 : ScreenNo)] =
    { profile := 2, kind := .view } := by decide +kernel

theorem test_profileChangedMetering :
    let s := family.withProfiles { family.profiles with table := put family.profiles.table 3 (.child kidCommon kidPart) }
    ((told s (.profileChangedMetering (.one 3))).metering.accounts[(3 : Slot)].map fun a => a.terms.school) = some 60 ∧
    (told family (.profileChangedMetering .all)).metering.accounts[(1 : Slot)] = none := by decide +kernel

theorem test_curfewPassChange :
    let s := (passed family).withMetering { clockAt 79200 0 with
      accounts := put family.metering.accounts 2 (some { kidAccount 0 with curfew := .inside }) }
    .curfewOff 2 ∈ (told s (.curfewPassChange 2 2)).transit := by decide +kernel

/-- A period passes on an empty queue; at the end of a second timers fall and a tick falls due. -/
theorem test_period :
    (family.withRef { phase := 32767, length := 32768, ticksDue := 0 }).period.ref = { phase := 0, length := 32768, ticksDue := 1 } ∧
    ((family.withRef { phase := 32767, length := 32768, ticksDue := 0 }).period.profiles.windows.console.map fun w => w.seconds) =
      some 59 := by decide +kernel

/-! ### Screens -/

theorem test_configureScreen :
    (ask booted .console (.configureScreen .console 1 1 30)).screens.cells[(1 : ScreenNo)] = .dark .remoteKind 30 ∧
    reply viewing .console (.configureScreen .console 0 0 5) = no .wrongState := by decide +kernel

theorem test_seat :
    (ask family .panel (.seat .panel 3 2 noPin)).screens.cells[(3 : ScreenNo)].seat = 2 ∧
    reply family .console (.seat .console 3 2 noPin) = no .notPermitted ∧
    reply viewing .console (.seat .console 0 1 pinB) = no .badPin := by decide +kernel

theorem test_tune :
    let s := family.setScreen 0 { family.screens.cells[(0 : ScreenNo)] with seat := 2 }
    reply s .console (.tune .console 0 0 (some (rawRated 7))) = ok [2] ∧
    reply s .console (.tune .console 0 0 (some (rawRated 8))) = ok [5] ∧
    reply s .console (.tune .console 0 77 none) = ok [1] := by decide +kernel

theorem test_screenOff :
    (ask viewing .console (.screenOff .console 0)).transit =
      [.charge 0 2 .nothing, .dropScreen 0, .notice .screen .screen .every 1] := by decide +kernel

theorem test_mark :
    (ask (closing 90) .console (.mark .console 0)).screens.cells[(0 : ScreenNo)].state = .expired ∧
    (ask viewing .console (.mark .console 0)).gate 0 = true := by decide +kernel

theorem test_readScreen :
    reply viewing .relay (.readScreen .relay 0) = ok ([0, 5, 2, 2, 0, 1, 0, 0] ++
      [0x34, 0x12, 0, 0, 0, 0, 0, 0, 1, 0, 5, 0] ++ [5, 0, 0, 0, 1, 1, 0, 0, 0]) := by decide +kernel

theorem test_setBox :
    let t := ask viewing .console (.setBox .console 1)
    t.gate 0 = false ∧ t.screens.cells[(0 : ScreenNo)].seat = 0 ∧ .standbyEntryReport ∈ t.transit ∧
    (ask viewing .console (.setBox .console 2)).gate 0 = true := by decide +kernel

/-- 03 section 3.10: WARN, EXHAUSTED, the mark and REPLENISHED. -/
theorem test_timeMessages :
    let used := fun n w => viewing.withMetering { viewing.metering with
      accounts := put viewing.metering.accounts 2 (some { kidAccount n with warned := w }) }
    (told (used 3300 true) (.warn 2 .allowance)).screens.cells[(0 : ScreenNo)].state = .winding ∧
    (told (used 3600 true) (.exhausted 2)).screens.cells[(0 : ScreenNo)].state = .closing ∧
    (told (used 3600 true) (.exhausted 2)).transit = [.charge 0 2 .overrun, .notice .screen .screen .every 1] ∧
    (told ((closing 50).withMetering (used 0 false).metering) (.replenished 2)).screens.cells[(0 : ScreenNo)].state =
      .showing := by decide +kernel

theorem test_curfewMessages :
    let s := viewing.withMetering { viewing.metering with
      accounts := put viewing.metering.accounts 2 (some { kidAccount 0 with curfew := .inside }) }
    (told s (.curfewOn 2)).screens.cells[(0 : ScreenNo)].reason = some .curfew ∧
    (told ((closing 50)) (.curfewOff 2)).screens.cells[(0 : ScreenNo)].state = .showing := by decide +kernel

theorem test_clockMessages :
    let s := viewing.withMetering { viewing.metering with running := false }
    (told s .clockSet).screens.cells[(0 : ScreenNo)].reason = some .clock ∧
    (told s .rolloverTaken).gate 0 = false := by decide +kernel

theorem test_profileChanged :
    let s := viewing.withProfiles { viewing.profiles with
      table := put viewing.profiles.table 2 (.child { kidCommon with ceiling := 4 } kidPart) }
    (told s (.profileChanged (.one 2))).screens.cells[(0 : ScreenNo)].reason = some .rating ∧
    (told s (.profileChanged (.one 1))).gate 0 = true := by decide +kernel

/-- 04 section 4.6: a content pass opens a refused screen, and its removal closes it. -/
theorem test_passMessages :
    let x := { viewed .refused (some .rating) none .nothing with descriptor := some (rated 12), step := some 12 }
    let s := family.setScreen 0 x
    let note : PassNote := { id := 1, scope := passA.scope }
    (told (passed s) (.passAdded note)).gate 0 = true ∧
    (told (passed s) (.passAdded note)).screens.cells[(0 : ScreenNo)].override = true ∧
    (told s (.passRemoved note)).gate 0 = false := by decide +kernel

/-- 03 section 3.11: a wait ends with EVENT_CHANGE, or refuses at its expiry. -/
theorem test_guideWait :
    let x := { viewed .waiting none (some 0) .nothing with service := some 77, descriptor := none, step := none }
    (told (guided.setScreen 0 x) (.eventChange 77)).screens.cells[(0 : ScreenNo)].state = .showing ∧
    ((family.setScreen 0 x).after [.guideWaitExpiry 0]).screens.cells[(0 : ScreenNo)].reason = some .unrated := by decide +kernel

theorem test_graceAndBoundary :
    ((closing 0).after [.graceExpiry 0]).screens.cells[(0 : ScreenNo)].state = .expired ∧
    (told (closing 9) (.boundaryMark 0)).screens.cells[(0 : ScreenNo)].reason = some .allowance := by decide +kernel

theorem test_standbyLevel : (told viewing (.standbyLevel true)).screens.box = .standby := by decide +kernel

/-! ### Passes -/

theorem test_grantPass :
    reply family .console (.grantPass .console 1 2 (some { day := 100, second := 79200 })) = ok [1, 100, 0, 0x60, 0x35, 1, 0] ∧
    reply family .console (.grantPass .console 1 2 (some { day := 100, second := 79201 })) = no .badValue ∧
    reply viewing .console (.grantPass .console 0 0 none) = ok [1, 100, 0, 0xE0, 0xC4, 0, 0] := by decide +kernel

theorem test_revokePass :
    (ask (passed family) .console (.revokePass .console 1)).passes.held = [passB] ∧
    reply (passed family) .console (.revokePass .console 9) = no .notFound := by decide +kernel

theorem test_listPasses :
    reply (family.withPasses { held := [passB], nextId := 3 }) .relay (.listPasses .relay) =
      ok [1, 2, 2, 0, 0, 0, 0, 100, 0, 0x50, 0xC3, 0, 0xFF, 0xB0, 0x36, 0] := by decide +kernel

theorem test_passRemovals :
    ((passed (family.withMetering (clockAt 40000 0))).after [.expiryCheck]).passes.held = [passB] ∧
    (told (passed (family.withMetering (clockAt 50000 0))) .passListClockSet).passes.held = [] ∧
    (told (passed family) (.dropScreen 0)).passes.held = [passB] ∧
    (told (passed family) (.dropProfile 2)).transit = [.curfewPassChange 2 2, .passRemoved { id := 2, scope := .curfew 2 },
      tells .passes .authority] := by decide +kernel

/-! ### The guide link -/

/-- Nine samples that make the data byte 5: the kind bit 0, then the value bits, most significant first. -/
def samplesOf5 : Vector Bool 9 := #v[false, false, false, false, false, false, true, false, true]

theorem test_arrivals :
    ((linked (.cleared false true)).after [.symbolArrival samplesOf5]).receiver.fifo = [.data 5] ∧
    ((linked (waitingFor (List.replicate 64 (.data 5)))).after [.symbolArrival samplesOf5]).receiver.counts.overrun = 1 := by decide +kernel

theorem test_quietGap :
    (booted.after [.quietGap 4]).receiver.aligned = true ∧
    ((linked (.cleared false true)).after [.quietGap 4]).receiver.counts.framing = 1 := by decide +kernel

theorem test_sotAndData :
    ((linked (waitingFor [.control 1])).after [.sot]).receiver.state = .header ∧
    ((linked { waitingFor [.data 0x87] with state := .header, header := header77Bytes }).after [.dataByte 0x87]).receiver.staged =
      some header77 := by decide +kernel

theorem test_duplicateIsSkipped :
    let u := { waitingFor [.data 0x87] with state := ReceiverState.header, header := header77Bytes }
    ((guided.withReceiver u).after [.dataByte 0x87]).receiver.state = .skip := by decide +kernel

theorem test_sorAndEor :
    ((linked { inBody [] with fifo := [.control 2] }).after [.sor]).receiver.recordOpen = true ∧
    ((linked { inBody [] with
        fifo := [.control 3], recordOpen := true
        record := [0x71, 0x17, 0x84, 3, 0x38, 4, 90, 0, 3, 0, 5, 2, 0x23] }).after [.eor]).receiver.records =
      [event6001] := by decide +kernel

/-- 05 section 5.8: a table of the announced count is handed off; one of another count is damaged. -/
theorem test_eot :
    let whole := [event 6001 1080 90 5, event 6002 1170 95 7, event 6003 1265 175 7]
    ((linked { inBody whole with fifo := [.control 4] }).after [.eot]).receiver.commitOutstanding = true ∧
    ((linked { inBody [] with fifo := [.control 4] }).after [.eot]).receiver.counts.damaged = 1 := by decide +kernel

theorem test_abtAndUnknown :
    ((linked { inBody [] with fifo := [.control 0x0F] }).after [.abt]).receiver.counts.abandoned = 1 ∧
    ((linked (waitingFor [.control 9])).after [.unknownControl 9]).receiver.counts.framing = 1 := by decide +kernel

theorem test_commitDone :
    (told (linked { GuideReceiver.cleared true true with state := .handoff }) (.commitDone .committed)).receiver.counts.committed = 1 ∧
    (told (linked (.cleared true true)) (.commitDone .cacheFull)).receiver.counts.refused = 1 := by decide +kernel

theorem test_linkRequests :
    (ask (linked (waitingFor [.data 1])) .console (.linkReset .console)).receiver = .cleared false true ∧
    reply (linked (waitingFor [.data 1])) .relay (.readLinkCounts .relay) =
      ok (List.replicate 16 0 ++ [0, 1, 0, 0, 0]) := by decide +kernel

/-! ### The guide cache -/

/-- 06 section 6.7: version 8 replaces 6002 and 6003 and keeps 5990 and 6001; the current event changes its rating. -/
theorem test_commit :
    let t := (told guided (.commit table8)).after [.commitCompletion]
    (t.cache.entryFor 77).map (fun e => e.records.map fun x => x.id) = some [5990, 6001, 6002, 6004, 6005, 6006] ∧
    t.cache.currentOf 77 = some (event 6002 1170 95 12) ∧
    t.transit = [.eventChange 77, tells .cache .guide, .commitDone .committed] := by decide +kernel

theorem test_minute :
    let t := told (guided.withMetering (evening 75900)) .minute
    t.cache.currentOf 77 = some (event 6003 1265 175 7) ∧ t.transit = [.eventChange 77] := by decide +kernel

theorem test_lookups :
    reply guided .relay (.readEvent .relay 77 none) =
      ok [0x72, 0x17, 0x84, 3, 0x92, 4, 95, 0, 1, 0, 7, 0, 1] ∧
    reply guided .relay (.readEvent .relay 12 none) = no .notFound ∧
    reply guided .relay (.listEvents .relay 77 900 1200) =
      ok [1, 0, 0x73, 0x17, 0x84, 3, 0xF1, 4, 175, 0, 1, 0, 7, 0] := by decide +kernel

theorem test_readDirectory :
    reply guided .relay (.readDirectory .relay 0) = ok (List.replicate 24 0 ++ [4, 0, 31, 0]) ∧
    reply guided .relay (.readDirectory .relay 32) = no .badValue := by decide +kernel

/-! ### Notices and lines -/

theorem test_notices :
    let s := told booted (.notice .screen .screen .every 4)
    reply s .panel (.getNotices .panel) = ok [17, 4, 0] ∧ s.alert .panel = true ∧
    (ask s .panel (.getNotices .panel)).alert .panel = false ∧
    (ask s .panel (.setNoticeMask .panel 63)).alert .panel = false := by decide +kernel

theorem test_levelChange :
    let s := booted.withSignal { booted.signal with
      lines := put booted.signal.lines 1 { setting := { function := .boundary 2, polarity := .high }, level := false } }
    (s.after [.levelChange 1 true]).transit = [.boundaryMark 2] ∧
    reply s .relay (.readLines .relay) = ok [0, 0xFF, 1, 0, 0, 1, 2, 1, 0, 0, 0, 0xFF, 1, 0, 0, 0, 0xFF, 1, 0, 0, 0] := by decide +kernel

theorem test_setLineFunction :
    (ask booted .console (.setLineFunction .console 0 2 0xFF 0)).transit = [.standbyLevel true, .dirtyMark .signal false] := by decide +kernel

/-! ### The store and loads -/

theorem test_marks :
    (told (stored fun t => { t with dirty := false, settle := none }) (.dirtyMark .profile false)).store.settle = some 2 ∧
    (told booted .accountActivity).store.snapshotTimer = some 60 ∧
    ((stored fun t => { t with snapshotTimer := some 0 }).after [.snapshotTimerExpiry]).store.snapshotTimer = none := by decide +kernel

theorem test_commitToStore :
    ((stored fun t => { t with settle := some 0 }).after [.settleExpiry]).store.state = .writing ∧
    ((writing .first).after [.writeAttemptEnd true]).store.image = .whole image7 ∧
    ((writing .retry).after [.writeAttemptEnd false]).store.state = .failed := by decide +kernel

theorem test_softReset :
    (told (stored fun t => { t with dirty := false, settle := none }) .softReset).store.underWay = .reset ∧
    ((told (stored fun t => { t with dirty := false }) .softReset).after [.loadBegin 1]).port.base = 0x34 := by decide +kernel

theorem test_factoryClear :
    (ask family .console (.factoryClear .console)).store.underWay = .factoryClear 100 .writing ∧
    reply (ask family .console (.endAuthority .console)) .console (.factoryClear .console) = no .noAuthority := by decide +kernel

theorem test_readStoreState : reply booted .relay (.readStoreState .relay) = ok [1, 1, 1, 0, 2, 0] := by decide +kernel

theorem test_supplyAndReset :
    (family.after [.powerLoss]).power = false ∧ (family.after [.powerLoss, .powerOn 3]).port.base = 0x3C ∧
    (family.after [.resetNAssert]).awake = false ∧ (family.after [.resetNAssert, .resetNRelease 2]).port.base = 0x38 := by decide +kernel

/-- A sealed image is loaded; a damaged one gives the factory content with store lost. -/
theorem test_loadEnd :
    imageValid (sealed (factoryContent 7)) = true ∧
    (((State.reset.loadEnds (factoryContent 7) false 0).metering.accountDay = 7) ∧
    ((State.reset.loadEnds (factoryContent 7) false 0).store.lost = false) ∧
    judged none = (factoryContent 0, true)) := by
  exact ⟨imageValid_sealed (contentValid_factory (by decide)), by decide +kernel⟩

theorem test_loadEnd_blank :
    booted.store.lost = true ∧ booted.store.settle = some 2 ∧ booted.port.silent = false := by decide +kernel

/-- R185: a factory image whose write failed twice is told apart, and what a load finds of it is it or nothing. -/
theorem test_factoryFailed :
    let s := stored fun t => { t with
      underWay := .factoryClear 7 .writing, state := .writing, attempt := some .retry, snapshot := some (sealed (factoryContent 7)) }
    (s.after [.writeAttemptEnd false]).store.image = .factoryFailed (sealed (factoryContent 7)) ∧
    (s.after [.writeAttemptEnd false]).store.underWay = .factoryClear 7 .written := ⟨rfl, rfl⟩

/-- R183: an image found lost is found lost again by a load that no write came before. -/
theorem test_aLostImageStaysLost :
    let s := State.reset.withStore { State.reset.store with image := .lost }
    let t := s.after [.loadEnd 0, .powerLoss, .powerOn 0, .loadEnd 0]
    t.store.lost = true ∧ t.store.image = .lost := by decide +kernel

/-- R30, R33: a loaded allowance warned flag does not outlive a remaining above the lead. -/
theorem test_loadReassesses :
    let s := family.withMetering { family.metering with
      accounts := put family.metering.accounts 2 (some { kidAccount 0 with warned := true }) }
    ((s.loadEnds s.storedContent false 0).metering.accounts[(2 : Slot)].map fun a => a.warned) = some false := by decide +kernel

/-! ### The hypotheses of the statements are met -/

theorem hand_handed (s : State) (r : Role) (i : Instr) : (hand s r i).handed r i = true := by
  cases r <;> simp [hand, State.handed, State.exchange, State.setExchange, State.withPort, PerRole.set, PerRole.get]

theorem witness_EmptyQueuePassesAPeriod :
    let last := booted.withRef { phase := 32767, length := 32768, ticksDue := 0 }
    booted.pending = [] ∧ (booted.withPower false).pending = [] ∧ (booted.withPower false).awake = false ∧ booted.awake = true ∧
    booted.ref.phase + 1 < booted.ref.length ∧ last.pending = [] ∧ last.awake = true ∧
    last.ref.length ≤ last.ref.phase + 1 := by decide +kernel

theorem witness_CommandsAreTakenInTheirTurn :
    (Instr.identify .relay).requester = some .relay ∧ booted.handed .relay (.identify .relay) = false ∧
    Instr.clockSet.path ≠ none ∧ takeFrom .clockSet booted.transit = none ∧
    (booted.withTransit [.exhausted 2, .clockSet]).transit = [] ++ .exhausted 2 :: [.clockSet] ∧
    Instr.exhausted 2 ≠ .clockSet ∧ (Instr.exhausted 2).path = Instr.clockSet.path ∧
    Instr.clockSet ∉ ([] : List Instr) := by decide +kernel

theorem witness_ReadsChangeNothingButTheirAnswer :
    ([.identify .relay, .readProfile .relay 8, .readAuthority .relay, .readSchemeMap .relay 4, .readClock .relay,
      .readAccount .relay 7, .readScreen .relay 3, .listPasses .relay, .readLinkCounts .relay, .readEvent .relay 0 none,
      .listEvents .relay 1 0 1439, .readDirectory .relay 31, .readLines .relay, .readStoreState .relay] : List Instr).all
      (fun i => (hand booted .relay i).handed .relay i) = true := by decide +kernel

/-- Screen 0 on service 77 with a copy of an event, or without. -/
def onAir (e : Option EventRecord) : State :=
  viewing.setScreen 0 { viewed .showing none none .view with service := some 77, descriptor := none, event := e }

theorem witness_ReadsChangeNothingButTheirAnswer_bodies :
    8 ≤ (8 : Byte).toNat ∧ (7 : Byte).toNat = (7 : Slot).val ∧ family.profiles.table[(7 : Slot)] = .empty ∧
    family.profiles.table[(2 : Slot)] = .child kidCommon kidPart ∧ family.profiles.table[(1 : Slot)] = .adult grown ∧
    4 ≤ (4 : Byte).toNat ∧ (3 : Byte).toNat = (3 : Fin 4).val ∧ booted.screens.cells[(3 : ScreenNo)].service = none ∧
    viewing.screens.cells[(0 : ScreenNo)].service ≠ none ∧ viewing.screens.cells[(0 : ScreenNo)].descriptor = some (rated 5) ∧
    (onAir (some event6001)).screens.cells[(0 : ScreenNo)].descriptor = none ∧
    (onAir (some event6001)).screens.cells[(0 : ScreenNo)].event = some event6001 ∧
    (onAir none).screens.cells[(0 : ScreenNo)].service ≠ none ∧ (onAir none).screens.cells[(0 : ScreenNo)].event = none ∧
    32 ≤ (32 : Byte).toNat ∧ (31 : Byte).toNat = (31 : Fin 32).val := by decide +kernel

theorem witness_IdentifyReportsRoleStoreAndClock :
    let s := hand booted .relay (.identify .relay)
    s.handed .relay (.identify .relay) = true ∧ s.store.state ≠ .loading := by decide +kernel

theorem witness_TimeAndStoreReadsGiveTheRecords :
    (hand family .relay (.readClock .relay)).handed .relay (.readClock .relay) = true ∧
    (hand family .relay (.readStoreState .relay)).handed .relay (.readStoreState .relay) = true ∧
    family.store.state ≠ .loading ∧
    (hand family .relay (.readAccount .relay 8)).handed .relay (.readAccount .relay 8) = true ∧ 8 ≤ (8 : Byte).toNat ∧
    (hand family .relay (.readAccount .relay 7)).handed .relay (.readAccount .relay 7) = true ∧
    (7 : Byte).toNat = (7 : Slot).val ∧ family.metering.accounts[(7 : Slot)] = none ∧
    (hand family .relay (.readAccount .relay 2)).handed .relay (.readAccount .relay 2) = true ∧
    (2 : Byte).toNat = (2 : Slot).val ∧ family.metering.accounts[(2 : Slot)] = some (kidAccount 0) := by decide +kernel

theorem witness_ReadProfileNeverTellsThePin :
    let s := hand family .relay (.readProfile .relay 1)
    let c : CommonPart := { kidCommon with pin := some [0, 0, 0, 0] }
    let t := s.withProfiles { s.profiles with table := put s.profiles.table 7 (.child c kidPart) }
    s.handed .relay (.readProfile .relay 1) = true ∧ grown.pin = some [1, 2, 3, 4] ∧
    s.profiles.table[(1 : Slot)] = .adult grown ∧ t.handed .relay (.readProfile .relay 1) = true ∧
    c.pin = some [0, 0, 0, 0] ∧ t.profiles.table[(7 : Slot)] = .child c kidPart := by decide +kernel

theorem witness_ProtectedRequestsNeedAuthority :
    family.profiles.windows.get .console = some { opener := 1, seconds := 60 } ∧
    booted.profiles.windows.get .console = none ∧ (∀ p : Slot, isAdult booted.profiles.table[p] = false) ∧
    family.profiles.windows.get .panel = none ∧ isAdult family.profiles.table[(1 : Slot)] = true ∧
    ([.editProfile .panel 1 (childImage noPin 1), .clearProfile .panel 1, .setSchemeMap .panel 0 [], .setHousehold .panel 0 0,
      .grantBonus .panel 2 1, .setWeekPlan .panel [], .setTodayKind .panel 0, .grantPass .panel 0 0 none,
      .revokePass .panel 1, .factoryClear .panel] : List Instr).all (fun i =>
      (hand family .panel i).handed .panel i && (hand family .panel i).authority .panel == none) = true ∧
    (let i := Instr.setClock .panel { day := 100, second := 36301 } 0
     let s := hand family .panel i
     s.handed .panel i = true ∧ s.authority .panel = none ∧ s.metering.running = true ∧
     300 < ((100 * 86400 + 36301 : Int) - (s.metering.day * 86400 + s.metering.second)).natAbs) := by decide +kernel

/-- The family with profile 1's failure counter and lockout timer. -/
def failed (n : Nat) (timer : Option Nat) : State :=
  family.withProfiles { family.profiles with
    failures := put family.profiles.failures 1 n, lockouts := put family.profiles.lockouts 1 timer }

theorem witness_PinChecksCountAndLock :
    (failed 5 (some 300)).profiles.lockouts[(1 : Slot)] ≠ none ∧ (failed 4 none).profiles.lockouts[(1 : Slot)] = none ∧
    pinHeld (failed 4 none).profiles.table[(1 : Slot)] = some [1, 2, 3, 4] ∧
    pinHeld (failed 3 none).profiles.table[(1 : Slot)] ≠ some [9, 9, 9, 9] ∧
    (failed 3 none).profiles.lockouts[(1 : Slot)] = none ∧ (failed 3 none).profiles.failures[(1 : Slot)] + 1 < 5 ∧
    5 ≤ (failed 4 none).profiles.failures[(1 : Slot)] + 1 := by decide +kernel

theorem witness_VerifyPinChecksAndOpensTheWindow :
    let s := fun b pin => hand family .panel (.verifyPin .panel b pin)
    let kid := family.withProfiles { family.profiles with
      table := put family.profiles.table 2 (.child { kidCommon with pin := some [9, 9, 9, 9] } kidPart) }
    (s 8 pinA).handed .panel (.verifyPin .panel 8 pinA) = true ∧ 8 ≤ (8 : Byte).toNat ∧
    pinOf noPin = none ∧ pinOf pinA = some [1, 2, 3, 4] ∧ pinOf pinB = some [9, 9, 9, 9] ∧
    (s 7 pinA).profiles.table[(7 : Slot)] = .empty ∧ (7 : Byte).toNat = (7 : Slot).val ∧
    (s 0 pinA).profiles.table[(0 : Slot)] ≠ .empty ∧ pinHeld (s 0 pinA).profiles.table[(0 : Slot)] = none ∧
    pinHeld (s 1 pinA).profiles.table[(1 : Slot)] ≠ none ∧
    ((s 1 pinB).pinCheck 1 (some [9, 9, 9, 9])).2 = .badPin ∧
    ((failed 5 (some 1)).pinCheck 1 (some [1, 2, 3, 4])).2 = .lockedOut ∧
    ((s 1 pinA).pinCheck 1 (some [1, 2, 3, 4])).2 = .correct ∧ isAdult (s 1 pinA).profiles.table[(1 : Slot)] = true ∧
    (kid.pinCheck 2 (some [9, 9, 9, 9])).2 = .correct ∧ isAdult kid.profiles.table[(2 : Slot)] = false := by decide +kernel

/-- An edit image for an ADULT that takes away the PIN. -/
def adultImage : EditImage := { childImage { noPin with count := 1 } 4 with kind := 2 }

/-- The child viewing on two screens, one more than its seat limit. -/
def twice : State := viewing.setScreen 1 (viewed .showing none none .view)

theorem witness_EditProfileReplacesOneRecord :
    let s := hand twice .console (.editProfile .console 2 (childImage noPin 1))
    s.handed .console (.editProfile .console 2 (childImage noPin 1)) = true ∧ s.authority .console ≠ none ∧
    (2 : Byte).toNat = (2 : Slot).val ∧ adultImage.kind ≠ 0 ∧ (childImage noPin 1).kind ≠ 0 ∧
    (editOf adultImage).map (fun e => (e.child, pinResulting e.choice s.profiles.table[(1 : Slot)])) = some (none, none) ∧
    (editOf (childImage noPin 1)).any (fun e => decide (e.common.seatLimit < s.liveSeats 2)) = true ∧
    (editOf (childImage noPin 2)).any (fun e => decide (s.liveSeats 2 ≤ e.common.seatLimit) && e.child.isSome) = true ∧
    8 ≤ (8 : Byte).toNat ∧ ({ adultImage with kind := 0 } : EditImage).kind = 0 ∧ editOf { adultImage with kind := 3 } = none ∧
    ({ adultImage with kind := 3 } : EditImage).kind ≠ 0 ∧ ({ adultImage with kind := 3 } : EditImage).kind ≠ 1 ∧
    ({ adultImage with kind := 3 } : EditImage).kind ≠ 2 ∧
    (editOf (childImage noPin 2)).map (fun e => e.choice) = some .keep ∧
    (editOf (childImage pinA 2)).map (fun e => e.choice) = some (.fresh [1, 2, 3, 4]) := by decide +kernel

theorem witness_ClearProfileEmptiesTheSlot :
    let s := fun b => hand viewing .console (.clearProfile .console b)
    (s 0).handed .console (.clearProfile .console 0) = true ∧ (s 0).authority .console ≠ none ∧
    (0 : Byte).toNat = (0 : Slot).val ∧ (7 : Slot) ≠ 0 ∧ (s 7).profiles.table[(7 : Slot)] = .empty ∧
    (s 2).profiles.table[(2 : Slot)] ≠ .empty ∧ (s 2).screens.cells[(0 : ScreenNo)].seat = 2 ∧
    (s 1).profiles.table[(1 : Slot)] ≠ .empty ∧ (∀ n : ScreenNo, (s 1).screens.cells[n].seat ≠ 1) := by decide +kernel

theorem witness_MapsAndHouseholdAreReplacedWhole :
    let s := hand family .console (.setSchemeMap .console 3 (List.replicate 32 0xFF))
    let h := fun a l => hand family .console (.setHousehold .console a l)
    s.handed .console (.setSchemeMap .console 3 (List.replicate 32 0xFF)) = true ∧ s.authority .console ≠ none ∧
    (3 : Byte).toNat = (3 : Fin 4).val ∧ (List.replicate 32 (0xFF : Byte)).length = 32 ∧
    mapEntriesOf (List.replicate 32 0xFF) = some (List.replicate 32 none) ∧ 4 ≤ (4 : Byte).toNat ∧
    mapEntriesOf [16] = none ∧ (h 30 3600).handed .console (.setHousehold .console 30 3600) = true ∧
    (30 ≤ (30 : Half).toNat ∧ (30 : Half).toNat ≤ 900 ∧ 60 ≤ (3600 : Half).toNat ∧ (3600 : Half).toNat ≤ 3600) ∧
    ¬ (30 ≤ (29 : Half).toNat) := by decide +kernel

theorem witness_LockoutsAndWindowsEnd :
    let s := (failed 5 (some 0)).withTransit [.standbyEntryReport]
    let w : Window := { opener := 1, seconds := 0 }
    let t := family.withProfiles { family.profiles with windows := { family.profiles.windows with relay := some w } }
    s.profiles.lockouts[(1 : Slot)] = some 0 ∧ t.profiles.windows.get .relay = some w ∧ w.seconds = 0 ∧
    takeFrom .standbyEntryReport s.transit = some [] ∧
    (hand family .console (.endAuthority .console)).handed .console (.endAuthority .console) = true ∧
    family.profiles.windows.get .panel = none ∧ family.profiles.windows.get .console ≠ none ∧
    (hand t .relay (.readAuthority .relay)).handed .relay (.readAuthority .relay) = true := by decide +kernel

theorem witness_TrimTakesEffectAtTheNextSecond :
    let s := hand (booted.withRef { phase := 32767, length := 32768, ticksDue := 0 }) .console (.setTrim .console 127)
    let t := s.after [.setTrim .console 127]
    s.handed .console (.setTrim .console 127) = true ∧ (-128 ≤ (127 : Half).toInt ∧ (127 : Half).toInt ≤ 127) ∧
    (-128 ≤ (0xFF80 : Half).toInt ∧ (0xFF80 : Half).toInt ≤ 127) ∧ ¬ ((128 : Half).toInt ≤ 127) ∧
    ¬ (-128 ≤ (0xFF7F : Half).toInt) ∧ t.pending = [] ∧ t.awake = true ∧ t.ref.length ≤ t.ref.phase + 1 ∧
    t.period.ref.length = 32895 := by decide +kernel

theorem witness_ClockSetMovesDayKindsAndAccounts :
    let i := Instr.setClock .console { day := 101, second := 86399 } 6
    (hand family .console i).handed .console i = true ∧ (86399 : Triple).toNat < 86400 ∧ (6 : Byte).toNat = (6 : Fin 7).val ∧
    86400 ≤ (86400 : Triple).toNat ∧ 7 ≤ (7 : Byte).toNat ∧
    (hand family .console i).authority .console ≠ none ∧ (hand booted .console i).metering.running = false ∧
    ((100 * 86400 + 36300 : Int) - (family.metering.day * 86400 + family.metering.second)).natAbs ≤ 300 ∧
    family.metering.accounts[(2 : Slot)] = some (kidAccount 0) ∧ family.metering.accounts[(7 : Slot)] = none ∧
    family.metering.accountDay < (101 : Half).toNat ∧ .curfewOn 2 ∈ (ask family .console i).transit := by decide +kernel

/-- 20:56 of the same day: outside the curfew, within the child's lead of it. -/
theorem witness_ClockSetMovesDayKindsAndAccounts_warned :
    let t := ask family .console (.setClock .console { day := 100, second := 75360 } 0)
    ¬ (family.metering.accountDay < (100 : Half).toNat) ∧ 0 < (kidAccount 0).terms.lead ∧
    (∀ x ∈ family.passes.held, x.scope ≠ .curfew 2) ∧
    (kidAccount 0).curfewWarned.length = (kidAccount 0).terms.windows.length ∧
    t.metering.accounts[(2 : Slot)] = some { kidAccount 0 with curfewWarned := [true] } ∧
    .warn 2 .curfew ∈ t.transit ∧ .dirtyMark .metering false ∈ t.transit := by decide +kernel

theorem witness_BonusGrantsStayWithinTheCap :
    let s := fun b m => hand family .console (.grantBonus .console b m)
    (s 2 240).handed .console (.grantBonus .console 2 240) = true ∧ (s 2 240).authority .console ≠ none ∧
    8 ≤ (8 : Byte).toNat ∧ (0 : Byte).toNat < 1 ∧ 240 < (241 : Byte).toNat ∧ 1 ≤ (240 : Byte).toNat ∧
    (240 : Byte).toNat ≤ 240 ∧ (s 7 1).metering.accounts[(7 : Slot)] = none ∧
    (s 2 240).metering.accounts[(2 : Slot)] = some (kidAccount 0) ∧
    0 < min (240 * 60) ((kidAccount 0).terms.bonusCap * 60 - (kidAccount 0).bonus) ∧
    ((s 0 1).metering.accounts[(0 : Slot)].map fun a => min (1 * 60) (a.terms.bonusCap * 60 - a.bonus)) = some 0 ∧
    (kidAccount 3600).remaining family.metering.today = 0 ∧
    (let warned := { kidAccount 3500 with warned := true }
     let t := ask (family.withMetering { clockAt 36000 0 with accounts := put booted.metering.accounts 2 (some warned) })
       .console (.grantBonus .console 2 240)
     .replenished 2 ∈ t.transit ∧ t.metering.accounts[(2 : Slot)] = some { kidAccount 3500 with bonus := 1800 }) := by
  decide +kernel

theorem witness_PlanAndOverrideChangeTodaysKind :
    (hand family .console (.setWeekPlan .console schoolWeek)).handed .console (.setWeekPlan .console schoolWeek) = true ∧
    family.authority .console ≠ none ∧ schoolWeek.length = 7 ∧ dayKindsOf schoolWeek = some (List.replicate 7 .school) ∧
    dayKindsOf (2 :: schoolWeek) = none ∧ 2 ≤ (2 : Byte).toNat ∧ family.metering.accounts[(2 : Slot)] = some (kidAccount 0) ∧
    ({ family.metering with override := some .free } : MeteringUnit).today ≠ family.metering.today ∧
    (hand family .console (.setTodayKind .console 2)).handed .console (.setTodayKind .console 2) = true ∧
    (2 : Byte).toNat ≤ 2 ∧ 2 < (3 : Byte).toNat := by decide +kernel

theorem witness_MeteringTakesItsMessages :
    takeFrom (.charge 3 7 .overrun) [.charge 3 7 .overrun] = some [] ∧
    takeFrom (.profileChangedMetering .all) [.profileChangedMetering .all] = some [] ∧
    takeFrom (.profileChangedMetering (.one 7)) [.profileChangedMetering (.one 7)] = some [] ∧
    childOf family.profiles.table[(2 : Slot)] = some kidPart ∧ family.metering.accounts[(2 : Slot)] = some (kidAccount 0) ∧
    childOf family.profiles.table[(1 : Slot)] = none ∧
    takeFrom (.curfewPassChange 255 2) [.curfewPassChange 255 2] = some [] ∧ booted.metering.running = false ∧
    family.metering.running = true := by decide +kernel

theorem witness_TickChargesWhatIsViewed :
    let s := family.withMetering (clockAt 86398 0)
    let t := family.withMetering (clockAt 59 0)
    s.awake = true ∧ s.metering.running = true ∧ s.metering.second < 86399 ∧ s.metering.accounts[(1 : Slot)] = none ∧
    s.metering.accounts[(2 : Slot)] = some (kidAccount 0) ∧ (s.metering.second + 1) % 60 ≠ 0 ∧
    t.awake = true ∧ t.metering.running = true ∧ t.metering.second < 86399 ∧ (t.metering.second + 1) % 60 = 0 ∧
    t.metering.accounts[(2 : Slot)] = some (kidAccount 0) ∧ 0 < (kidAccount 0).terms.lead ∧
    (∀ x ∈ t.passes.held, x.scope ≠ .curfew 2) ∧ (kidAccount 0).curfewWarned.length = (kidAccount 0).terms.windows.length ∧
    (∀ w ∈ (kidAccount 0).terms.windows, w.start ≠ w.stop) := by decide +kernel

theorem witness_RolloverBeginsTheNewDay :
    let s := family.withMetering (clockAt 86399 0)
    s.awake = true ∧ s.metering.running = true ∧ s.metering.second = 86399 ∧ 0 < (kidAccount 0).terms.lead ∧
    s.metering.accounts[(2 : Slot)] = some (kidAccount 0) ∧ (∀ x ∈ s.passes.held, x.scope ≠ .curfew 2) ∧
    (kidAccount 0).curfewWarned.length = (kidAccount 0).terms.windows.length := by decide +kernel

/-- The child's screen 0 with content of the given rating and flags. -/
def showingContent (rating : Option Rating) (flags : Option FlagSet) : State :=
  viewing.setScreen 0 { viewed .showing none none .view with
    descriptor := some { contentId := 0x1234, rating := rating, flags := flags, duration := none } }

theorem witness_ContentPartReadsGuideMapsAndPasses :
    let rate := fun v => some (Rating.mk 0 v)
    let onAir := guided.setScreen 0 { viewed .showing none none .view with service := some 77, descriptor := none }
    onAir.screens.cells[(0 : ScreenNo)].service = some 77 ∧ (77 : Half) ≠ 0 ∧
    family.screens.cells[(0 : ScreenNo)].service = none ∧ viewing.screens.cells[(0 : ScreenNo)].service = some 0 ∧
    ((passed viewing).contentRead 0 false).override = true ∧ (viewing.contentRead 0 false).override = false ∧
    commonOf viewing.profiles.table[(2 : Slot)] = some kidCommon ∧
    ((showingContent none none).contentRead 0 false).step = none ∧ kidCommon.unrated = .block ∧
    ((showingContent (rate 8) none).contentRead 0 false).step = some 8 ∧ kidCommon.ceiling < 8 ∧
    ((showingContent (rate 7) (some 1)).contentRead 0 false).step = some 7 ∧ ¬ kidCommon.ceiling < 7 ∧
    (1 : FlagSet) &&& kidCommon.blocked ≠ 0 ∧ (2 : FlagSet) &&& kidCommon.blocked = 0 := by decide +kernel

theorem witness_TimePartTakesItsStepsInOrder :
    let x := viewed .showing none none .view
    let warned : Account := { kidAccount 3300 with warned := true }
    x.override = false ∧
    contentRefusal viewing.profiles.table[(2 : Slot)] (some 8) (contentFlags x) = some .rating ∧
    contentRefusal viewing.profiles.table[x.seat] x.step (contentFlags x) = none ∧
    family.profiles.table[(1 : Slot)] = .adult grown ∧ family.profiles.table[x.seat] = .child kidCommon kidPart ∧
    booted.metering.running = false ∧ family.metering.running = true ∧ booted.metering.accounts[x.seat] = none ∧
    family.metering.accounts[x.seat] = some (kidAccount 0) ∧
    (kidAccount 3600).remaining family.metering.today = 0 ∧ (kidAccount 3599).remaining family.metering.today ≠ 0 ∧
    (kidAccount 0).curfew = .outside ∧ ({ kidAccount 0 with curfew := .inside } : Account).curfew = .inside ∧
    warned.warned = true ∧ warned.remaining family.metering.today ≤ warned.terms.lead * 60 ∧
    (kidAccount 0).warned = false ∧ (kidAccount 0).curfewWarned = [false] := by decide +kernel

theorem witness_OutcomesMoveOneScreenAndItsCharge :
    (viewed .showing none none .view).state = .showing ∧ childOf (.child kidCommon kidPart) = some kidPart ∧
    Reason.allowance ≠ .clock ∧ kidPart.close = .atBoundary ∧ 0 < kidPart.grace ∧
    ({ kidPart with grace := 0 } : ChildPart).grace = 0 ∧
    (viewed .closing (some .curfew) (some 1) .overrun).state = .closing ∧
    (viewing.test 0 true false).transit = [] ∧ (viewing.screens.cells[(0 : ScreenNo)].lastPair = { profile := 2, kind := .view }) ∧
    ((viewing.setScreen 0 (viewed .refused (some .flags) none .nothing)).test 0 false false).transit = [.charge 0 2 .view] := by
  decide +kernel

/-- Screen 0 dark, the child seated, a TUNE handed and waiting. -/
def aboutToShow : State :=
  (hand (family.setScreen 0 { family.screens.cells[(0 : ScreenNo)] with seat := 2 }) .console
    (.tune .console 0 0 (some (rawRated 5)))).withPending [.tune .console 0 0 (some (rawRated 5))]

theorem witness_GatesOpenOnlyForAdmittedScreens :
    step aboutToShow = .next ((aboutToShow.withPending []).after [.tune .console 0 0 (some (rawRated 5))]) ∧
    aboutToShow.gate 0 = false ∧
    ((aboutToShow.withPending []).after [.tune .console 0 0 (some (rawRated 5))]).gate 0 = true :=
  ⟨rfl, by decide +kernel, by decide +kernel⟩

theorem witness_ConfigureScreenNeedsADarkScreen :
    let s := fun n k w => hand viewing .console (.configureScreen .console n k w)
    (s 3 1 30).handed .console (.configureScreen .console 3 1 30) = true ∧ 4 ≤ (4 : Byte).toNat ∧ 2 ≤ (2 : Byte).toNat ∧
    30 < (31 : Byte).toNat ∧ (3 : Byte).toNat = (3 : ScreenNo).val ∧ (1 : Byte).toNat < 2 ∧ (30 : Byte).toNat ≤ 30 ∧
    (s 0 1 30).screens.cells[(0 : ScreenNo)].state ≠ .dark ∧ (s 3 1 30).screens.cells[(3 : ScreenNo)].state = .dark := by
  decide +kernel

/-- A live screen 1 with profile 0 seated and content that the child may see. -/
def shared : State := viewing.setScreen 1 { viewed .showing none none .view with seat := 0, lastPair := { profile := 0, kind := .view } }

/-- A box in standby. -/
def asleep : State := family.withScreens { family.screens with requested := .standby }

theorem witness_SeatChecksInOrderAndReseats :
    let s := fun st n p pin => hand st Role.panel (.seat .panel n p pin)
    (s viewing 4 2 noPin).handed .panel (.seat .panel 4 2 noPin) = true ∧ 4 ≤ (4 : Byte).toNat ∧
    (3 : Byte).toNat = (3 : ScreenNo).val ∧ tuningOwner viewing.screens.cells[(3 : ScreenNo)] = .relay ∧
    asleep.screens.box = .standby ∧ viewing.screens.box = .awake ∧ seatSlot 8 = none ∧ seatSlot 7 = some 7 ∧
    seatSlot 0xFF = some 0 ∧ pinArgument { noPin with count := 3 } = none ∧ pinArgument noPin = some none ∧
    pinArgument pinB = some (some [9, 9, 9, 9]) ∧ viewing.profiles.table[(7 : Slot)] = .empty ∧
    viewing.screens.cells[(0 : ScreenNo)].seat = 2 ∧ commonOf viewing.profiles.table[(1 : Slot)] = some grown ∧
    (viewing.pinCheck 1 (some [9, 9, 9, 9])).2 = .badPin ∧ ((failed 5 (some 1)).pinCheck 1 none).2 = .lockedOut ∧
    pinHeld shared.profiles.table[(2 : Slot)] = none ∧ commonOf shared.profiles.table[(2 : Slot)] = some kidCommon ∧
    shared.screens.cells[(1 : ScreenNo)].live = true ∧ kidCommon.seatLimit ≤ shared.liveSeats 2 ∧
    viewing.screens.cells[(3 : ScreenNo)].live = false ∧ (viewing.setScreen 0 (viewed .dark none none .nothing)).liveSeats 2 < kidCommon.seatLimit ∧
    (ask (shared.setScreen 0 (.dark .localKind 5)) .console (.seat .console 1 2 noPin)).screens.cells[(1 : ScreenNo)].charge = .view ∧
    chargeFits shared.screens.cells[(1 : ScreenNo)] = true ∧
    (ask viewing .panel (.seat .panel 0 1 pinA)).transit =
      [.charge 0 2 .nothing, .dropScreen 0, .notice .screen .screen .every 1] ∧
    ((guided.setScreen 0 { viewed .showing none none .view with service := some 77 }).screens.cells[(0 : ScreenNo)]).service =
      some 77 ∧ (viewed (.waiting) none (some 5) .nothing).state = .waiting := by decide +kernel

theorem witness_TuneWaitsOrTestsAtOnce :
    let s := fun st v d => hand st Role.console (.tune .console 0 v d)
    let dark := family.setScreen 0 { family.screens.cells[(0 : ScreenNo)] with seat := 2 }
    (s viewing 77 none).handed .console (.tune .console 0 77 none) = true ∧ 4 ≤ (4 : Byte).toNat ∧
    tuningOwner viewing.screens.cells[(3 : ScreenNo)] ≠ .console ∧ tuningOwner viewing.screens.cells[(0 : ScreenNo)] = .console ∧
    asleep.screens.box = .standby ∧ viewing.screens.box = .awake ∧ descriptorOf { rawRated 5 with presence := 8 } = none ∧
    descriptorOf (rawRated 5) = some (rated 5) ∧ viewing.screens.cells[(0 : ScreenNo)].live = true ∧
    viewing.screens.cells[(0 : ScreenNo)].service = some 0 ∧
    viewing.screens.cells[(0 : ScreenNo)].descriptor = some (rated 5) ∧
    commonOf dark.profiles.table[(2 : Slot)] = some kidCommon ∧ dark.screens.cells[(0 : ScreenNo)].live = false ∧
    kidCommon.seatLimit ≤ (dark.setScreen 1 (viewed .showing none none .view)).liveSeats 2 ∧
    dark.liveSeats 2 < kidCommon.seatLimit ∧ (77 : Half) ≠ 0 ∧ dark.cache.currentOf 77 = none ∧
    0 < dark.screens.cells[(0 : ScreenNo)].guideWait ∧ chargeFits dark.screens.cells[(0 : ScreenNo)] = true ∧
    (ask dark .console (.tune .console 0 0 (some (rawRated 5)))).screens.cells[(0 : ScreenNo)].charge = .view ∧
    guided.cache.currentOf 77 ≠ none := by decide +kernel

theorem witness_ScreenOffMarksAndGrace :
    (hand (closing 0) .console (.screenOff .console 4)).handed .console (.screenOff .console 4) = true ∧ 4 ≤ (4 : Byte).toNat ∧
    (0 : Byte).toNat = (0 : ScreenNo).val ∧ tuningOwner (closing 0).screens.cells[(3 : ScreenNo)] ≠ .console ∧
    tuningOwner (closing 0).screens.cells[(0 : ScreenNo)] = .console ∧ (closing 0).screens.cells[(1 : ScreenNo)].state = .dark ∧
    (closing 0).screens.cells[(0 : ScreenNo)].state ≠ .dark ∧
    (hand (closing 0) .console (.mark .console 0)).handed .console (.mark .console 0) = true ∧
    viewing.screens.cells[(0 : ScreenNo)].state ≠ .closing ∧ (closing 0).screens.cells[(0 : ScreenNo)].state = .closing ∧
    takeFrom (.boundaryMark 3) [.boundaryMark 3] = some [] ∧ (closing 0).screens.cells[(0 : ScreenNo)].timer = some 0 := by
  decide +kernel

theorem witness_BoxStateFollowsItsTwoInputs :
    (hand family .console (.setBox .console 2)).handed .console (.setBox .console 2) = true ∧ 2 ≤ (2 : Byte).toNat ∧
    takeFrom (.standbyLevel true) [.standbyLevel true] = some [] ∧
    ({ family.screens with requested := .standby, standbyLevel := false } : ScreenController).box = .standby ∧
    ({ asleep.screens with requested := .awake, standbyLevel := false } : ScreenController).box = .awake ∧
    family.screens.box = .awake ∧ asleep.screens.box = .standby ∧ viewing.screens.cells[(0 : ScreenNo)].state ≠ .dark ∧
    viewing.screens.cells[(0 : ScreenNo)].charge ≠ .nothing := by decide +kernel

theorem witness_MessagesTestTheScreensTheyConcern :
    (testedBy (.warn 2 .allowance)).isSome = true ∧ (testedBy .clockSet).isSome = true ∧
    (testedBy (.passAdded { id := 255, scope := .content 0 (.source 1) })).isSome = true ∧
    takeFrom (.warn 2 .allowance) [.warn 2 .allowance] = some [] ∧ viewing.screens.cells[(1 : ScreenNo)].state = .dark ∧
    viewing.screens.cells[(0 : ScreenNo)].seat = 2 ∧ viewing.screens.cells[(0 : ScreenNo)].state = .showing ∧
    takeFrom (.eventChange 77) [.eventChange 77] = some [] ∧ (77 : Half) ≠ 0 ∧
    (let x := viewed .waiting none (some 0) .nothing
     ((family.setScreen 0 x).after [.guideWaitExpiry 0]).transit = [.charge 0 2 .view, .notice .screen .screen .every 1] ∧
     ((family.setScreen 0 { x with seat := 1 }).after [.guideWaitExpiry 0]).transit = [.notice .screen .screen .every 1]) ∧
    (let x := { viewed .waiting none (some 0) .nothing with service := some (77 : Half), descriptor := none }
     x.service = some 77 ∧ x.state = .waiting ∧ x.timer = some 0 ∧ (family.setScreen 0 x).cache.currentOf 77 = none ∧
     (guided.setScreen 0 x).cache.currentOf 77 ≠ none) := by decide +kernel

theorem witness_GrantsEnterOrReplaceAPass :
    let end_ : RawTime := { day := 100, second := 79200 }
    let s := fun st k t e => hand st Role.console (.grantPass .console k t e)
    let soon : SecondTime := { day := 100, second := 79200 }
    let many := family.withPasses { held := (List.range 16).map fun i => { passA with id := i + 1, scope := .content 3 (.source (BitVec.ofNat 16 i)) }, nextId := 17 }
    (s viewing 1 2 (some end_)).handed .console (.grantPass .console 1 2 (some end_)) = true ∧
    (s viewing 1 2 (some end_)).authority .console = some (some 1) ∧ (2 : Byte).toNat < 8 ∧ end_.second.toNat < 86400 ∧
    ¬ ((4 : Byte).toNat < 4) ∧ booted.metering.running = false ∧ viewing.metering.running = true ∧
    viewing.screens.cells[(1 : ScreenNo)].state = .dark ∧ childOf viewing.profiles.table[(1 : Slot)] = none ∧
    childOf viewing.profiles.table[(2 : Slot)] ≠ none ∧ secondsAhead viewing.now viewing.now < 1 ∧
    43200 < secondsAhead viewing.now { day := 100, second := 79201 } ∧ secondsAhead viewing.now soon ≤ 43200 ∧
    1 ≤ secondsAhead viewing.now soon ∧ identityOf viewing.screens.cells[(0 : ScreenNo)] = some (.source 0x1234) ∧
    halfSeconds ≤ secondsAhead (contentExpiry viewing.now viewing.screens.cells[(0 : ScreenNo)]) viewing.now ∧
    passB ∈ (passed viewing).passes.held ∧ passB.scope = .curfew 2 ∧
    ((passed viewing).passes.held.map fun p => p.scope).Nodup ∧ 16 ≤ many.passes.held.length ∧
    (∀ q ∈ many.passes.held, q.scope ≠ .curfew 2) ∧ viewing.passes.held.length < 16 ∧
    1 ≤ viewing.passes.nextId ∧ viewing.passes.nextId ≤ 255 ∧ halfSeconds ≤ secondsAhead soon viewing.now ∧
    halfSeconds ≤ secondsAhead { day := 100, second := 79201 } viewing.now := by decide +kernel

theorem witness_orderOfPasses : inExpiryOrder (passed viewing).now (passed viewing).passes.held := by
  unfold inExpiryOrder; decide +kernel

theorem witness_RemovalsTakePassesOutAndTellOfThem :
    let s := passed family
    (hand s .console (.revokePass .console 2)).handed .console (.revokePass .console 2) = true ∧ s.authority .console ≠ none ∧
    (255 : Byte) ≠ 0 ∧ (∀ p ∈ s.passes.held, p.id ≠ (255 : Byte).toNat) ∧ passB ∈ s.passes.held ∧ passB.id = (2 : Byte).toNat ∧
    takeFrom (.dropScreen 3) [.dropScreen 3] = some [] ∧ takeFrom (.dropProfile 7) [.dropProfile 7] = some [] ∧
    s.awake = true ∧ s.metering.running = true ∧ takeFrom .passListClockSet [.passListClockSet] = some [] := by decide +kernel

theorem witness_ArrivalsJoinTheFifoOrAreLost :
    let s := linked (waitingFor (List.replicate 63 (.data 0)))
    let full := linked (waitingFor (List.replicate 64 (.data 0)))
    s.awake = true ∧ s.store.state ≠ .loading ∧ booted.receiver.aligned = false ∧ s.receiver.aligned = true ∧
    Symbol.data 0 ≠ .control 0 ∧ s.receiver.fifo.length < 64 ∧ full.awake = true ∧ full.store.state ≠ .loading ∧
    64 ≤ full.receiver.fifo.length ∧ full.receiver.aligned = true := by decide +kernel

theorem witness_IdleAndSkipWaitForATable :
    (linked (waitingFor [.control 1])).receiver.fifo = .control 1 :: [] ∧ (linked (waitingFor [.control 1])).receiver.state = .idle ∧
    (linked { waitingFor [.data 9] with state := .skip }).receiver.state = .skip ∧
    (0x05 : Byte) ∉ controlCodes ∧ (0x0E : Byte) ∉ controlCodes := by decide +kernel

theorem witness_HeaderAndBodyCollectATable :
    let h := { waitingFor [.data 0x87] with state := ReceiverState.header, header := header77Bytes }
    let b := { inBody [] with fifo := [.control 3], recordOpen := true, record := [0x71, 0x17, 0x84, 3, 0x38, 4, 90, 0, 3, 0, 5, 2, 0x23] }
    h.state = .header ∧ 12 ≤ h.header.length ∧ header77Bytes.dropLast.length < 12 ∧ h.damaged = false ∧
    headerOf (h.header ++ [0x86]) = none ∧ headerOf (h.header ++ [0x87]) = some header77 ∧
    guided.cache.holdsVersion header77 = true ∧ booted.cache.holdsVersion header77 = false ∧
    (inBody []).state = .body ∧ (inBody []).recordOpen = false ∧ header77.recordCount ≠ (inBody []).records.length ∧
    b.recordOpen = true ∧ 13 ≤ b.record.length ∧ b.record.dropLast.length < 13 ∧ b.damaged = false ∧
    b.staged = some header77 ∧ recordOf b.record = some event6001 ∧ b.records.length < 48 ∧
    placed header77 b.records event6001 = true ∧ recordOf b.record.dropLast = none ∧
    placed header77 [event6001] event6001 = false ∧ 48 ≤ (List.replicate 48 event6001).length := by decide +kernel

theorem witness_TablesAreHandedOffOneAtATime :
    let whole := [event 6001 1080 90 5, event 6002 1170 95 7, event 6003 1265 175 7]
    let u := { inBody whole with fifo := [.control 4] }
    let held := { inBody whole with state := .handoff, tableHeld := true, commitOutstanding := true }
    u.fifo = .control 4 :: [] ∧ u.state = .body ∧ u.recordOpen = false ∧ u.damaged = false ∧ u.staged = some header77 ∧
    header77.recordCount = u.records.length ∧ u.commitOutstanding = false ∧ guided.cache.holdsVersion header77 = true ∧
    (linked u).cache.holdsVersion header77 = false ∧ takeFrom (.commitDone .cacheFull) [.commitDone .cacheFull] = some [] ∧
    held.commitOutstanding = true ∧ held.state = .handoff ∧ held.tableHeld = true ∧ held.staged = some header77 ∧
    (GuideReceiver.cleared true true).commitOutstanding = true ∧ (GuideReceiver.cleared true true).state ≠ .handoff ∧
    (hand booted .console (.linkReset .console)).handed .console (.linkReset .console) = true := by decide +kernel

/-- A directory whose 32 entries all hold another service's record. -/
def fullDirectory : Vector (Option Entry) 32 :=
  Vector.ofFn fun i : Fin 32 => some { entry77 with service := BitVec.ofNat 16 (i.val + 100) }

/-- A directory whose store is full: service 100 holds 384 records. -/
def fullStore : Vector (Option Entry) 32 :=
  put GuideCache.empty.directory 0 (some { entry77 with service := 100, records := List.replicate 384 event6001 })

theorem witness_fullDirectory (i : Fin 32) :
    ∃ e : Entry, fullDirectory[i] = some e ∧ e.service ≠ table8.service ∧ e.records ≠ [] :=
  ⟨{ entry77 with service := BitVec.ofNat 16 (i.val + 100) }, by revert i; decide +kernel⟩

theorem witness_CommitsReplaceWhatTheirReachTouches :
    let c : Commit := { table := table8, present := some { day := 900, minute := 1200 } }
    let s := guided.withCache { guide with inFlight := some c }
    takeFrom (.commit table8) [.commit table8] = some [] ∧ s.cache.inFlight = some c ∧ s.cache.heldMinute = false ∧
    entryForCommit s.cache.directory 77 = some 4 ∧
    (storedRecords (withoutReplaced table8 s.cache.directory)).length + table8.records.length ≤ 384 ∧
    (evict c.present (shortfall table8 (withoutReplaced table8 s.cache.directory))
      (withoutReplaced table8 s.cache.directory)).isSome = true ∧ entryForCommit fullStore 77 = some 1 := by decide +kernel

theorem witness_CommitsReplaceWhatTheirReachTouches_full :
    let cut := withoutReplaced table8 fullStore
    384 < (storedRecords cut).length + table8.records.length ∧ (storedRecords cut).length ≤ 384 ∧
    (evict none (shortfall table8 cut) cut).isNone = true ∧
    (evict (some { day := 900, minute := 1200 }) (shortfall table8 cut) cut).isSome = true := by decide +kernel

/-- The entry a commit takes: its service's own, the lowest that is UNUSED, the lowest without records. -/
theorem witness_CommitsReplaceWhatTheirReachTouches_entry :
    let spent := put fullDirectory 5 (some { entry77 with service := 105, records := [] })
    guide.directory[(4 : Fin 32)] = some entry77 ∧ (∀ j < (4 : Fin 32), guide.directory[j] = none) ∧
    (∀ j : Fin 32, (fullStore[j].all fun e => e.service ≠ 77) = true) ∧ fullStore[(1 : Fin 32)] = none ∧
    (∀ j < (1 : Fin 32), fullStore[j] ≠ none) ∧ (∀ j : Fin 32, spent[j] ≠ none) ∧
    (∀ j : Fin 32, (spent[j].all fun e => e.service ≠ 77) = true) ∧ entryForCommit spent 77 = some 5 := by decide +kernel

/-- The next record to leave: with all ends equal, the first of the lowest entry. -/
theorem witness_CommitsReplaceWhatTheirReachTouches_evicted :
    let m : MinuteTime := { day := 900, minute := 1200 }
    let e : Entry := { entry77 with service := 100, records := List.replicate 384 event6001 }
    fullStore[(0 : Fin 32)] = some e ∧ e.records[0]? = some event6001 ∧
    minutesAhead (recordEnd event6001) m < halfMinutes ∧
    ∀ (j : Fin 32) (z : Entry) (l : Nat) (v : EventRecord), fullStore[j] = some z → z.records[l]? = some v →
      v = event6001 ∧ j = 0 := by
  refine ⟨by decide +kernel, by decide +kernel, by decide +kernel, fun j z l v hz hv => ?_⟩
  have only : ∀ j : Fin 32, j = 0 ∨ fullStore[j] = none := by decide +kernel
  rcases only j with h | h
  · subst h
    have first : fullStore[(0 : Fin 32)] = some { entry77 with service := 100, records := List.replicate 384 event6001 } := by
      decide +kernel
    rw [first] at hz
    cases hz
    exact ⟨List.eq_of_mem_replicate (List.mem_of_getElem? hv), rfl⟩
  · rw [h] at hz; cases hz

theorem witness_MinutesFindCurrentEventsAnew :
    let c : Commit := { table := table8, present := some { day := 900, minute := 1200 } }
    let s := guided.withCache { guide with inFlight := some c, heldMinute := true }
    takeFrom .minute [.minute] = some [] ∧ s.cache.inFlight ≠ none ∧ guided.cache.inFlight = none ∧
    s.cache.inFlight = some c ∧ s.cache.heldMinute = true := by decide +kernel

theorem witness_LookupsFindTheServicesRecords :
    (hand guided .relay (.readEvent .relay 77 (some (900, 1439)))).handed .relay (.readEvent .relay 77 (some (900, 1439))) = true ∧
    1440 ≤ (1440 : Half).toNat ∧ (1439 : Half).toNat < 1440 ∧ (77 : Half) ≠ 0 ∧
    ((guided.cache.entryFor 77).bind fun e => e.records.find? fun x => covers x { day := 900, minute := 1439 }) =
      some (event 6003 1265 175 7) ∧
    ((guided.cache.entryFor 77).bind fun e => e.records.find? fun x => covers x { day := 901, minute := 0 }) = none ∧
    (hand guided .relay (.listEvents .relay 77 900 1439)).handed .relay (.listEvents .relay 77 900 1439) = true ∧
    guided.cache.entryFor 12 = none ∧ guided.cache.entryFor 77 = some entry77 := by decide +kernel

/-- PANEL's write, with a frame in the given phase. -/
def framing (p : Phase) (length : Nat) (body : List Byte) : State :=
  booted.withPort { booted.port with
    bus := .write .panel
    frames := booted.port.frames.set .panel (some { phase := p, code := some 0x24, length := some length, body := body, check := 0 }) }

theorem witness_BytesFillTheRequestFrame :
    (portAt .address).awake = true ∧ (portAt .address).port.bus = .address ∧ State.reset.port.silent = true ∧
    (portAt .address).port.silent = false ∧ (0x65 : Byte).toNat / 2 = (portAt .address).port.base + roleOffset .relay ∧
    (0x65 : Byte).toNat % 2 = 1 ∧ (0x60 : Byte).toNat / 2 = (portAt .address).port.base + roleOffset .console ∧
    (0x60 : Byte).toNat % 2 = 0 ∧ (∀ r : Fin 3, (0x66 : Byte).toNat / 2 ≠ (portAt .address).port.base + r.val) ∧
    (framing .code 0 []).port.bus = .write .panel ∧
    ((framing .code 0 []).port.frames.get .panel).map (fun f => f.phase) = some .code ∧
    (hand (framing .code 0 []) .panel (.readClock .panel)).exchange .panel = .inFlight (some (.readClock .panel)) ∧
    (framing .code 0 []).exchange .panel = .noResponse ∧ 48 < (49 : Byte).toNat ∧ (48 : Byte).toNat ≤ 48 ∧
    ((framing .length 0 []).port.frames.get .panel).map (fun f => f.phase) = some .length ∧
    ((framing .body 2 [1]).port.frames.get .panel).map (fun f => f.phase) = some .body ∧
    ((framing .check 2 [1, 2]).port.frames.get .panel).map (fun f => (f.phase, f.check)) = some (.check, 0) := by decide +kernel

theorem witness_WholeFrameBecomesTheRequest :
    let s := portAt .free
    s.awake = true ∧ s.port.bus = .free ∧ s.port.silent = false ∧ s.port.base + 2 < 128 ∧ s.exchange .relay = .noResponse ∧
    (List.replicate 48 (0 : Byte)).length ≤ 48 := by decide +kernel

theorem witness_HeldResponsesAreReadToTheEnd :
    let s := (portAt .free).place .relay (.ok [1])
    s.awake = true ∧ s.port.bus = .free ∧ s.port.silent = false ∧ s.port.base + 2 < 128 ∧ s.exchange .relay = .held (.ok [1]) ∧
    4 ≤ ([resultByte .ok, byteOf 1] ++ [(1 : Byte)] ++ [crc8 [0x65, 0, 1, 1]]).length := by decide +kernel

theorem witness_BusFaultsAreCountedForTheirRole :
    (portAt .free).awake = true ∧ busRole (portAt .free).port.bus = none ∧ (portAt (.read .relay)).port.bus = .read .relay ∧
    (portAt (.write .relay)).port.bus = .write .relay ∧ frameBegun ((framing .length 0 []).port.frames.get .panel) = true ∧
    frameBegun ((portAt (.write .relay)).port.frames.get .relay) = false ∧
    busRole (portAt (.read .relay)).port.bus = some .relay ∧ (portAt (.read .relay)).port.sending = none := by decide +kernel

theorem witness_PortCountsAreClearedAndResetIsSilent :
    (hand booted .relay (.readPortCounts .relay)).handed .relay (.readPortCounts .relay) = true ∧
    (hand (portAt (.read .relay)) .console (.reset .console)).handed .console (.reset .console) = true ∧
    busRole (portAt (.read .relay)).port.bus = some .relay ∧ busRole booted.port.bus = none := by decide +kernel

theorem witness_NoticesArePendingUntilTheyAreRead :
    takeFrom (.notice .screen .screen .every 15) [.notice .screen .screen .every 15] = some [] ∧
    concerns (.only .relay) .relay = true ∧ concerns (.only .relay) .panel = false ∧
    (hand booted .relay (.getNotices .relay)).handed .relay (.getNotices .relay) = true ∧
    (hand booted .relay (.setNoticeMask .relay 63)).handed .relay (.setNoticeMask .relay 63) = true ∧
    (63 : Byte).toNat < 64 ∧ 64 ≤ (64 : Byte).toNat := by decide +kernel

theorem witness_LinesGiveMarksAndTheStandbyLevel :
    booted.awake = true ∧ booted.store.state ≠ .loading ∧ booted.signal.lines[(3 : Fin 4)].level = false ∧
    booted.signal.lines[(3 : Fin 4)].level ≠ true ∧
    (hand booted .console (.setLineFunction .console 3 1 3 1)).handed .console (.setLineFunction .console 3 1 3 1) = true ∧
    4 ≤ (4 : Byte).toNat ∧ lineFunctionOf 3 0xFF = none ∧ lineFunctionOf 1 4 = none ∧ 2 ≤ (2 : Byte).toNat ∧
    (3 : Byte).toNat = (3 : Fin 4).val ∧ lineFunctionOf 1 3 = some (.boundary 3) ∧ (1 : Byte).toNat < 2 := by decide +kernel

theorem witness_MarksSettleIntoACommit :
    let s := stored fun t => { t with snapshotTimer := some 0, settle := some 0 }
    takeFrom (.dirtyMark .metering true) [.dirtyMark .metering true] = some [] ∧ State.reset.store.state = .loading ∧
    s.store.state ≠ .loading ∧ s.store.underWay = .nothing ∧ (writing .first).store.state = .writing ∧
    (stored fun t => { t with underWay := .reset }).store.underWay = .reset ∧ s.store.state = .idle ∧
    (stored fun t => { t with underWay := .factoryClear 65535 .waiting }).store.underWay = .factoryClear 65535 .waiting ∧
    takeFrom .accountActivity [.accountActivity] = some [] ∧ s.store.snapshotTimer ≠ none ∧
    booted.store.snapshotTimer = none ∧ State.reset.store.snapshotTimer = none ∧ s.store.snapshotTimer = some 0 ∧
    s.store.activity = false ∧ (stored fun t => { t with activity := true }).store.activity = true ∧
    s.store.settle = some 0 ∧ s.store.dirty = true ∧ (stored fun t => { t with dirty := false }).store.dirty = false := by
  decide +kernel

theorem witness_WriteAttemptsEndIdleRetriedOrFailed :
    (writing .first).store.state = .writing ∧ (writing .first).store.snapshot = some image7 ∧
    (writing .first).store.attempt = some .first ∧ (writing .retry).store.attempt = some .retry := by decide +kernel

theorem witness_SoftResetsWriteBeforeTheyLoad :
    takeFrom .softReset [.softReset] = some [] ∧ (stored fun t => { t with state := .failed }).store.state = .failed ∧
    booted.store.state = .idle ∧ booted.store.dirty = true ∧ (stored fun t => { t with dirty := false }).store.dirty = false ∧
    (writing .retry).store.state = .writing ∧
    (hand booted .console (.factoryClear .console)).handed .console (.factoryClear .console) = true ∧
    booted.authority .console ≠ none := by decide +kernel

theorem witness_LoadsBeginWithVolatileStateCleared :
    (booted.withResetHeld true).resetHeld = true ∧ booted.awake = true ∧
    (stored fun t => { t with underWay := .reset, dirty := false }).store.underWay = .reset ∧
    (stored fun t => { t with underWay := .reset, dirty := false }).store.state = .idle ∧
    (stored fun t => { t with underWay := .reset, dirty := false }).store.dirty = false ∧
    (stored fun t => { t with underWay := .factoryClear 7 .written }).store.underWay = .factoryClear 7 .written ∧
    (let u := { family.metering with override := some .free }
     u.accounts[(2 : Slot)] = some (kidAccount 0) ∧ u.running = true ∧ u.softLoadBegins.today ≠ u.today ∧
     booted.metering.softLoadBegins.today = booted.metering.today ∧ booted.metering.running = false) := by
  decide +kernel

theorem witness_LoadsEndWithTheImageOrFactoryContent :
    (State.reset.awake = true ∧ State.reset.store.state = .loading ∧ State.reset.store.image = .blank ∧
    (State.reset.withStore { State.reset.store with image := .whole (sealed (factoryContent 65535)) }).store.image =
      .whole (sealed (factoryContent 65535)) ∧ imageValid (sealed (factoryContent 65535)) = true) ∧
    State.reset.store.rolloverUnsaved = false ∧ State.reset.store.hardLoad = true ∧
    (factoryContent 65535).accounts[(0 : Slot)] ≠ none ∧ childOf (factoryContent 65535).table[(0 : Slot)] ≠ none :=
  ⟨⟨rfl, rfl, rfl, rfl, imageValid_sealed (contentValid_factory (by decide))⟩, rfl, rfl, by decide +kernel, by decide +kernel⟩

theorem witness_LoadsEndWithTheImageOrFactoryContent_unverified :
    let holding := fun v : Nonvolatile => State.reset.withStore { State.reset.store with image := v }
    let bad : Image := { sealed (factoryContent 7) with formatMark := false }
    (holding .torn).store.image = .torn ∧ imageValid bad = false ∧ (holding (.whole bad)).store.image = .whole bad ∧
    (holding (.factoryFailed (sealed (factoryContent 7)))).store.image = .factoryFailed (sealed (factoryContent 7)) ∧
    (holding .lost).store.image = .lost ∧ imageValid (sealed (factoryContent 7)) = true ∧
    State.reset.store.hardLoad = true ∧ (booted.softLoadBegins 0).store.hardLoad = false ∧
    (State.reset.withStore { State.reset.store with rolloverUnsaved := true }).store.rolloverUnsaved = true :=
  ⟨rfl, rfl, rfl, rfl, rfl, imageValid_sealed (contentValid_factory (by decide)), rfl, rfl, rfl⟩

/-- The child viewing, with passes and the guide: a state for the invariants. -/
def busy : State := (passed viewing).withCache guide

theorem witness_EveryStepKeepsTheProfilesSound :
    busy.tableSound ∧ busy.lockoutsSound ∧ step busy = .next busy.period := by
  unfold State.tableSound State.lockoutsSound
  exact ⟨by decide +kernel, by decide +kernel, rfl⟩

theorem accountsSound_of_all {s : State}
    (h : ∀ p : Slot, (s.metering.accounts[p].all fun a => decide (a.bonus ≤ a.terms.bonusCap * 60 ∧ a.overrun ≤ 86400 ∧
      a.curfewWarned.length = a.terms.windows.length)) = true) : s.accountsSound := by
  intro p a e
  have x := h p
  rw [e] at x
  simpa [accountSound] using x

theorem witness_EveryStepKeepsTheClockAndAccountsSound :
    busy.clockSound ∧ busy.accountsSound ∧ step busy = .next busy.period := by
  unfold State.clockSound
  exact ⟨by decide +kernel, accountsSound_of_all (by decide +kernel), rfl⟩

theorem witness_EveryStepKeepsTheScreensSound : busy.screensSound ∧ step busy = .next busy.period := by
  unfold State.screensSound screenSound
  exact ⟨by decide +kernel, rfl⟩

theorem busy_portSound : busy.portSound := by
  have bus : busy.port.bus = .ignore := by decide +kernel
  have state : busy.store.state ≠ .loading := by decide +kernel
  refine ⟨?_, by decide +kernel, fun h => absurd h state, fun h => absurd h state⟩
  intro r; cases r <;> decide +kernel

theorem witness_EveryStepKeepsSeatsWithinLimits : busy.seatingSound ∧ step busy = .next busy.period := by
  have seats : ∀ p : Slot, (commonOf busy.profiles.table[p]).all (fun c => decide (busy.liveSeats p ≤ c.seatLimit)) = true := by
    decide +kernel
  refine ⟨⟨by unfold State.tableSound; decide +kernel, busy_portSound, ?_, by decide +kernel, ?_⟩, rfl⟩
  · intro h; exact absurd h (by decide +kernel)
  · intro p c e
    have x := seats p
    rw [e] at x
    simpa using x

theorem witness_EveryStepKeepsThePassesSound : busy.passesSound ∧ step busy = .next busy.period := by
  unfold State.passesSound
  exact ⟨by decide +kernel, rfl⟩

theorem witness_EveryStepKeepsTheGuideWithinItsSizes :
    busy.receiverSound ∧ busy.linkCountsSound ∧ busy.cacheSound ∧ step busy = .next busy.period := by
  have four : ∀ i : Fin 32, busy.cache.directory[i].isSome = true → i = 4 := by decide +kernel
  refine ⟨by unfold State.receiverSound; decide +kernel, by unfold State.linkCountsSound; decide +kernel,
    ⟨by decide +kernel, ?_⟩, rfl⟩
  intro i j a b hi hj _
  rw [four i (by rw [hi]; rfl), four j (by rw [hj]; rfl)]

theorem witness_EveryStepKeepsPortNoticesAndStoreSound :
    busy.portSound ∧ busy.portCountsSound ∧ busy.noticesSound ∧ busy.storeSound ∧ step busy = .next busy.period := by
  refine ⟨busy_portSound, ?_, ?_, ?_, rfl⟩
  · intro r; cases r <;> decide +kernel
  · intro r; cases r <;> decide +kernel
  · have away : busy.store.underWay = .nothing := by decide +kernel
    have kept : busy.store.image = .blank := by decide +kernel
    exact ⟨by decide +kernel, by decide +kernel, by decide +kernel, fun _ h => by simp [away] at h,
      fun _ h => by simp [kept] at h⟩

end Sys2Proof.Tests
end

section
/-! PROOFS. PIN checks and the content verdict (01 R6, R9, R21, 03 R60). The first part says once what a PIN check, a
VERIFY_PIN and the reading and judging of a screen's content do; the theorems at its end settle O9, O10 and O22. -/

namespace Sys2Proof.Machine

/-! ### Operands that name a slot -/

/-- A byte that is the number of a slot names it. -/
theorem slotOf_eq_some {b : Byte} {p : Slot} (h : b.toNat = p.val) : slotOf b = some p := by
  simp [slotOf, h]

/-- A byte of 8 or more names no slot. -/
theorem slotOf_eq_none {b : Byte} (h : 8 ≤ b.toNat) : slotOf b = none := by
  simp [slotOf, Nat.not_lt.mpr h]

/-! ### The PIN check (R9): one equation for each way it ends -/

/-- The part's PIN check is the Profile Unit's, with the AUTHORITY notice of a lockout that begins. -/
theorem State.pinCheck_eq {s : State} {p : Slot} {pin : Option (List (Fin 10))} {u : ProfileUnit}
    {outcome : PinOutcome} {locks : Bool} (h : s.profiles.pinCheck p pin = (u, outcome, locks)) :
    s.pinCheck p pin =
      ((s.withProfiles u).sendAll (if locks then [.notice .profile .authority .every 0] else []), outcome) := by
  rw [State.pinCheck, h, State.raiseIf_eq]

theorem State.pinCheck_of_locked {s : State} {p : Slot} (locked : s.profiles.lockouts[p] ≠ none)
    (pin : Option (List (Fin 10))) : s.pinCheck p pin = (s, .lockedOut) := by
  have unit : s.profiles.pinCheck p pin = (s.profiles, .lockedOut, false) :=
    if_pos (Option.isSome_iff_ne_none.mpr locked)
  simp [State.pinCheck_eq unit]

theorem State.pinCheck_of_absent {s : State} {p : Slot} (free : s.profiles.lockouts[p] = none) :
    s.pinCheck p none = (s, .badPin) := by
  have unit : s.profiles.pinCheck p none = (s.profiles, .badPin, false) := by
    rw [ProfileUnit.pinCheck, free]; rfl
  simp [State.pinCheck_eq unit]

theorem State.pinCheck_of_right {s : State} {p : Slot} {digits : List (Fin 10)}
    (free : s.profiles.lockouts[p] = none) (right : pinHeld s.profiles.table[p] = some digits) :
    s.pinCheck p (some digits) =
      (s.withProfiles { s.profiles with failures := put s.profiles.failures p 0 }, .correct) := by
  have unit : s.profiles.pinCheck p (some digits) =
      ({ s.profiles with failures := put s.profiles.failures p 0 }, .correct, false) := by
    rw [ProfileUnit.pinCheck, free]; exact if_pos right
  simp [State.pinCheck_eq unit]

theorem State.pinCheck_of_wrong {s : State} {p : Slot} {digits : List (Fin 10)}
    (free : s.profiles.lockouts[p] = none) (wrong : pinHeld s.profiles.table[p] ≠ some digits)
    (early : s.profiles.failures[p] + 1 < 5) :
    s.pinCheck p (some digits) =
      (s.withProfiles { s.profiles with failures := put s.profiles.failures p (s.profiles.failures[p] + 1) },
        .badPin) := by
  have unit : s.profiles.pinCheck p (some digits) =
      ({ s.profiles with failures := put s.profiles.failures p (s.profiles.failures[p] + 1) }, .badPin, false) := by
    rw [ProfileUnit.pinCheck, free]; exact (if_neg wrong).trans (if_pos early)
  simp [State.pinCheck_eq unit]

theorem State.pinCheck_of_fifth_wrong {s : State} {p : Slot} {digits : List (Fin 10)}
    (free : s.profiles.lockouts[p] = none) (wrong : pinHeld s.profiles.table[p] ≠ some digits)
    (fifth : 5 ≤ s.profiles.failures[p] + 1) :
    s.pinCheck p (some digits) =
      ((s.withProfiles { s.profiles with
          failures := put s.profiles.failures p 5
          lockouts := put s.profiles.lockouts p (some s.profiles.household.lockoutLength) }).sendAll
        [.notice .profile .authority .every 0], .lockedOut) := by
  have unit : s.profiles.pinCheck p (some digits) =
      ({ s.profiles with
          failures := put s.profiles.failures p 5
          lockouts := put s.profiles.lockouts p (some s.profiles.household.lockoutLength) }, .lockedOut, true) := by
    rw [ProfileUnit.pinCheck, free]; exact (if_neg wrong).trans (if_neg (Nat.not_lt.mpr fifth))
  simp [State.pinCheck_eq unit]

/-- What a PIN check leaves unchanged in the Profile Unit: it moves counters and lockout timers only. -/
theorem State.pinCheck_frame (s : State) (p : Slot) (pin : Option (List (Fin 10))) :
    (s.pinCheck p pin).1.profiles.table = s.profiles.table ∧
    (s.pinCheck p pin).1.profiles.household = s.profiles.household := by
  by_cases free : s.profiles.lockouts[p] = none
  case neg => simp [State.pinCheck_of_locked free]
  cases pin with
  | none => simp [State.pinCheck_of_absent free]
  | some digits =>
    by_cases right : pinHeld s.profiles.table[p] = some digits
    case pos => simp [State.pinCheck_of_right free right]
    by_cases early : s.profiles.failures[p] + 1 < 5
    case pos => simp [State.pinCheck_of_wrong free right early]
    case neg => simp [State.pinCheck_of_fifth_wrong free right (Nat.le_of_not_lt early)]

/-- Settles O9: the five equations of the PIN check. -/
theorem pinChecksCountAndLock : Obligations.PinChecksCountAndLock := by
  intro p s
  refine ⟨fun pin locked => State.pinCheck_of_locked locked pin, fun free =>
    ⟨State.pinCheck_of_absent free, fun digits => ⟨?_, ?_, ?_⟩⟩⟩
  · exact State.pinCheck_of_right free
  · exact State.pinCheck_of_wrong free
  · exact State.pinCheck_of_fifth_wrong free

/-! ### VERIFY_PIN (R21): its checks in order -/

section VerifyPin

variable {r : Role} {slot : Byte} {pin : RawPin} {s : State}

/-- VERIFY_PIN is taken when it has been handed on. -/
theorem exec_verifyPin (r : Role) (slot : Byte) (pin : RawPin) (s : State) :
    exec (.verifyPin r slot pin) s = execVerifyPin r slot pin s := rfl

theorem exec_verifyPin_of_illFormed (taken : s.handed r (.verifyPin r slot pin) = true)
    (bad : slotOf slot = none ∨ pinOf pin = none) :
    exec (.verifyPin r slot pin) s = .next (s.place r (.bare .badValue)) := by
  rw [exec_verifyPin, execVerifyPin, onRequest_handed taken]
  split
  case h_1 hslot hpin => simp [hslot, hpin] at bad
  case h_2 => rfl

/-- R21 for operands in range: EMPTY, then no PIN, then the PIN check. -/
theorem exec_verifyPin_of_wellFormed (taken : s.handed r (.verifyPin r slot pin) = true) {p : Slot}
    {digits : List (Fin 10)} (hslot : slotOf slot = some p) (hpin : pinOf pin = some digits) :
    exec (.verifyPin r slot pin) s =
      if s.profiles.table[p] = .empty then .next (s.place r (.bare .notFound))
      else if pinHeld s.profiles.table[p] = none then .next (s.place r (.bare .badValue))
      else .next ((verified r p (s.pinCheck p (some digits))).1.place r
        (verified r p (s.pinCheck p (some digits))).2) := by
  rw [exec_verifyPin, execVerifyPin, onRequest_handed taken]
  simp only [hslot, hpin]
  split
  case isTrue => rfl
  case isFalse => split <;> rfl

/-- A slot that holds a PIN is not EMPTY. -/
theorem ne_empty_of_pinHeld {q : Profile} (held : pinHeld q ≠ none) : q ≠ .empty := by
  rintro rfl
  exact held rfl

/-- R21 once the checks are passed: the answer is the one that follows the PIN check. -/
theorem exec_verifyPin_of_pinHeld (taken : s.handed r (.verifyPin r slot pin) = true) {p : Slot}
    {digits : List (Fin 10)} (hslot : slotOf slot = some p) (hpin : pinOf pin = some digits)
    (held : pinHeld s.profiles.table[p] ≠ none) :
    exec (.verifyPin r slot pin) s = .next ((verified r p (s.pinCheck p (some digits))).1.place r
      (verified r p (s.pinCheck p (some digits))).2) := by
  rw [exec_verifyPin_of_wellFormed taken hslot hpin, if_neg (ne_empty_of_pinHeld held), if_neg held]

/-- The right PIN of a profile that is not ADULT opens no window. -/
theorem verified_correct_of_not_adult {t : State} {p : Slot} (child : isAdult t.profiles.table[p] = false) :
    verified r p (t, .correct) = (t, .ok [0, 0]) := by
  simp only [verified, child, Bool.false_eq_true, if_false]
  rfl

/-- The right PIN of an ADULT opens the requesting role's window (R12). -/
theorem verified_correct_of_adult {t : State} {p : Slot} (adult : isAdult t.profiles.table[p] = true) :
    verified r p (t, .correct) =
      ((t.withProfiles { t.profiles with
          windows := t.profiles.windows.set r
            (some { opener := p, seconds := t.profiles.household.authorityLength }) }).sendAll
        [.notice .profile .authority .every 0], .ok (le2 t.profiles.household.authorityLength)) := by
  simp only [verified, adult, if_true, State.openWindow, State.raise_eq]

end VerifyPin

/-- Settles O10: the checks by the equations of VERIFY_PIN, the outcomes by those of `verified`; the PIN check changes
neither the record nor the household's authority length. -/
theorem verifyPinChecksAndOpensTheWindow : Obligations.VerifyPinChecksAndOpensTheWindow := by
  intro r slot pin s taken
  refine ⟨fun bad => exec_verifyPin_of_illFormed taken (bad.imp_left slotOf_eq_none), ?_⟩
  intro p digits slotIs hpin
  have hslot := slotOf_eq_some slotIs
  refine ⟨fun empty => ?_, fun kept noPin => ?_, fun held t outcome checked => ?_⟩
  · rw [exec_verifyPin_of_wellFormed taken hslot hpin, if_pos empty]
  · rw [exec_verifyPin_of_wellFormed taken hslot hpin, if_neg kept, if_pos noPin]
  obtain ⟨sameTable, sameHousehold⟩ := s.pinCheck_frame p (some digits)
  rw [checked] at sameTable sameHousehold
  rw [exec_verifyPin_of_pinHeld taken hslot hpin held, checked]
  refine ⟨?badPin, ?lockedOut, ?child, ?adult⟩
  case badPin => rintro rfl; rfl
  case lockedOut => rintro rfl; rfl
  case child =>
    rintro rfl child
    rw [← sameTable] at child
    rw [verified_correct_of_not_adult child]
  case adult =>
    rintro rfl adult
    rw [← sameTable] at adult
    rw [verified_correct_of_adult adult, sameHousehold]

/-! ### The content part of a test: what it reads (R60) -/

/-- A broadcast screen's copy is refreshed from the cache. -/
theorem refreshed_of_broadcast (c : GuideCache) {x : Screen} {v : Half} (on : x.service = some v) (nonzero : v ≠ 0) :
    refreshed c x = { x with event := c.currentOf v } := by
  simp only [refreshed, on, if_neg nonzero]

/-- Any other screen is left as it is. -/
theorem refreshed_of_not_broadcast (c : GuideCache) {x : Screen} (h : x.service = none ∨ x.service = some 0) :
    refreshed c x = x := by
  rcases h with h | h <;> simp [refreshed, h]

/-- Refreshing changes the copy only. -/
theorem refreshed_eq (c : GuideCache) (x : Screen) : ∃ e, refreshed c x = { x with event := e } := by
  unfold refreshed
  split
  · split
    · exact ⟨x.event, rfl⟩
    · exact ⟨_, rfl⟩
  · exact ⟨x.event, rfl⟩

/-- R88: a held CONTENT pass for the screen and the content's identity covers it. -/
theorem PassList.covers_iff (l : PassList) (n : ScreenNo) (identity : Option ContentId) :
    l.covers n identity = true ↔ ∃ p ∈ l.held, ∃ c : ContentId, identity = some c ∧ p.scope = .content n c := by
  cases identity <;> simp [PassList.covers]

/-- The step may be given from the record as read: a record's rating does not depend on its step or override. -/
theorem State.contentRead_step (s : State) (n : ScreenNo) (noPass : Bool) :
    (s.contentRead n noPass).step = resolve s.profiles.maps (contentRating (s.contentRead n noPass)) := rfl

/-- The override likewise: a record's identity does not depend on its step or override. -/
theorem State.contentRead_override (s : State) (n : ScreenNo) (noPass : Bool) :
    (s.contentRead n noPass).override = (!noPass && s.passes.covers n (identityOf (s.contentRead n noPass))) := rfl

theorem State.contentRead_event (s : State) (n : ScreenNo) (noPass : Bool) :
    (s.contentRead n noPass).event = (refreshed s.cache s.screens.cells[n]).event := rfl

/-- R60: reading the content replaces the copy, the step and the override of the record, and nothing else. -/
theorem State.contentRead_eq (s : State) (n : ScreenNo) (noPass : Bool) :
    ∃ e k o, s.contentRead n noPass = { s.screens.cells[n] with event := e, step := k, override := o } := by
  obtain ⟨e, he⟩ := refreshed_eq s.cache s.screens.cells[n]
  exact ⟨e, _, _, by rw [State.contentRead, he]⟩

/-! ### The content verdict (R6) and the judgement (R60) -/

/-- Table 1-3: the compared step is the resolved one, or that of the unrated policy. -/
theorem aboveCeiling_comparedStep_iff (ceiling : Fin 16) (policy : UnratedPolicy) (step : Option (Fin 16)) :
    aboveCeiling ceiling (comparedStep policy step) = true ↔
      (∃ k : Fin 16, step = some k ∧ ceiling < k) ∨
      (∃ k : Fin 16, step = none ∧ policy = .step k ∧ ceiling < k) := by
  cases step with
  | some k => simp [comparedStep, aboveCeiling]
  | none => cases policy <;> simp [comparedStep, aboveCeiling]

section Verdict

variable {c : CommonPart} {step : Option (Fin 16)} {flags : Option FlagSet}

theorem verdict_of_blocked_unrated (unrated : step = none) (block : c.unrated = .block) :
    verdict c step flags = .unrated := by
  simp [verdict, unrated, block]

theorem verdict_of_above (judged : step = none → c.unrated ≠ .block)
    (above : aboveCeiling c.ceiling (comparedStep c.unrated step) = true) : verdict c step flags = .rating := by
  simp [verdict, not_and.mpr judged, above]

theorem verdict_of_flags (judged : step = none → c.unrated ≠ .block)
    (within : ¬ aboveCeiling c.ceiling (comparedStep c.unrated step) = true)
    (bears : flags.getD 0 &&& c.blocked ≠ 0) : verdict c step flags = .flags := by
  simp only [verdict, if_neg (not_and.mpr judged), if_neg within, if_pos bears]

theorem verdict_of_pass (judged : step = none → c.unrated ≠ .block)
    (within : ¬ aboveCeiling c.ceiling (comparedStep c.unrated step) = true)
    (clear : ¬ flags.getD 0 &&& c.blocked ≠ 0) : verdict c step flags = .pass := by
  simp only [verdict, if_neg (not_and.mpr judged), if_neg within, if_neg clear]

end Verdict

/-- Content covered by a pass goes on to the time part. -/
theorem State.judge_of_override (s : State) {x : Screen} {p : Slot} (seat : x.seat = p)
    (covered : x.override = true) : s.judge x = timeJudgement s.profiles.table s.metering p := by
  simp [State.judge, covered, seat]

/-- Other content is judged by the seated profile's verdict. -/
theorem State.judge_of_verdict (s : State) {x : Screen} {p : Slot} {c : CommonPart} {v : Verdict} (seat : x.seat = p)
    (uncovered : x.override = false) (seated : commonOf s.profiles.table[p] = some c)
    (hv : verdict c x.step (contentFlags x) = v) :
    s.judge x = ((refusalOf v).map .refused).getD (timeJudgement s.profiles.table s.metering p) := by
  subst seat hv
  simp only [State.judge, uncovered, contentRefusal, seated, Bool.false_eq_true, if_false]
  cases refusalOf (verdict c x.step (contentFlags x)) <;> rfl

/-- Settles O22: the record by what reading the content does, the judgement by the verdict's four cases. -/
theorem contentPartReadsGuideMapsAndPasses : Obligations.ContentPartReadsGuideMapsAndPasses := by
  intro s n noPass x y
  obtain ⟨e, k, o, hy⟩ : ∃ e k o, y = { x with event := e, step := k, override := o } := s.contentRead_eq n noPass
  have seat : y.seat = x.seat := by rw [hy]
  refine ⟨fun v on nonzero => ?_, fun off => ?_, by rw [hy], by rw [hy], seat, by rw [hy], by rw [hy], by rw [hy],
    by rw [hy], by rw [hy], s.contentRead_step n noPass, ?_, fun covered => ?_, fun uncovered c seated => ⟨?_, ?_⟩⟩
  · rw [s.contentRead_event n noPass, refreshed_of_broadcast s.cache on nonzero]
  · rw [s.contentRead_event n noPass, refreshed_of_not_broadcast s.cache off]
  · rw [s.contentRead_override n noPass, Bool.and_eq_true, Bool.not_eq_true', PassList.covers_iff]
  · exact s.judge_of_override seat covered
  · intro unrated block
    exact s.judge_of_verdict seat uncovered seated (verdict_of_blocked_unrated unrated block)
  · intro judged above bears
    have hAbove : above ↔ aboveCeiling c.ceiling (comparedStep c.unrated y.step) = true :=
      (aboveCeiling_comparedStep_iff c.ceiling c.unrated y.step).symm
    rw [hAbove]
    refine ⟨fun exceeds => ?_, fun within bearing => ?_, fun within clear => ?_⟩
    · exact s.judge_of_verdict seat uncovered seated (verdict_of_above judged exceeds)
    · exact s.judge_of_verdict seat uncovered seated (verdict_of_flags judged within bearing)
    · exact s.judge_of_verdict seat uncovered seated (verdict_of_pass judged within clear)

end Sys2Proof.Machine
end

section
/-! PROOFS. Requests, messages and expiries that change one screen (03 R67, R69, R71, R72, R81, R84). The first part says once
what naming a screen, the SCREEN notice of an act, darkening a screen and ending a CLOSING screen do; the theorems at its end
settle O26 and O29. -/

namespace Sys2Proof.Machine

/-! ### Operands that name a screen -/

/-- A byte that is the number of a screen names it. -/
theorem screenOf_eq_some {b : Byte} {n : ScreenNo} (h : b.toNat = n.val) : screenOf b = some n := by
  simp [screenOf, h]

/-- A byte of 4 or more names no screen. -/
theorem screenOf_eq_none {b : Byte} (h : 4 ≤ b.toNat) : screenOf b = none := by
  simp [screenOf, Nat.not_lt.mpr h]

section OnScreen

variable {i : Instr} {r : Role} {n : Byte} {s : State}

/-- BAD_VALUE comes first among the checks of a request that names a screen. -/
theorem onRequest_onScreen_of_outOfRange (taken : s.handed r i = true) (outOfRange : 4 ≤ n.toNat)
    (permitted : Screen → Bool) (act : State → ScreenNo → State × Answer) :
    onRequest i r s (fun s => onScreen n permitted s (act s)) = .next (s.place r (.bare .badValue)) := by
  simp only [onRequest_handed taken, onScreen, screenOf_eq_none outOfRange, refuse]

/-- NOT_PERMITTED comes second. -/
theorem onRequest_onScreen_of_notPermitted (taken : s.handed r i = true) {m : ScreenNo} (named : n.toNat = m.val)
    {permitted : Screen → Bool} (denied : permitted s.screens.cells[m] = false)
    (act : State → ScreenNo → State × Answer) :
    onRequest i r s (fun s => onScreen n permitted s (act s)) = .next (s.place r (.bare .notPermitted)) := by
  simp only [onRequest_handed taken, onScreen, screenOf_eq_some named, denied, Bool.false_eq_true, if_false, refuse]

/-- A request that passes both checks acts on the screen it names. -/
theorem onRequest_onScreen_of_permitted (taken : s.handed r i = true) {m : ScreenNo} (named : n.toNat = m.val)
    {permitted : Screen → Bool} (granted : permitted s.screens.cells[m] = true)
    (act : State → ScreenNo → State × Answer) :
    onRequest i r s (fun s => onScreen n permitted s (act s)) = .next (((act s m).1).place r (act s m).2) := by
  simp only [onRequest_handed taken, onScreen, screenOf_eq_some named, granted, if_true]

end OnScreen

theorem Screen.live_iff (x : Screen) : x.live = true ↔ x.state ≠ .dark := by simp [Screen.live]

theorem Screen.not_live_of_dark {x : Screen} (dark : x.state = .dark) : ¬ x.live = true :=
  fun live => x.live_iff.mp live dark

/-! ### The SCREEN notice of an act (R72) -/

@[simp] theorem screenDiffers_self (x : Screen) : screenDiffers x x = false := by simp [screenDiffers]

/-- A change of state is a change of the screen. -/
theorem screenDiffers_of_state {x y : Screen} (h : x.state ≠ y.state) : screenDiffers x y = true := by
  simp [screenDiffers, h]

/-- The set of changed screens holds exactly those that differ. -/
theorem changedScreens_getLsbD (a b : ScreenController) (n : ScreenNo) :
    (changedScreens a b).getLsbD n.val = screenDiffers a.cells[n] b.cells[n] := by
  have collected : ∀ (d : ScreenNo → Bool) (n : ScreenNo),
      (screenNumbers.foldl (fun acc m => if d m then acc ||| screenBit m else acc) (0 : ScreenSet)).getLsbD n.val = d n := by
    decide
  exact collected (fun m => screenDiffers a.cells[m] b.cells[m]) n

theorem screenBit_getLsbD (m n : ScreenNo) : (screenBit m).getLsbD n.val = decide (m = n) := by
  revert m n; decide

@[simp] theorem changedScreens_self (c : ScreenController) : changedScreens c c = 0 := by
  refine BitVec.eq_of_getLsbD_eq fun k hk => ?_
  simpa using changedScreens_getLsbD c c ⟨k, hk⟩

/-- Replacing one record by one that differs changes that screen alone. -/
theorem changedScreens_setScreen {s : State} {n : ScreenNo} {x : Screen}
    (differs : screenDiffers s.screens.cells[n] x = true) :
    changedScreens s.screens (s.setScreen n x).screens = screenBit n := by
  refine BitVec.eq_of_getLsbD_eq fun k hk => ?_
  rw [changedScreens_getLsbD s.screens (s.setScreen n x).screens ⟨k, hk⟩, screenBit_getLsbD n ⟨k, hk⟩,
    State.setScreen_cells, put_get]
  by_cases same : n = ⟨k, hk⟩
  · rw [if_pos same, ← same, differs, decide_eq_true rfl]
  · rw [if_neg same, screenDiffers_self, decide_eq_false same]

theorem screenBit_ne_zero (n : ScreenNo) : screenBit n ≠ 0 := by
  revert n; decide

/-- An act that changes no screen raises no notice. -/
theorem State.screenAct_of_unchanged {s : State} {act : State → State} (h : act s = s) : s.screenAct act = s := by
  rw [State.screenAct, h, State.tellChanges, changedScreens_self, if_pos rfl]

/-- An act that changes one screen raises, after its own messages, the notice that names it. -/
theorem State.screenAct_of_changed {s : State} {act : State → State} {n : ScreenNo} {x : Screen} {ms : List Instr}
    (h : act s = (s.setScreen n x).sendAll ms) (differs : screenDiffers s.screens.cells[n] x = true) :
    s.screenAct act = (s.setScreen n x).sendAll (ms ++ [.notice .screen .screen .every (screenBit n)]) := by
  rw [State.screenAct, h, State.tellChanges, State.sendAll_screens, changedScreens_setScreen differs,
    if_neg (screenBit_ne_zero n), State.raiseScreens_eq, State.sendAll_sendAll]

/-! ### A screen goes DARK (R69) -/

/-- The record of a live screen once it is DARK. -/
def darkenedScreen (x : Screen) : Screen :=
  { endedScreen x with
    state := .dark, reason := none, timer := none, service := none, descriptor := none, event := none
    override := false, step := none }

theorem State.darken_of_dark {s : State} {n : ScreenNo} (dark : s.screens.cells[n].state = .dark) : s.darken n = s :=
  if_neg (Screen.not_live_of_dark dark)

/-- A live screen ends its charge, if it has one, and drops its passes. -/
theorem State.darken_of_live {s : State} {n : ScreenNo} (live : s.screens.cells[n].state ≠ .dark) :
    s.darken n = (s.setScreen n (darkenedScreen s.screens.cells[n])).sendAll
      ((if s.screens.cells[n].charge = .nothing then [] else [.charge n s.screens.cells[n].seat .nothing]) ++
        [.dropScreen n]) := by
  rw [State.darken, if_pos ((Screen.live_iff _).mpr live)]
  simp [State.endCharge_eq, State.send_eq, darkenedScreen]

/-- The act of SCREEN_OFF on a DARK screen has no effect. -/
theorem State.screenAct_darken_of_dark {s : State} {n : ScreenNo} (dark : s.screens.cells[n].state = .dark) :
    (s.screenAct fun s => s.darken n) = s := State.screenAct_of_unchanged (State.darken_of_dark dark)

/-- The act of SCREEN_OFF on a live screen, with its SCREEN notice. -/
theorem State.screenAct_darken_of_live {s : State} {n : ScreenNo} (live : s.screens.cells[n].state ≠ .dark) :
    (s.screenAct fun s => s.darken n) = (s.setScreen n (darkenedScreen s.screens.cells[n])).sendAll
      ((if s.screens.cells[n].charge = .nothing then [] else [.charge n s.screens.cells[n].seat .nothing]) ++
        [.dropScreen n, .notice .screen .screen .every (screenBit n)]) := by
  have act := State.screenAct_of_changed (act := fun s => s.darken n) (State.darken_of_live live)
    (screenDiffers_of_state live)
  rwa [List.append_assoc] at act

/-! ### A CLOSING screen ends (R67) -/

/-- R59: an EXPIRED screen charges nobody, whoever is seated. -/
theorem chargeKind_expired (p : Profile) : chargeKind .expired p = .nothing := by
  unfold chargeKind
  cases childOf p <;> rfl

/-- A pair of kind NONE is reported exactly after one of another kind. -/
theorem pairDiffers_nothing (p : Slot) (last : ChargeEntry) :
    pairDiffers { profile := p, kind := .nothing } last = true ↔ last.kind ≠ .nothing := by
  rw [pairDiffers, Bool.and_eq_true, bne_iff_ne, Bool.not_eq_true']
  constructor
  · rintro ⟨-, unlike⟩ same
    simp [same] at unlike
  · intro other
    exact ⟨fun e => other (by rw [← e]), by simpa using other⟩

/-- The record of a CLOSING screen once it is EXPIRED; the reason stays. -/
def closedScreen (x : Screen) : Screen :=
  { x with
    state := .expired, timer := none, charge := .nothing
    lastPair := if x.lastPair.kind = .nothing then x.lastPair else { profile := x.seat, kind := .nothing } }

/-- The CHARGE message that ends the overrun, if one was reported. -/
def closedMessages (n : ScreenNo) (x : Screen) : List Instr :=
  if x.lastPair.kind = .nothing then [] else [.charge n x.seat .nothing]

theorem State.endClosing_of_other {s : State} {n : ScreenNo} (other : s.screens.cells[n].state ≠ .closing) :
    s.endClosing n = s := if_neg other

theorem State.endClosing_of_closing {s : State} {n : ScreenNo} (closing : s.screens.cells[n].state = .closing) :
    s.endClosing n = (s.setScreen n (closedScreen s.screens.cells[n])).sendAll
      (closedMessages n s.screens.cells[n]) := by
  rw [State.endClosing, if_pos closing, State.settleCharge_eq]
  simp [chargedScreen, chargeMessages, chargePair, Screen.become, chargeKind_expired, pairDiffers_nothing, closedScreen,
    closedMessages]

/-- R71, R67: a mark on a screen that is not CLOSING is an act without effect. -/
theorem State.screenAct_endClosing_of_other {s : State} {n : ScreenNo} (other : s.screens.cells[n].state ≠ .closing) :
    (s.screenAct fun s => s.endClosing n) = s := State.screenAct_of_unchanged (State.endClosing_of_other other)

/-- R71, R67: the end of a CLOSING screen, with its SCREEN notice. -/
theorem State.screenAct_endClosing_of_closing {s : State} {n : ScreenNo}
    (closing : s.screens.cells[n].state = .closing) :
    (s.screenAct fun s => s.endClosing n) = (s.setScreen n (closedScreen s.screens.cells[n])).sendAll
      (closedMessages n s.screens.cells[n] ++ [.notice .screen .screen .every (screenBit n)]) :=
  State.screenAct_of_changed (State.endClosing_of_closing closing)
    (screenDiffers_of_state (by rw [closing]; exact ScreenState.noConfusion))

/-! ### CONFIGURE_SCREEN (R81) -/

/-- R81 step 1: a kind of 2 or more, or a guide wait over 30, is no configuration. -/
theorem configOf_eq_none {kind wait : Byte} (bad : 2 ≤ kind.toNat ∨ 30 < wait.toNat) : configOf kind wait = none := by
  unfold configOf
  split
  case isTrue => rfl
  case isFalse short =>
    have large : 2 ≤ kind.toNat := bad.resolve_right short
    rw [if_neg (by rintro rfl; simp at large), if_neg (by rintro rfl; simp at large)]

theorem configOf_eq_some {kind wait : Byte} (hkind : kind.toNat < 2) (hwait : wait.toNat ≤ 30) :
    configOf kind wait =
      some { kind := if kind = 0 then .localKind else .remoteKind, guideWait := wait.toNat } := by
  unfold configOf
  rw [if_neg (Nat.not_lt.mpr hwait)]
  split
  case isTrue => rfl
  case isFalse notLocal => rw [if_pos (by bv_omega)]

section ConfigureScreen

variable {r : Role} {n kind wait : Byte} {s : State}

/-- CONFIGURE_SCREEN is taken when it has been handed on. -/
theorem exec_configureScreen (r : Role) (n kind wait : Byte) (s : State) :
    exec (.configureScreen r n kind wait) s = execConfigureScreen r n kind wait s := rfl

theorem exec_configureScreen_of_illFormed (taken : s.handed r (.configureScreen r n kind wait) = true)
    (bad : screenOf n = none ∨ configOf kind wait = none) :
    exec (.configureScreen r n kind wait) s = .next (s.place r (.bare .badValue)) := by
  rw [exec_configureScreen, execConfigureScreen, onRequest_handed taken]
  split
  case h_1 hn hc => simp [hn, hc] at bad
  case h_2 => rfl

/-- R81 for operands in range: a live screen is refused, a DARK one takes the configuration. -/
theorem exec_configureScreen_of_wellFormed (taken : s.handed r (.configureScreen r n kind wait) = true)
    {m : ScreenNo} {c : ScreenConfig} (hn : screenOf n = some m) (hc : configOf kind wait = some c) :
    exec (.configureScreen r n kind wait) s =
      if s.screens.cells[m].live then .next (s.place r (.bare .wrongState))
      else .next (((s.setScreen m { s.screens.cells[m] with kind := c.kind, guideWait := c.guideWait }).sendAll
        [.dirtyMark .screen false, .notice .screen .screen .every (screenBit m)]).place r (.ok [])) := by
  rw [exec_configureScreen, execConfigureScreen, onRequest_handed taken]
  simp only [hn, hc]
  split
  case isTrue => rfl
  case isFalse => rw [State.markDirty_eq, State.raiseScreens_eq, State.sendAll_sendAll]; rfl

end ConfigureScreen

/-- Settles O26: R81's checks in order, each by the equation of CONFIGURE_SCREEN for operands out of range or in it. -/
theorem configureScreenNeedsADarkScreen : Obligations.ConfigureScreenNeedsADarkScreen := by
  intro r n kind wait s taken
  refine ⟨fun bad => exec_configureScreen_of_illFormed taken (bad.imp screenOf_eq_none configOf_eq_none), ?_⟩
  intro m named hkind hwait
  rw [exec_configureScreen_of_wellFormed taken (screenOf_eq_some named) (configOf_eq_some hkind hwait)]
  refine ⟨fun live => ?_, fun dark => ?_⟩
  · rw [if_pos ((Screen.live_iff _).mpr live)]
  · rw [if_neg (Screen.not_live_of_dark dark)]
    rfl

/-! ### SCREEN_OFF (R84), MARK and boundary marks (R71), the grace expiry (R67) -/

/-- The shape SCREEN_OFF and MARK share: the tuning owner of a screen asks for an act on it, which is answered OK. -/
def ownerRequest (i : Instr) (r : Role) (n : Byte) (s : State) (act : ScreenNo → State → State) :
    Host.Outcome State Fault Refusal :=
  onRequest i r s fun s => onScreen n (fun x => tuningOwner x == r) s fun m => (s.screenAct (act m), .ok [])

theorem exec_screenOff (r : Role) (n : Byte) (s : State) :
    exec (.screenOff r n) s = ownerRequest (.screenOff r n) r n s fun m s => s.darken m := rfl

theorem exec_mark (r : Role) (n : Byte) (s : State) :
    exec (.mark r n) s = ownerRequest (.mark r n) r n s fun m s => s.endClosing m := rfl

section OwnerRequest

variable {i : Instr} {r : Role} {n : Byte} {m : ScreenNo} {s : State}

theorem ownerRequest_of_outOfRange (taken : s.handed r i = true) (outOfRange : 4 ≤ n.toNat)
    (act : ScreenNo → State → State) : ownerRequest i r n s act = .next (s.place r (.bare .badValue)) :=
  onRequest_onScreen_of_outOfRange taken outOfRange _ _

theorem ownerRequest_of_notOwner (taken : s.handed r i = true) (named : n.toNat = m.val)
    (other : tuningOwner s.screens.cells[m] ≠ r) (act : ScreenNo → State → State) :
    ownerRequest i r n s act = .next (s.place r (.bare .notPermitted)) := by
  refine onRequest_onScreen_of_notPermitted taken named ?_ _
  exact beq_eq_false_iff_ne.mpr other

theorem ownerRequest_of_owner (taken : s.handed r i = true) (named : n.toNat = m.val)
    (owner : tuningOwner s.screens.cells[m] = r) (act : ScreenNo → State → State) :
    ownerRequest i r n s act = .next ((s.screenAct (act m)).place r (.ok [])) := by
  refine onRequest_onScreen_of_permitted taken named ?_ _
  exact beq_iff_eq.mpr owner

end OwnerRequest

/-- R84, R69: an accepted SCREEN_OFF of a live screen. -/
theorem exec_screenOff_of_live {r : Role} {n : Byte} {m : ScreenNo} {s : State}
    (taken : s.handed r (.screenOff r n) = true) (named : n.toNat = m.val)
    (owner : tuningOwner s.screens.cells[m] = r) (live : s.screens.cells[m].state ≠ .dark) :
    exec (.screenOff r n) s = .next (((s.setScreen m (darkenedScreen s.screens.cells[m])).sendAll
      ((if s.screens.cells[m].charge = .nothing then [] else [.charge m s.screens.cells[m].seat .nothing]) ++
        [.dropScreen m, .notice .screen .screen .every (screenBit m)])).place r (.ok [])) := by
  rw [exec_screenOff, ownerRequest_of_owner taken named owner, State.screenAct_darken_of_live live]

theorem exec_boundaryMark (m : ScreenNo) (s : State) : exec (.boundaryMark m) s = execBoundaryMark m s := rfl

/-- A boundary mark from a line ends the screen's CLOSING. -/
theorem exec_boundaryMark_of_taken {m : ScreenNo} {s : State} {rest : List Instr}
    (taken : takeFrom (.boundaryMark m) s.transit = some rest) :
    exec (.boundaryMark m) s = .next ((s.withTransit rest).screenAct fun s => s.endClosing m) := by
  rw [exec_boundaryMark, execBoundaryMark, onMessage_taken taken]

theorem exec_graceExpiry (m : ScreenNo) (s : State) : exec (.graceExpiry m) s = execGraceExpiry m s := rfl

/-- A grace expiry that is due ends the screen's CLOSING. -/
theorem exec_graceExpiry_of_due {m : ScreenNo} {s : State} (closing : s.screens.cells[m].state = .closing)
    (due : s.screens.cells[m].timer = some 0) :
    exec (.graceExpiry m) s = .next (s.screenAct fun s => s.endClosing m) := by
  have occasion : s.screenTimerDue m .closing = true := by
    rw [State.screenTimerDue, closing, due, beq_self_eq_true, beq_self_eq_true, Bool.and_self]
  rw [exec_graceExpiry, execGraceExpiry, onOccasion, if_pos occasion]

/-- Settles O29: SCREEN_OFF by what darkening a screen does; the request, the line and the expiry share one act, which ends a
CLOSING screen and leaves any other alone. -/
theorem screenOffMarksAndGrace : Obligations.ScreenOffMarksAndGrace := by
  refine ⟨fun r n s taken => ?screenOff, fun m s => ⟨fun r n taken outOfRange => ?markOutOfRange,
    fun r n taken named => ?mark, fun rest taken => ?boundaryMark, fun closing due => ?graceExpiry⟩⟩
  case screenOff =>
    refine ⟨fun outOfRange => ?_, fun m named => ⟨fun other => ?_, fun owner dark => ?_, fun owner live => ?_⟩⟩
    · rw [exec_screenOff, ownerRequest_of_outOfRange taken outOfRange]
    · rw [exec_screenOff, ownerRequest_of_notOwner taken named other]
    · rw [exec_screenOff, ownerRequest_of_owner taken named owner, State.screenAct_darken_of_dark dark]
    · exact exec_screenOff_of_live taken named owner live
  case markOutOfRange => rw [exec_mark, ownerRequest_of_outOfRange taken outOfRange]
  case mark =>
    refine ⟨fun foreign => ?_, fun owner other => ?_, fun owner closing => ?_⟩
    · rw [exec_mark, ownerRequest_of_notOwner taken named foreign]
    · rw [exec_mark, ownerRequest_of_owner taken named owner, State.screenAct_endClosing_of_other other]
    · rw [exec_mark, ownerRequest_of_owner taken named owner, State.screenAct_endClosing_of_closing closing]
      rfl
  case boundaryMark =>
    rw [exec_boundaryMark_of_taken taken]
    refine ⟨fun other => ?_, fun closing => ?_⟩
    · rw [State.screenAct_endClosing_of_other (s := s.withTransit rest) other]
    · rw [State.screenAct_endClosing_of_closing (s := s.withTransit rest) closing]
      rfl
  case graceExpiry =>
    rw [exec_graceExpiry_of_due closing due, State.screenAct_endClosing_of_closing closing]
    rfl

end Sys2Proof.Machine
end

section
/-! PROOFS. IDENTIFY (07 R158, 10 Table 10-2). The first part says once that a taken IDENTIFY is a read and what bytes its body
has; the theorem at its end settles O5. -/

namespace Sys2Proof.Machine

/-! ### IDENTIFY (R158) -/

/-- IDENTIFY is taken when it has been handed on. -/
theorem exec_identify (r : Role) (s : State) : exec (.identify r) s = execIdentify r s := rfl

/-- A taken IDENTIFY answers OK with its body and leaves all else alone. -/
theorem exec_identify_of_taken {r : Role} {s : State} (taken : s.handed r (.identify r) = true) :
    exec (.identify r) s = .next (s.place r (.ok (identifyBody r s))) := by
  rw [exec_identify, execIdentify, onRequest_handed taken, reading]

/-- The vendor code 53D1 and the part code 0340, low bytes first, the revision, and then the three bytes that the role, the
store and the clock decide. -/
theorem identifyBody_eq (r : Role) (s : State) :
    identifyBody r s = [0xD1, 0x53, 0x40, 0x03, 0x01, roleCode r, storeStateByte s.store.state, boolByte s.metering.running] :=
  rfl

/-- Settles O5: IDENTIFY is a read, and its body by the store's state; LOADING, the one state whose byte the statement does not
give, is excluded by its hypothesis. -/
theorem identifyReportsRoleStoreAndClock : Obligations.IdentifyReportsRoleStoreAndClock := by
  intro r s taken loaded
  rw [exec_identify_of_taken taken, identifyBody_eq]
  cases state : s.store.state with
  | loading => exact absurd state loaded
  | idle | writing | failed => cases r <;> rfl

end Sys2Proof.Machine
end

section
/-! PROOFS. Input lines and the standby level (08 R168 to R171). The first part says once what an asserted line, the standby level
and its report are, and what LEVEL_CHANGE and SET_LINE_FUNCTION do in each of their cases; the theorem at its end settles O47. -/

namespace Sys2Proof.Machine

/-! ### Asserted lines and the standby level (R168, R170) -/

/-- R168: a line is asserted while its level is its active level. -/
theorem Line.asserted_iff (l : Line) : l.asserted = true ↔ l.level = (l.setting.polarity == .high) := by
  unfold Line.asserted
  cases l.setting.polarity with
  | high => exact Iff.rfl
  | low => exact iff_of_eq (Bool.not_eq_true' l.level)

/-- R170: some STANDBY line is asserted. -/
theorem SignalUnit.standbyLevel_iff (u : SignalUnit) :
    u.standbyLevel = true ↔ ∃ i : Fin 4, u.lines[i].setting.function = .standby ∧
      u.lines[i].level = (u.lines[i].setting.polarity == .high) := by
  simp [SignalUnit.standbyLevel, Line.asserted_iff]

/-- R169: a change of level asserts the line exactly when the new level is the active one. -/
theorem Line.asserts_iff {l : Line} {high : Bool} (changed : l.level ≠ high) :
    (!l.asserted && Line.asserted { l with level := high }) = true ↔ high = (l.setting.polarity == .high) := by
  rw [Bool.and_eq_true, Bool.not_eq_true', ← Bool.not_eq_true, Line.asserted_iff, Line.asserted_iff]
  exact ⟨fun asserts => asserts.2, fun active => ⟨fun held => changed (held.trans active.symm), active⟩⟩

/-! ### Marks and the report of the standby level (R169, R170) -/

/-- The mark that an assertion of a line with this function gives. -/
def lineMarks : LineFunction → List Instr
  | .boundary n => [.boundaryMark n]
  | .nothing | .standby => []

theorem State.markFor_eq (s : State) (f : LineFunction) : s.markFor f = s.sendAll (lineMarks f) := by
  cases f with
  | boundary n => rfl
  | nothing | standby => exact s.sendAll_nil.symm

/-- The report of u's standby level, when it differs from the level last reported. -/
def standbyReport (u : SignalUnit) (reported : Bool) : List Instr :=
  if u.standbyLevel = reported then [] else [.standbyLevel u.standbyLevel]

/-- The Signal Unit with line i replaced and the standby level that follows reported. -/
def SignalUnit.withLine (u : SignalUnit) (i : Fin 4) (l : Line) : SignalUnit :=
  { u with
    lines := put u.lines i l
    reported := SignalUnit.standbyLevel { u with lines := put u.lines i l } }

/-- The Signal Unit after a level change of line i. -/
def SignalUnit.withLevel (u : SignalUnit) (i : Fin 4) (high : Bool) : SignalUnit :=
  u.withLine i { u.lines[i] with level := high }

/-- The Signal Unit after line i is given another setting. -/
def SignalUnit.withSetting (u : SignalUnit) (i : Fin 4) (x : LineSetting) : SignalUnit :=
  u.withLine i { u.lines[i] with setting := x }

/-- R170: after a report the level last reported is the standby level, whether or not a message was due. -/
theorem State.reportStandby_eq (s : State) :
    s.reportStandby = (s.withSignal { s.signal with reported := s.signal.standbyLevel }).sendAll
      (standbyReport s.signal s.signal.reported) := by
  unfold State.reportStandby standbyReport
  split
  case isTrue same => rw [same, State.sendAll_nil]; rfl
  case isFalse => rfl

/-- R168, R170: a line is replaced, its messages are sent, and the standby level is reported after them. -/
theorem State.setLine_sendAll_reportStandby (s : State) (i : Fin 4) (l : Line) (ms : List Instr) :
    ((s.setLine i l).sendAll ms).reportStandby =
      (s.withSignal (s.signal.withLine i l)).sendAll
        (ms ++ standbyReport (s.signal.withLine i l) s.signal.reported) := by
  rw [State.reportStandby_eq, ← State.sendAll_sendAll]
  rfl

/-! ### LEVEL_CHANGE (R168 to R170) -/

/-- LEVEL_CHANGE is taken when the line's level changes outside a load. -/
theorem exec_levelChange (i : Fin 4) (high : Bool) (s : State) :
    exec (.levelChange i high) s = execLevelChange i high s := rfl

section LevelChange

variable {s : State} {i : Fin 4} {high : Bool}

/-- A level that is held already is no change. -/
theorem exec_levelChange_of_held (held : s.signal.lines[i].level = high) :
    exec (.levelChange i high) s = .next s := by
  have noOccasion : (s.awake && !s.loading && s.signal.lines[i].level != high) = false := by
    rw [held, bne_self_eq_false, Bool.and_false]
  rw [exec_levelChange, execLevelChange, onOccasion, noOccasion, if_neg Bool.false_ne_true]

/-- A new level: the mark of a line it asserts, then the report of a changed standby level. -/
theorem State.takeLevel_of_changed (changed : s.signal.lines[i].level ≠ high) :
    s.takeLevel i high =
      (s.withSignal (s.signal.withLevel i high)).sendAll
        ((if high = (s.signal.lines[i].setting.polarity == .high) then lineMarks s.signal.lines[i].setting.function
          else []) ++
          standbyReport (s.signal.withLevel i high) s.signal.reported) := by
  rw [SignalUnit.withLevel, ← State.setLine_sendAll_reportStandby]
  simp only [State.takeLevel, Line.asserts_iff changed]
  split
  case isTrue => rw [State.markFor_eq]
  case isFalse => rw [State.sendAll_nil]

theorem exec_levelChange_of_changed (awake : s.awake = true) (loaded : s.store.state ≠ .loading)
    (changed : s.signal.lines[i].level ≠ high) : exec (.levelChange i high) s = .next (s.takeLevel i high) := by
  have occasion : (s.awake && !s.loading && s.signal.lines[i].level != high) = true := by
    rw [bne_iff_ne.mpr changed, awake, State.loading, beq_false_of_ne loaded]
    rfl
  rw [exec_levelChange, execLevelChange, onOccasion, if_pos occasion]

end LevelChange

/-! ### SET_LINE_FUNCTION (R171) -/

/-- A byte of 2 or more is no polarity. -/
theorem polarityOf_eq_none {b : Byte} (h : 2 ≤ b.toNat) : polarityOf b = none := by
  unfold polarityOf
  rw [if_neg (by rintro rfl; simp at h), if_neg (by rintro rfl; simp at h)]

theorem polarityOf_eq_some {b : Byte} (h : b.toNat < 2) : polarityOf b = some (if b = 1 then .high else .low) := by
  unfold polarityOf
  split
  case isTrue => rfl
  case isFalse notHigh => rw [if_pos (by bv_omega)]

section SetLineFunction

variable {r : Role} {line function screen polarity : Byte} {s : State}

/-- SET_LINE_FUNCTION is taken when it has been handed on. -/
theorem exec_setLineFunction (r : Role) (line function screen polarity : Byte) (s : State) :
    exec (.setLineFunction r line function screen polarity) s =
      execSetLineFunction r line function screen polarity s := rfl

/-- R171 steps 1 and 2: a line, function or polarity out of range is BAD_VALUE. -/
theorem exec_setLineFunction_of_illFormed
    (taken : s.handed r (.setLineFunction r line function screen polarity) = true)
    (bad : screenOf line = none ∨ lineFunctionOf function screen = none ∨ polarityOf polarity = none) :
    exec (.setLineFunction r line function screen polarity) s = .next (s.place r (.bare .badValue)) := by
  rw [exec_setLineFunction, execSetLineFunction, onRequest_handed taken]
  split
  case h_1 hi hf hp => simp [hi, hf, hp] at bad
  case h_2 => rfl

/-- R171: the setting is replaced, a changed standby level is reported, and the store marked dirty; no mark is given. -/
theorem exec_setLineFunction_of_wellFormed
    (taken : s.handed r (.setLineFunction r line function screen polarity) = true) {i : Fin 4} {f : LineFunction}
    {p : Polarity} (hi : screenOf line = some i) (hf : lineFunctionOf function screen = some f)
    (hp : polarityOf polarity = some p) :
    exec (.setLineFunction r line function screen polarity) s =
      .next (((s.withSignal (s.signal.withSetting i { function := f, polarity := p })).sendAll
        (standbyReport (s.signal.withSetting i { function := f, polarity := p }) s.signal.reported ++
          [.dirtyMark .signal false])).place r (.ok [])) := by
  have replaced := s.setLine_sendAll_reportStandby i { s.signal.lines[i] with setting := { function := f, polarity := p } } []
  rw [State.sendAll_nil, List.nil_append] at replaced
  rw [exec_setLineFunction, execSetLineFunction, onRequest_handed taken]
  simp only [hi, hf, hp]
  rw [replaced, State.markDirty_eq, State.sendAll_sendAll, SignalUnit.withSetting]

end SetLineFunction

/-- Settles O47: the standby level by its definition, a level change by whether the level is held already, SET_LINE_FUNCTION by
its operands; in both commands the Signal Unit afterwards is the one with that line replaced. -/
theorem linesGiveMarksAndTheStandbyLevel : Obligations.LinesGiveMarksAndTheStandbyLevel := by
  refine ⟨SignalUnit.standbyLevel_iff, fun i high s awake loaded => ⟨fun held => ?held, fun changed => ?changed⟩,
    fun r line function screen polarity s taken => ⟨fun bad => ?illFormed, fun i f named hf hp => ?wellFormed⟩⟩
  case held => exact exec_levelChange_of_held held
  case changed =>
    refine ⟨s.signal.withLevel i high, rfl, rfl, rfl, rfl, rfl, ?_⟩
    rw [exec_levelChange_of_changed awake loaded changed, State.takeLevel_of_changed changed]
    cases s.signal.lines[i].setting.function with
    | boundary n => rfl
    | nothing | standby => simp only [lineMarks, ite_self]; rfl
  case illFormed =>
    exact exec_setLineFunction_of_illFormed taken (bad.imp screenOf_eq_none (Or.imp_right polarityOf_eq_none))
  case wellFormed =>
    exact ⟨s.signal.withSetting i { function := f, polarity := if polarity = 1 then .high else .low },
      rfl, rfl, rfl, rfl, rfl,
      exec_setLineFunction_of_wellFormed taken (screenOf_eq_some named) hf (polarityOf_eq_some hp)⟩

end Sys2Proof.Machine
end

section
/-! PROOFS. What a command may change (00 section 2.4): each block's state is changed by the commands of that block alone. The
first part says what it is that nothing of a block differs, and that sending messages and placing answers keeps it so; the
second says of every command which blocks it may change. It settles O3 and carries every invariant. -/

namespace Sys2Proof.Machine

/-! ### Nothing of a block differs -/

/-- Nothing of the block differs. Of the port, answers may have been placed; the stream of reference seconds (02 R28) counts as
the Metering Unit's. -/
def State.sameAt (s t : State) : Block → Prop
  | .port => t.port = { s.port with exchanges := t.port.exchanges } ∧
      ∀ (r : Role) (i : Instr), t.exchange r = .inFlight (some i) → s.exchange r = .inFlight (some i)
  | .profile => t.profiles = s.profiles
  | .metering => t.metering = s.metering ∧ t.ref = s.ref
  | .screen => t.screens = s.screens
  | .passes => t.passes = s.passes
  | .receiver => t.receiver = s.receiver
  | .cache => t.cache = s.cache
  | .signal => t.signal = s.signal
  | .store => t.store = s.store

/-- The queue stands, and only the named blocks may differ. -/
def State.changesOnly (bs : List Block) (s t : State) : Prop := t.pending = s.pending ∧ ∀ b ∉ bs, s.sameAt t b

section ChangesOnly

variable {bs : List Block} {s t : State}

theorem State.sameAt_refl (s : State) (b : Block) : s.sameAt s b := by
  cases b <;> simp [State.sameAt]

@[simp] theorem State.changesOnly_refl (s : State) : s.changesOnly bs s := ⟨rfl, fun b _ => s.sameAt_refl b⟩

/-- A state that agrees with t in every block and in the queue is as good as t. -/
theorem State.changesOnly_congr {u : State} (queue : u.pending = t.pending)
    (blocks : ∀ b ∉ bs, s.sameAt u b ↔ s.sameAt t b) : s.changesOnly bs u ↔ s.changesOnly bs t := by
  unfold State.changesOnly
  rw [queue]
  exact and_congr_right fun _ => forall₂_congr blocks

@[simp] theorem State.changesOnly_sendAll (ms : List Instr) : s.changesOnly bs (t.sendAll ms) ↔ s.changesOnly bs t :=
  State.changesOnly_congr rfl fun b _ => by cases b <;> exact Iff.rfl

@[simp] theorem State.changesOnly_withTransit (ms : List Instr) :
    s.changesOnly bs (t.withTransit ms) ↔ s.changesOnly bs t :=
  State.changesOnly_congr rfl fun b _ => by cases b <;> exact Iff.rfl

@[simp] theorem State.changesOnly_withPower (x : Bool) : s.changesOnly bs (t.withPower x) ↔ s.changesOnly bs t :=
  State.changesOnly_congr rfl fun b _ => by cases b <;> exact Iff.rfl

@[simp] theorem State.changesOnly_withResetHeld (x : Bool) :
    s.changesOnly bs (t.withResetHeld x) ↔ s.changesOnly bs t :=
  State.changesOnly_congr rfl fun b _ => by cases b <;> exact Iff.rfl

@[simp] theorem State.changesOnly_withFreeCount (x : Nat) :
    s.changesOnly bs (t.withFreeCount x) ↔ s.changesOnly bs t :=
  State.changesOnly_congr rfl fun b _ => by cases b <;> exact Iff.rfl

@[simp] theorem State.changesOnly_withRef (mem : .metering ∈ bs) (x : Reference) :
    s.changesOnly bs (t.withRef x) ↔ s.changesOnly bs t :=
  State.changesOnly_congr rfl fun b hb => by cases b <;> simp_all [State.sameAt, State.exchange]

@[simp] theorem State.changesOnly_withProfiles (mem : .profile ∈ bs) (x : ProfileUnit) :
    s.changesOnly bs (t.withProfiles x) ↔ s.changesOnly bs t :=
  State.changesOnly_congr rfl fun b hb => by cases b <;> simp_all [State.sameAt, State.exchange]

@[simp] theorem State.changesOnly_withMetering (mem : .metering ∈ bs) (x : MeteringUnit) :
    s.changesOnly bs (t.withMetering x) ↔ s.changesOnly bs t :=
  State.changesOnly_congr rfl fun b hb => by cases b <;> simp_all [State.sameAt, State.exchange]

@[simp] theorem State.changesOnly_withScreens (mem : .screen ∈ bs) (x : ScreenController) :
    s.changesOnly bs (t.withScreens x) ↔ s.changesOnly bs t :=
  State.changesOnly_congr rfl fun b hb => by cases b <;> simp_all [State.sameAt, State.exchange]

@[simp] theorem State.changesOnly_withPasses (mem : .passes ∈ bs) (x : PassList) :
    s.changesOnly bs (t.withPasses x) ↔ s.changesOnly bs t :=
  State.changesOnly_congr rfl fun b hb => by cases b <;> simp_all [State.sameAt, State.exchange]

@[simp] theorem State.changesOnly_withReceiver (mem : .receiver ∈ bs) (x : GuideReceiver) :
    s.changesOnly bs (t.withReceiver x) ↔ s.changesOnly bs t :=
  State.changesOnly_congr rfl fun b hb => by cases b <;> simp_all [State.sameAt, State.exchange]

@[simp] theorem State.changesOnly_withCache (mem : .cache ∈ bs) (x : GuideCache) :
    s.changesOnly bs (t.withCache x) ↔ s.changesOnly bs t :=
  State.changesOnly_congr rfl fun b hb => by cases b <;> simp_all [State.sameAt, State.exchange]

@[simp] theorem State.changesOnly_withPort (mem : .port ∈ bs) (x : ManagementPort) :
    s.changesOnly bs (t.withPort x) ↔ s.changesOnly bs t :=
  State.changesOnly_congr rfl fun b hb => by cases b <;> simp_all [State.sameAt]

@[simp] theorem State.changesOnly_withSignal (mem : .signal ∈ bs) (x : SignalUnit) :
    s.changesOnly bs (t.withSignal x) ↔ s.changesOnly bs t :=
  State.changesOnly_congr rfl fun b hb => by cases b <;> simp_all [State.sameAt, State.exchange]

@[simp] theorem State.changesOnly_withStore (mem : .store ∈ bs) (x : ProfileStore) :
    s.changesOnly bs (t.withStore x) ↔ s.changesOnly bs t :=
  State.changesOnly_congr rfl fun b hb => by cases b <;> simp_all [State.sameAt, State.exchange]

end ChangesOnly

/-! ### The shared operations -/

section Operations

variable {bs : List Block} {s t : State}

@[simp] theorem State.changesOnly_send (m : Instr) : s.changesOnly bs (t.send m) ↔ s.changesOnly bs t :=
  State.changesOnly_sendAll _

@[simp] theorem State.changesOnly_raise (b : Block) (c : Category) :
    s.changesOnly bs (t.raise b c) ↔ s.changesOnly bs t := State.changesOnly_sendAll _

@[simp] theorem State.changesOnly_raiseScreens (x : ScreenSet) :
    s.changesOnly bs (t.raiseScreens x) ↔ s.changesOnly bs t := State.changesOnly_sendAll _

@[simp] theorem State.changesOnly_markDirty (b : Block) : s.changesOnly bs (t.markDirty b) ↔ s.changesOnly bs t :=
  State.changesOnly_sendAll _

@[simp] theorem State.changesOnly_raiseIf (c : Bool) (b : Block) (g : Category) :
    s.changesOnly bs (t.raiseIf c b g) ↔ s.changesOnly bs t := by
  rw [State.raiseIf_eq, State.changesOnly_sendAll]

@[simp] theorem State.changesOnly_markDirtyIf (c : Bool) (b : Block) :
    s.changesOnly bs (t.markDirtyIf c b) ↔ s.changesOnly bs t := by
  rw [State.markDirtyIf_eq, State.changesOnly_sendAll]

theorem State.changesOnly_trans {u : State} (first : s.changesOnly bs t) (next : t.changesOnly bs u) :
    s.changesOnly bs u := by
  obtain ⟨queue, blocks⟩ := first
  obtain ⟨queue', blocks'⟩ := next
  refine ⟨queue'.trans queue, fun b hb => ?_⟩
  have first := blocks b hb
  have next := blocks' b hb
  cases b with
  | port => exact ⟨next.1.trans (by rw [first.1]), fun r i h => first.2 r i (next.2 r i h)⟩
  | metering => exact ⟨next.1.trans first.1, next.2.trans first.2⟩
  | profile | screen | passes | receiver | cache | signal | store => exact Eq.trans next first

/-- Steps over a list, none of which changes more than the named blocks. -/
theorem State.changesOnly_foldl {α : Type} {f : State → α → State} (step : ∀ u a, State.changesOnly bs u (f u a))
    (l : List α) (s : State) : s.changesOnly bs (l.foldl f s) := by
  induction l generalizing s with
  | nil => exact s.changesOnly_refl
  | cons a l ih => exact State.changesOnly_trans (step s a) (ih (f s a))

/-- Placing an answer changes nothing but the exchange, and hands nothing on. -/
theorem State.changesOnly_setExchange {r : Role} {e : Exchange} (kept : ∀ i : Instr, e ≠ .inFlight (some i))
    (h : s.changesOnly bs t) : s.changesOnly bs (t.setExchange r e) := by
  obtain ⟨queue, blocks⟩ := h
  refine ⟨queue, fun b hb => ?_⟩
  have here := blocks b hb
  cases b with
  | port =>
    refine ⟨?_, fun q i handed => ?_⟩
    · rw [State.setExchange, State.withPort_port, here.1]
    · by_cases same : r = q
      · subst same
        rw [State.setExchange_exchange] at handed
        exact absurd handed (kept i)
      · rw [State.setExchange_other t e same] at handed
        exact here.2 q i handed
  | profile | metering | screen | passes | receiver | cache | signal | store => exact here

theorem State.changesOnly_underAuthority {r : Role} {act : Option Slot → State × Answer}
    (h : ∀ opener, s.changesOnly bs (act opener).1) : s.changesOnly bs (underAuthority r s act).1 := by
  unfold underAuthority
  cases s.authority r with
  | none => exact s.changesOnly_refl
  | some opener => exact h opener

end Operations

/-! ### The command goes on, and changes only the named blocks -/

/-- The outcome is a next state that differs in the named blocks alone. -/
def State.leadsTo (bs : List Block) (s : State) (o : Host.Outcome State Fault Refusal) : Prop :=
  ∃ t : State, o = .next t ∧ s.changesOnly bs t

section LeadsTo

variable {bs : List Block} {s : State}

theorem leadsTo_next {t : State} (h : s.changesOnly bs t) : s.leadsTo bs (.next t) := ⟨t, rfl, h⟩

theorem leadsTo_request {i : Instr} {r : Role} {act : State → State × Answer} (h : s.changesOnly bs (act s).1) :
    s.leadsTo bs (onRequest i r s act) := by
  refine leadsTo_next ?_
  split
  · exact State.changesOnly_setExchange (by simp) h
  · exact s.changesOnly_refl

theorem leadsTo_reading {i : Instr} {r : Role} {a : State → Answer} : s.leadsTo bs (onRequest i r s (reading a)) :=
  leadsTo_request s.changesOnly_refl

theorem leadsTo_resetRequest {i : Instr} {r : Role} {act : State → State × Option Answer}
    (h : s.changesOnly bs (act s).1) : s.leadsTo bs (onResetRequest i r s act) := by
  refine leadsTo_next ?_
  split
  · split <;> exact State.changesOnly_setExchange (by simp) h
  · exact s.changesOnly_refl

theorem leadsTo_message {m : Instr} {act : State → State} (h : ∀ u : State, u.changesOnly bs (act u)) :
    s.leadsTo bs (onMessage m s act) := by
  unfold onMessage
  split
  next rest _ =>
    have taken := State.changesOnly_trans ((State.changesOnly_withTransit rest).mpr s.changesOnly_refl) (h _)
    exact leadsTo_next taken
  next => exact leadsTo_next s.changesOnly_refl

theorem leadsTo_occasion {c : Bool} {act : State → State} (h : s.changesOnly bs (act s)) :
    s.leadsTo bs (onOccasion c s act) := by
  refine leadsTo_next ?_
  split
  · exact h
  · exact s.changesOnly_refl

end LeadsTo

/-! ### The acts of each block -/

section Acts

variable {bs : List Block} {s : State}

theorem State.pinCheck_changesOnly (mem : .profile ∈ bs) (p : Slot) (pin : Option (List (Fin 10))) :
    s.changesOnly bs (s.pinCheck p pin).1 := by
  simp [State.pinCheck, mem]

theorem clearSlot_changesOnly (mem : .profile ∈ bs) (p : Slot) : s.changesOnly bs (clearSlot p s).1 := by
  unfold clearSlot refuse State.emptySlot State.profileEdited
  split_ifs <;> simp [mem]

theorem editSlot_changesOnly (mem : .profile ∈ bs) (p : Slot) (image : EditImage) :
    s.changesOnly bs (editSlot p image s).1 := by
  unfold editSlot refuse State.profileEdited
  split
  · simp
  · split_ifs <;> simp [mem]

theorem verified_changesOnly (mem : .profile ∈ bs) (r : Role) (p : Slot) {t : State} (h : s.changesOnly bs t)
    (o : PinOutcome) : s.changesOnly bs (verified r p (t, o)).1 := by
  unfold verified State.openWindow
  cases o with
  | badPin | lockedOut => exact h
  | correct => dsimp only; split <;> simp [mem, h]

theorem State.metered_changesOnly (mem : .metering ∈ bs) (m : Metered) (time : Bool) :
    s.changesOnly bs (s.metered m time) := by
  simp [State.metered, mem]

theorem State.acceptSet_changesOnly (mem : .metering ∈ bs) (day second : Nat) (weekday : Fin 7) :
    s.changesOnly bs (s.acceptSet day second weekday) := by
  unfold State.acceptSet
  dsimp only
  split <;> simp [State.metered_changesOnly mem]

theorem setClockInRange_changesOnly (mem : .metering ∈ bs) (time : RawTime) (weekday : Byte) :
    s.changesOnly bs (setClockInRange time weekday s).1 := by
  unfold setClockInRange refuse
  split
  · split
    · exact State.acceptSet_changesOnly mem _ _ _
    · simp
  · simp

theorem State.takeTick_changesOnly (mem : .metering ∈ bs) : s.changesOnly bs s.takeTick := by
  unfold State.takeTick
  dsimp only
  split_ifs <;> simp [State.metered_changesOnly mem]

theorem State.referenceSecond_changesOnly (profile : .profile ∈ bs) (screen : .screen ∈ bs) (store : .store ∈ bs)
    (metering : .metering ∈ bs) : s.changesOnly bs s.referenceSecond := by
  simp [State.referenceSecond, profile, screen, store, metering]

theorem State.dropPasses_changesOnly (mem : .passes ∈ bs) (gone kept : List Pass) :
    s.changesOnly bs (s.dropPasses gone kept) := by
  simp [State.dropPasses, mem]

theorem enterPass_changesOnly (mem : .passes ∈ bs) (scope : PassScope) (expiry : SecondTime) (granter : Option Slot) :
    s.changesOnly bs (enterPass scope expiry granter s).1 := by
  unfold enterPass refuse
  split
  · simp [mem]
  · split <;> simp [mem]

theorem grantContent_changesOnly (mem : .passes ∈ bs) (n : ScreenNo) (granter : Option Slot) :
    s.changesOnly bs (grantContent n granter s).1 := by
  unfold grantContent refuse
  dsimp only
  split
  · simp
  · split
    · simp
    · split
      · simp
      · exact enterPass_changesOnly mem _ _ _

theorem grantCurfew_changesOnly (mem : .passes ∈ bs) (p : Slot) (expiry : SecondTime) (granter : Option Slot) :
    s.changesOnly bs (grantCurfew p expiry granter s).1 := by
  unfold grantCurfew refuse
  split
  · simp
  · split
    · exact enterPass_changesOnly mem _ _ _
    · simp

/-- What an act on screens alone changes. -/
theorem State.onlyScreens.changesOnly {t : State} (h : s.onlyScreens t) (mem : .screen ∈ bs) : s.changesOnly bs t := by
  obtain ⟨x, ms, rfl, -, -⟩ := h
  simp [mem]

theorem State.settleCharge_onlyScreens (s : State) (n : ScreenNo) : s.onlyScreens (s.settleCharge n) := by
  rw [State.settleCharge_eq]
  exact State.setScreen_onlyScreens _ _ _ _

theorem State.darken_onlyScreens (s : State) (n : ScreenNo) : s.onlyScreens (s.darken n) := by
  by_cases dark : s.screens.cells[n].state = .dark
  · rw [State.darken_of_dark dark]
    exact State.onlyScreens_refl s
  · rw [State.darken_of_live dark]
    exact State.setScreen_onlyScreens _ _ _ _

theorem State.endClosing_onlyScreens (s : State) (n : ScreenNo) : s.onlyScreens (s.endClosing n) := by
  by_cases closing : s.screens.cells[n].state = .closing
  · rw [State.endClosing_of_closing closing]
    exact State.setScreen_onlyScreens _ _ _ _
  · rw [State.endClosing_of_other closing]
    exact State.onlyScreens_refl s

theorem State.send_onlyScreens (s : State) (m : Instr) : s.onlyScreens (s.send m) :=
  ⟨s.screens, [m], by rw [State.send_eq, State.withScreens_self], rfl, rfl⟩

theorem State.endWait_onlyScreens (s : State) (n : ScreenNo) (service : Half) : s.onlyScreens (s.endWait n service) := by
  unfold State.endWait
  split
  · exact State.test_onlyScreens _ _ _ _
  · exact State.onlyScreens_refl s

theorem State.eventChanged_onlyScreens (s : State) (service : Half) (n : ScreenNo) :
    s.onlyScreens (s.eventChanged service n) := by
  unfold State.eventChanged
  split
  · split
    · exact State.endWait_onlyScreens s n service
    · exact State.retest_onlyScreens s n
  · exact State.onlyScreens_refl s

/-- Acts on screens in turn are an act on screens. -/
theorem State.onlyScreens_foldl {f : State → ScreenNo → State} (each : ∀ (u : State) (n : ScreenNo), u.onlyScreens (f u n))
    (l : List ScreenNo) (s : State) : s.onlyScreens (l.foldl f s) := by
  induction l generalizing s with
  | nil => exact State.onlyScreens_refl s
  | cons n l ih => exact State.onlyScreens_trans (each s n) (ih (f s n))

theorem State.retestWhere_onlyScreens (s : State) (c : ScreenNo → Screen → Bool) : s.onlyScreens (s.retestWhere c) := by
  refine State.onlyScreens_foldl (fun u n => ?_) _ s
  split
  · exact State.retest_onlyScreens u n
  · exact State.onlyScreens_refl u

theorem State.setScreen_onlyScreens_self (s : State) (n : ScreenNo) (y : Screen) : s.onlyScreens (s.setScreen n y) :=
  ⟨{ s.screens with cells := put s.screens.cells n y }, [], (State.sendAll_nil _).symm, rfl, rfl⟩

theorem State.endCharge_onlyScreens (s : State) (n : ScreenNo) : s.onlyScreens (s.endCharge n) := by
  rw [State.endCharge_eq]
  exact State.setScreen_onlyScreens _ _ _ _

theorem State.reseat_onlyScreens (s : State) (n : ScreenNo) (p : Slot) : s.onlyScreens (s.reseat n p) := by
  unfold State.reseat
  have reseated := State.onlyScreens_trans
    (State.onlyScreens_trans (s.endCharge_onlyScreens n) (State.send_onlyScreens _ (.dropScreen n)))
    (State.setScreen_onlyScreens_self _ n { ((s.endCharge n).send (.dropScreen n)).screens.cells[n] with seat := p })
  dsimp only
  split
  · exact State.onlyScreens_trans reseated (State.settleCharge_onlyScreens _ n)
  · exact State.onlyScreens_trans reseated (State.test_onlyScreens _ n _ _)

theorem State.tuneTo_onlyScreens (s : State) (n : ScreenNo) (service : Half) (d : Option Descriptor) :
    s.onlyScreens (s.tuneTo n service d) := by
  unfold State.tuneTo
  have left : s.onlyScreens (if s.screens.cells[n].live then (s.endCharge n).send (.dropScreen n) else s) := by
    split
    · exact State.onlyScreens_trans (s.endCharge_onlyScreens n) (State.send_onlyScreens _ _)
    · exact State.onlyScreens_refl s
  dsimp only
  split
  · exact State.onlyScreens_trans (State.onlyScreens_trans left (State.setScreen_onlyScreens_self _ n _))
      (State.settleCharge_onlyScreens _ n)
  · exact State.onlyScreens_trans (State.onlyScreens_trans left (State.setScreen_onlyScreens_self _ n _))
      (State.test_onlyScreens _ n _ _)

/-- R72: the SCREEN notice of an act adds a message. -/
theorem State.tellChanges_onlyScreens (s : State) (before : ScreenController) : s.onlyScreens (s.tellChanges before) := by
  unfold State.tellChanges
  split
  · exact State.onlyScreens_refl s
  · exact State.send_onlyScreens s _

theorem State.screenAct_onlyScreens {act : State → State} (h : s.onlyScreens (act s)) :
    s.onlyScreens (s.screenAct act) :=
  State.onlyScreens_trans h (State.tellChanges_onlyScreens _ _)

theorem State.retestSeated_onlyScreens (s : State) (p : Slot) : s.onlyScreens (s.retestSeated p) :=
  State.screenAct_onlyScreens (s.retestWhere_onlyScreens _)

theorem State.retestAll_onlyScreens (s : State) : s.onlyScreens s.retestAll :=
  State.screenAct_onlyScreens (s.retestWhere_onlyScreens _)

theorem State.retestForPass_onlyScreens (s : State) (scope : PassScope) : s.onlyScreens (s.retestForPass scope) := by
  cases scope with
  | content n c =>
    exact State.screenAct_onlyScreens (act := fun s => s.retestWhere fun m _ => m == n) (s.retestWhere_onlyScreens _)
  | curfew p => exact s.retestSeated_onlyScreens p

/-- Darkening, or the DROP_SCREEN of a DARK screen, is an act on screens. -/
theorem State.enterStandby_changesOnly (mem : .screen ∈ bs) : s.changesOnly bs s.enterStandby := by
  unfold State.enterStandby
  have darkened : s.changesOnly bs
      (screenNumbers.foldl (fun t n => if t.screens.cells[n].live then t.darken n else t.send (.dropScreen n)) s) := by
    refine State.changesOnly_foldl (fun u n => ?_) _ s
    split
    · exact (u.darken_onlyScreens n).changesOnly mem
    · simp
  simpa [mem] using darkened

theorem State.setBoxInputs_changesOnly (mem : .screen ∈ bs) (q : BoxState) (l : Bool) :
    s.changesOnly bs (s.setBoxInputs q l) := by
  unfold State.setBoxInputs
  dsimp only
  split_ifs
  · simp [mem]
  · exact State.changesOnly_trans (by simp [mem]) (State.enterStandby_changesOnly mem)
  · simp [mem]

theorem seatChecked_changesOnly (mem : .screen ∈ bs) (n : ScreenNo) (p : Slot) :
    s.changesOnly bs (seatChecked n p s).1 := by
  have reseated := State.screenAct_onlyScreens (act := fun s => s.reseat n p) (s.reseat_onlyScreens n p)
  unfold seatChecked refuse
  split
  · simp
  · exact reseated.changesOnly mem

theorem seatProfile_changesOnly (profile : .profile ∈ bs) (screen : .screen ∈ bs) (n : ScreenNo) (p : Slot)
    (pin : Option (List (Fin 10))) : s.changesOnly bs (seatProfile n p pin s).1 := by
  have checks := State.pinCheck_changesOnly (s := s) profile p pin
  unfold seatProfile refuse
  split_ifs
  · simp
  · simp
  · exact seatChecked_changesOnly screen n p
  · split
    next checked => rw [checked] at checks; exact State.changesOnly_trans checks (seatChecked_changesOnly screen n p)
    next checked => rw [checked] at checks; exact checks
    next checked => rw [checked] at checks; exact checks

theorem tuneChecked_changesOnly (mem : .screen ∈ bs) (n : ScreenNo) (service : Half) (d : Option Descriptor) :
    s.changesOnly bs (tuneChecked n service d s).1 := by
  have tuned := State.screenAct_onlyScreens (act := fun s => s.tuneTo n service d) (s.tuneTo_onlyScreens n service d)
  unfold tuneChecked tuneAnswer refuse
  dsimp only
  split_ifs
  · simp
  · simp
  · exact tuned.changesOnly mem

theorem onScreen_changesOnly {n : Byte} {permitted : Screen → Bool} {act : ScreenNo → State × Answer}
    (h : ∀ m, s.changesOnly bs (act m).1) : s.changesOnly bs (onScreen n permitted s act).1 := by
  unfold onScreen refuse
  split
  · simp
  · split
    · exact h _
    · simp

theorem State.handOff_changesOnly (mem : .receiver ∈ bs) : s.changesOnly bs s.handOff := by
  unfold State.handOff State.endDuplicate State.receive
  split
  · simp
  · split_ifs <;> simp [mem]

theorem State.receive_changesOnly (mem : .receiver ∈ bs) (f : GuideReceiver → GuideReceiver) :
    s.changesOnly bs (s.receive f) := by
  simp [State.receive, mem]

theorem State.discardDamaged_changesOnly (mem : .receiver ∈ bs) : s.changesOnly bs s.discardDamaged := by
  simp [State.discardDamaged, State.receive, mem]

theorem State.abandonTable_changesOnly (mem : .receiver ∈ bs) : s.changesOnly bs s.abandonTable := by
  simp [State.abandonTable, State.receive, mem]

theorem State.takeEot_changesOnly (mem : .receiver ∈ bs) : s.changesOnly bs s.takeEot := by
  unfold State.takeEot State.endTable
  split
  · exact State.receive_changesOnly mem _
  · exact State.discardDamaged_changesOnly mem
  · split
    · exact State.changesOnly_trans (State.receive_changesOnly mem _) (State.discardDamaged_changesOnly mem)
    · split
      · exact State.discardDamaged_changesOnly mem
      · exact State.changesOnly_trans (State.receive_changesOnly mem _) (State.handOff_changesOnly mem)
  · exact State.receive_changesOnly mem _
  · simp

theorem State.takeAbt_changesOnly (mem : .receiver ∈ bs) : s.changesOnly bs s.takeAbt := by
  unfold State.takeAbt
  split
  · exact State.receive_changesOnly mem _
  · exact State.abandonTable_changesOnly mem
  · exact State.abandonTable_changesOnly mem
  · exact State.receive_changesOnly mem _
  · simp

theorem State.takeSot_changesOnly (mem : .receiver ∈ bs) : s.changesOnly bs s.takeSot := by
  unfold State.takeSot
  refine State.changesOnly_trans ?_ (State.receive_changesOnly mem _)
  split
  · simp
  · simp
  · exact State.abandonTable_changesOnly mem
  · exact State.abandonTable_changesOnly mem
  · exact State.receive_changesOnly mem _

theorem State.takeCommitDone_changesOnly (mem : .receiver ∈ bs) (outcome : CommitOutcome) :
    s.changesOnly bs (s.takeCommitDone outcome) := by
  unfold State.takeCommitDone
  dsimp only
  have counted := State.receive_changesOnly (s := s) mem (GuideReceiver.commitEnds outcome)
  split_ifs
  · exact State.changesOnly_trans counted (State.handOff_changesOnly mem)
  · exact State.changesOnly_trans counted (State.receive_changesOnly mem _)
  · exact counted
  · simp

theorem leadsTo_symbol (mem : .receiver ∈ bs) {sym : Symbol} {act : State → State}
    (h : ∀ u : State, u.changesOnly bs (act u)) : s.leadsTo bs (onSymbol sym s act) :=
  leadsTo_occasion (State.changesOnly_trans (State.changesOnly_trans (State.receive_changesOnly mem _) (h _))
    (State.receive_changesOnly mem _))

theorem State.takeMinute_changesOnly (mem : .cache ∈ bs) : s.changesOnly bs s.takeMinute := by
  refine State.changesOnly_foldl (fun u i => ?_) _ s
  unfold State.minuteAt
  split
  · simp
  · dsimp only
    split <;> simp [mem]

theorem State.completeCommit_changesOnly (mem : .cache ∈ bs) (c : Commit) : s.changesOnly bs (s.completeCommit c) := by
  unfold State.completeCommit
  split
  · simp [mem]
  · dsimp only
    split <;> simp [mem]

theorem State.takeHeldMinute_changesOnly (mem : .cache ∈ bs) : s.changesOnly bs s.takeHeldMinute := by
  unfold State.takeHeldMinute
  split
  · exact State.changesOnly_trans (by simp [mem]) (State.takeMinute_changesOnly mem)
  · simp

theorem State.onPort_changesOnly (mem : .port ∈ bs) (f : ManagementPort → ManagementPort) :
    s.changesOnly bs (s.onPort f) := by
  simp [State.onPort, mem]

theorem State.portEvent_changesOnly (mem : .port ∈ bs) (r : Role) (f : PortCounts → PortCounts) :
    s.changesOnly bs (s.portEvent r f) := by
  simp [State.portEvent, State.onPort, State.raisePort_eq, mem]

theorem State.endTransaction_changesOnly (mem : .port ∈ bs) (withinByte : Bool) :
    s.changesOnly bs (s.endTransaction withinByte) := by
  have counted := fun (u : State) r f => State.portEvent_changesOnly (s := u) mem r f
  unfold State.endTransaction
  split
  · dsimp only
    have emptied := fun f => State.onPort_changesOnly (s := s) mem f
    split_ifs
    · exact State.changesOnly_trans (emptied _) (counted _ _ _)
    · exact State.changesOnly_trans (emptied _) (counted _ _ _)
    · exact emptied _
  · split
    · exact counted _ _ _
    · simp
  all_goals simp

/-- A frame byte changes the port alone, when what is done with it does. -/
theorem leadsTo_frameByte (mem : .port ∈ bs) {p : Phase} {act : Role → Frame → State}
    (h : ∀ r f, s.changesOnly bs (act r f)) : s.leadsTo bs (onFrameByte p s act) := by
  refine leadsTo_next ?_
  split
  · exact h _ _
  · exact State.onPort_changesOnly mem _

theorem State.setExchange_changesOnly (mem : .port ∈ bs) (r : Role) (e : Exchange) :
    s.changesOnly bs (s.setExchange r e) := by
  simp [State.setExchange, mem]

theorem State.acceptFrame_changesOnly (mem : .port ∈ bs) (r : Role) (f : Frame) :
    s.changesOnly bs (s.acceptFrame r f) := by
  unfold State.acceptFrame
  split <;> exact State.setExchange_changesOnly mem r _

theorem State.takeNotice_changesOnly (mem : .signal ∈ bs) (x : SignalUnit) : s.changesOnly bs (s.withSignal x) := by
  simp [mem]

theorem State.takeLevel_changesOnly (mem : .signal ∈ bs) (i : Fin 4) (high : Bool) :
    s.changesOnly bs (s.takeLevel i high) := by
  unfold State.takeLevel
  dsimp only
  rw [State.reportStandby_eq]
  split <;> simp [State.markFor_eq, State.setLine, mem]

theorem State.commitIfDirty_changesOnly (mem : .store ∈ bs) : s.changesOnly bs s.commitIfDirty := by
  unfold State.commitIfDirty State.beginCommit
  split <;> simp [mem]

theorem State.takeDirtyMark_changesOnly (mem : .store ∈ bs) : s.changesOnly bs s.takeDirtyMark := by
  unfold State.takeDirtyMark
  dsimp only
  split
  · simp [mem]
  · split
    · simp [mem]
    · exact State.changesOnly_trans (by simp [mem]) (State.commitIfDirty_changesOnly mem)
    · simp [mem]

theorem State.takeMark_changesOnly (mem : .store ∈ bs) (rollover : Bool) : s.changesOnly bs (s.takeMark rollover) := by
  unfold State.takeMark
  refine State.changesOnly_trans ?_ (State.takeDirtyMark_changesOnly mem)
  split <;> simp [mem]

theorem State.afterWrite_changesOnly (mem : .store ∈ bs) : s.changesOnly bs s.afterWrite := by
  unfold State.afterWrite State.commitIfSettled
  split
  · split
    · exact State.commitIfDirty_changesOnly mem
    · simp
  · exact State.commitIfDirty_changesOnly mem
  all_goals simp [mem]

theorem State.endAttempt_changesOnly (mem : .store ∈ bs) (verified : Bool) :
    s.changesOnly bs (s.endAttempt verified) := by
  unfold State.endAttempt
  split_ifs
  · exact State.changesOnly_trans (by simp [mem]) (State.afterWrite_changesOnly mem)
  · simp [mem]
  · exact State.changesOnly_trans (by simp [mem]) (State.afterWrite_changesOnly mem)

theorem State.takeSoftReset_changesOnly (mem : .store ∈ bs) : s.changesOnly bs s.takeSoftReset := by
  unfold State.takeSoftReset
  dsimp only
  split
  · simp [State.beginCommit, mem]
  · exact State.changesOnly_trans (by simp [mem]) (State.commitIfDirty_changesOnly mem)

end Acts

/-! ### What each command may change -/

/-- Every block: what the beginning of a load sets. -/
def everyBlock : List Block := [.port, .profile, .metering, .screen, .passes, .receiver, .cache, .signal, .store]

/-- The blocks that a command may change, answers and messages apart. -/
def changedBlocks : Instr → List Block
  | .readPortCounts _ | .reset _ | .startCondition _ | .stopCondition _ | .addressByte _ | .codeByte _ | .lengthByte _
  | .bodyByte _ | .checkByte _ | .responseByteSent _ | .transactionTimeout => [.port]
  | .editProfile _ _ _ | .clearProfile _ _ | .verifyPin _ _ _ | .endAuthority _ | .setSchemeMap _ _ _
  | .setHousehold _ _ _ | .lockoutExpiry _ | .windowExpiry _ | .standbyEntryReport => [.profile]
  | .setClock _ _ _ | .setTrim _ _ | .grantBonus _ _ _ | .setWeekPlan _ _ | .setTodayKind _ _
  | .profileChangedMetering _ | .charge _ _ _ | .curfewPassChange _ _ => [.metering]
  | .configureScreen _ _ _ _ | .tune _ _ _ _ | .screenOff _ _ | .mark _ _ | .setBox _ _ | .eventChange _
  | .profileChanged _ | .warn _ _ | .exhausted _ | .replenished _ | .curfewOn _ | .curfewOff _ | .rolloverTaken
  | .clockSet | .passAdded _ | .passRemoved _ | .guideWaitExpiry _ | .graceExpiry _ | .boundaryMark _
  | .standbyLevel _ => [.screen]
  | .seat _ _ _ _ => [.profile, .screen]
  | .grantPass _ _ _ _ | .revokePass _ _ | .passListClockSet | .dropScreen _ | .dropProfile _ | .expiryCheck => [.passes]
  | .linkReset _ | .symbolArrival _ | .quietGap _ | .sot | .dataByte _ | .sor | .eor | .eot | .abt | .unknownControl _
  | .commitDone _ => [.receiver]
  | .commit _ | .commitCompletion | .minute => [.cache]
  | .getNotices _ | .setNoticeMask _ _ | .setLineFunction _ _ _ _ _ | .levelChange _ _ | .notice _ _ _ _ => [.signal]
  | .dirtyMark _ _ | .accountActivity | .snapshotTimerExpiry | .settleExpiry | .writeAttemptEnd _ | .softReset => [.store]
  | .factoryClear _ => [.port, .store]
  | .secondTick => [.profile, .metering, .screen, .store]
  | .loadEnd _ => [.port, .profile, .metering, .screen, .signal, .store]
  | .loadBegin _ | .powerOn _ | .resetNAssert | .resetNRelease _ | .powerLoss => everyBlock
  | .identify _ | .readProfile _ _ | .readAuthority _ | .readSchemeMap _ _ | .readClock _ | .readAccount _ _
  | .readScreen _ _ | .listPasses _ | .readLinkCounts _ | .readEvent _ _ _ | .listEvents _ _ _ _ | .readDirectory _ _
  | .readLines _ | .readStoreState _ => []

section Commands

variable {s : State}

theorem exec_leadsTo_profile {c : Instr} (h : changedBlocks c = [.profile]) : s.leadsTo [.profile] (exec c s) := by
  have mem : Block.profile ∈ [Block.profile] := List.mem_singleton.mpr rfl
  cases c <;> simp only [changedBlocks, everyBlock, reduceCtorEq, List.cons.injEq, and_false, false_and] at h
  case editProfile r slot image =>
    unfold exec execEditProfile
    refine leadsTo_request (State.changesOnly_underAuthority fun _ => ?_)
    split
    · exact s.changesOnly_refl
    · split
      · exact clearSlot_changesOnly mem _
      · exact editSlot_changesOnly mem _ _
  case clearProfile r slot =>
    unfold exec execClearProfile
    refine leadsTo_request (State.changesOnly_underAuthority fun _ => ?_)
    split
    · exact s.changesOnly_refl
    · exact clearSlot_changesOnly mem _
  case verifyPin r slot pin =>
    unfold exec execVerifyPin
    refine leadsTo_request ?_
    split
    · split_ifs
      · exact s.changesOnly_refl
      · exact s.changesOnly_refl
      · exact verified_changesOnly mem _ _ (State.pinCheck_changesOnly mem _ _) _
    · exact s.changesOnly_refl
  case endAuthority r => unfold exec execEndAuthority; exact leadsTo_request (by simp [State.closeWindow, mem])
  case setSchemeMap r scheme entries =>
    unfold exec execSetSchemeMap
    refine leadsTo_request (State.changesOnly_underAuthority fun _ => ?_)
    split <;> simp [State.replaceMap, refuse, mem]
  case setHousehold r authority lockout =>
    unfold exec execSetHousehold
    refine leadsTo_request (State.changesOnly_underAuthority fun _ => ?_)
    split <;> simp [refuse, mem]
  case lockoutExpiry p => unfold exec execLockoutExpiry; exact leadsTo_occasion (by simp [mem])
  case windowExpiry r => unfold exec execWindowExpiry; exact leadsTo_occasion (by simp [State.closeWindow, mem])
  case standbyEntryReport => unfold exec execStandbyEntryReport; exact leadsTo_message fun u => by simp [mem]

theorem exec_leadsTo_metering {c : Instr} (h : changedBlocks c = [.metering]) : s.leadsTo [.metering] (exec c s) := by
  have mem : Block.metering ∈ [Block.metering] := List.mem_singleton.mpr rfl
  cases c <;> simp only [changedBlocks, everyBlock, reduceCtorEq, List.cons.injEq, and_false, false_and] at h
  case setClock r time weekday =>
    unfold exec execSetClock
    refine leadsTo_request ?_
    split
    · exact State.changesOnly_underAuthority fun _ => setClockInRange_changesOnly mem _ _
    · exact setClockInRange_changesOnly mem _ _
  case setTrim r trim =>
    unfold exec execSetTrim
    refine leadsTo_request ?_
    dsimp only
    split <;> simp [refuse, mem]
  case grantBonus r slot minutes =>
    unfold exec execGrantBonus
    refine leadsTo_request (State.changesOnly_underAuthority fun _ => ?_)
    split
    · exact s.changesOnly_refl
    · split_ifs
      · split
        · exact s.changesOnly_refl
        · split_ifs
          · simp [State.acceptBonus, State.metered_changesOnly mem]
          · exact s.changesOnly_refl
      · exact s.changesOnly_refl
  case setWeekPlan r kinds =>
    unfold exec execSetWeekPlan
    refine leadsTo_request (State.changesOnly_underAuthority fun _ => ?_)
    split
    · exact s.changesOnly_refl
    · simp [State.changeDayKind, State.metered_changesOnly mem]
  case setTodayKind r kind =>
    unfold exec execSetTodayKind
    have accepted : ∀ k, s.changesOnly [.metering] (s.acceptOverride k).1 := fun k => by
      simp [State.acceptOverride, State.changeDayKind, State.metered_changesOnly mem]
    refine leadsTo_request (State.changesOnly_underAuthority fun _ => ?_)
    split
    · exact accepted _
    · split
      · exact accepted _
      · exact s.changesOnly_refl
  case profileChangedMetering which => unfold exec execProfileChangedMetering; exact leadsTo_message fun u => by simp [State.keepAccounts, State.metered_changesOnly mem]
  case charge n p kind => unfold exec execCharge; exact leadsTo_message fun u => by simp [mem]
  case curfewPassChange id p => unfold exec execCurfewPassChange; exact leadsTo_message fun u => State.metered_changesOnly mem _ _

theorem exec_leadsTo_screen {c : Instr} (h : changedBlocks c = [.screen]) : s.leadsTo [.screen] (exec c s) := by
  have mem : Block.screen ∈ [Block.screen] := List.mem_singleton.mpr rfl
  cases c <;> simp only [changedBlocks, everyBlock, reduceCtorEq, List.cons.injEq, and_false, false_and] at h
  case configureScreen r n kind guideWait =>
    unfold exec execConfigureScreen
    refine leadsTo_request ?_
    dsimp only
    split
    · split <;> simp [refuse, State.setScreen, mem]
    · exact s.changesOnly_refl
  case tune r n service descriptor =>
    unfold exec execTune
    refine leadsTo_request (onScreen_changesOnly fun m => ?_)
    split
    · exact s.changesOnly_refl
    · split
      · exact tuneChecked_changesOnly mem _ _ _
      · exact s.changesOnly_refl
  case screenOff r n =>
    unfold exec execScreenOff
    refine leadsTo_request (onScreen_changesOnly fun m => ?_)
    exact (State.screenAct_onlyScreens (s.darken_onlyScreens m)).changesOnly mem
  case mark r n =>
    unfold exec execMark
    refine leadsTo_request (onScreen_changesOnly fun m => ?_)
    exact (State.screenAct_onlyScreens (s.endClosing_onlyScreens m)).changesOnly mem
  case setBox r box =>
    unfold exec execSetBox
    refine leadsTo_request ?_
    dsimp only
    split_ifs
    · exact State.setBoxInputs_changesOnly mem _ _
    · exact State.setBoxInputs_changesOnly mem _ _
    · exact s.changesOnly_refl
  case eventChange service => unfold exec execEventChange; exact leadsTo_message fun u => (State.screenAct_onlyScreens (State.onlyScreens_foldl
      (fun v n => v.eventChanged_onlyScreens service n) screenNumbers u)).changesOnly mem
  case profileChanged which =>
    unfold exec execProfileChanged
    refine leadsTo_message fun u => ?_
    cases which with
    | one p => exact (u.retestSeated_onlyScreens p).changesOnly mem
    | all => exact u.retestAll_onlyScreens.changesOnly mem
  case warn p reason => unfold exec execWarn; exact leadsTo_message fun u => (u.retestSeated_onlyScreens _).changesOnly mem
  case exhausted p => unfold exec execExhausted; exact leadsTo_message fun u => (u.retestSeated_onlyScreens _).changesOnly mem
  case replenished p => unfold exec execReplenished; exact leadsTo_message fun u => (u.retestSeated_onlyScreens _).changesOnly mem
  case curfewOn p => unfold exec execCurfewOn; exact leadsTo_message fun u => (u.retestSeated_onlyScreens _).changesOnly mem
  case curfewOff p => unfold exec execCurfewOff; exact leadsTo_message fun u => (u.retestSeated_onlyScreens _).changesOnly mem
  case rolloverTaken => unfold exec execRolloverTaken; exact leadsTo_message fun u => u.retestAll_onlyScreens.changesOnly mem
  case clockSet => unfold exec execClockSet; exact leadsTo_message fun u => u.retestAll_onlyScreens.changesOnly mem
  case passAdded pass => unfold exec execPassAdded; exact leadsTo_message fun u => (u.retestForPass_onlyScreens _).changesOnly mem
  case passRemoved pass => unfold exec execPassRemoved; exact leadsTo_message fun u => (u.retestForPass_onlyScreens _).changesOnly mem
  case guideWaitExpiry n => unfold exec execGuideWaitExpiry; exact leadsTo_occasion ((State.screenAct_onlyScreens (s.test_onlyScreens n _ _)).changesOnly mem)
  case graceExpiry n => unfold exec execGraceExpiry; exact leadsTo_occasion ((State.screenAct_onlyScreens (s.endClosing_onlyScreens n)).changesOnly mem)
  case boundaryMark n => unfold exec execBoundaryMark; exact leadsTo_message fun u => (State.screenAct_onlyScreens (u.endClosing_onlyScreens n)).changesOnly mem
  case standbyLevel asserted => unfold exec execStandbyLevel; exact leadsTo_message fun u => State.setBoxInputs_changesOnly mem _ _

theorem exec_leadsTo_passes {c : Instr} (h : changedBlocks c = [.passes]) : s.leadsTo [.passes] (exec c s) := by
  have mem : Block.passes ∈ [Block.passes] := List.mem_singleton.mpr rfl
  cases c <;> simp only [changedBlocks, everyBlock, reduceCtorEq, List.cons.injEq, and_false, false_and] at h
  case grantPass r kind target endTime =>
    unfold exec execGrantPass
    refine leadsTo_request (State.changesOnly_underAuthority fun _ => ?_)
    split
    · exact s.changesOnly_refl
    · split
      · split
        · exact grantContent_changesOnly mem _ _
        · exact grantCurfew_changesOnly mem _ _ _
      · exact s.changesOnly_refl
  case revokePass r id =>
    unfold exec execRevokePass
    refine leadsTo_request (State.changesOnly_underAuthority fun _ => ?_)
    split_ifs
    · exact s.changesOnly_refl
    · exact State.dropPasses_changesOnly mem _ _
    · exact s.changesOnly_refl
  case passListClockSet => unfold exec execPassListClockSet; exact leadsTo_message fun u => State.dropPasses_changesOnly mem _ _
  case dropScreen n => unfold exec execDropScreen; exact leadsTo_message fun u => State.dropPasses_changesOnly mem _ _
  case dropProfile p => unfold exec execDropProfile; exact leadsTo_message fun u => State.dropPasses_changesOnly mem _ _
  case expiryCheck => unfold exec execExpiryCheck; exact leadsTo_occasion (State.dropPasses_changesOnly mem _ _)

theorem exec_leadsTo_receiver {c : Instr} (h : changedBlocks c = [.receiver]) : s.leadsTo [.receiver] (exec c s) := by
  have mem : Block.receiver ∈ [Block.receiver] := List.mem_singleton.mpr rfl
  cases c <;> simp only [changedBlocks, everyBlock, reduceCtorEq, List.cons.injEq, and_false, false_and] at h
  case linkReset r => unfold exec execLinkReset; exact leadsTo_request (State.receive_changesOnly mem _)
  case symbolArrival samples =>
    unfold exec execSymbolArrival
    refine leadsTo_occasion ?_
    split
    · exact s.changesOnly_refl
    · exact State.receive_changesOnly mem _
  case quietGap bitsSampled => unfold exec execQuietGap; exact leadsTo_occasion (State.receive_changesOnly mem _)
  case sot => unfold exec execSot; exact leadsTo_symbol mem fun u => State.takeSot_changesOnly mem
  case dataByte b => unfold exec execDataByte; exact leadsTo_symbol mem fun u => State.receive_changesOnly mem _
  case sor => unfold exec execSor; exact leadsTo_symbol mem fun u => State.receive_changesOnly mem _
  case eor => unfold exec execEor; exact leadsTo_symbol mem fun u => State.receive_changesOnly mem _
  case eot => unfold exec execEot; exact leadsTo_symbol mem fun u => State.takeEot_changesOnly mem
  case abt => unfold exec execAbt; exact leadsTo_symbol mem fun u => State.takeAbt_changesOnly mem
  case unknownControl code =>
    show s.leadsTo _ (execUnknownControl code s)
    unfold execUnknownControl
    split
    · exact leadsTo_symbol mem fun u => State.receive_changesOnly mem _
    · exact leadsTo_next s.changesOnly_refl
  case commitDone outcome => unfold exec execCommitDone; exact leadsTo_message fun u => State.takeCommitDone_changesOnly mem outcome

theorem exec_leadsTo_cache {c : Instr} (h : changedBlocks c = [.cache]) : s.leadsTo [.cache] (exec c s) := by
  have mem : Block.cache ∈ [Block.cache] := List.mem_singleton.mpr rfl
  cases c <;> simp only [changedBlocks, everyBlock, reduceCtorEq, List.cons.injEq, and_false, false_and] at h
  case commit table => unfold exec execCommit; exact leadsTo_message fun u => by simp [mem]
  case commitCompletion =>
    unfold exec execCommitCompletion
    refine leadsTo_next ?_
    split
    · exact s.changesOnly_refl
    · exact State.changesOnly_trans (State.completeCommit_changesOnly mem _) (State.takeHeldMinute_changesOnly mem)
  case minute =>
    unfold exec execMinute
    refine leadsTo_message fun u => ?_
    split
    · simp [mem]
    · exact State.takeMinute_changesOnly mem

theorem exec_leadsTo_signal {c : Instr} (h : changedBlocks c = [.signal]) : s.leadsTo [.signal] (exec c s) := by
  have mem : Block.signal ∈ [Block.signal] := List.mem_singleton.mpr rfl
  cases c <;> simp only [changedBlocks, everyBlock, reduceCtorEq, List.cons.injEq, and_false, false_and] at h
  case getNotices r => unfold exec execGetNotices; exact leadsTo_request (by simp [mem])
  case setNoticeMask r mask =>
    unfold exec execSetNoticeMask
    refine leadsTo_request ?_
    dsimp only
    split <;> simp [refuse, mem]
  case setLineFunction r line function screen polarity =>
    unfold exec execSetLineFunction
    refine leadsTo_request ?_
    dsimp only
    split
    · simp [State.reportStandby_eq, State.setLine, mem]
    · exact s.changesOnly_refl
  case levelChange line high => unfold exec execLevelChange; exact leadsTo_occasion (State.takeLevel_changesOnly mem _ _)
  case notice source category roles screens => unfold exec execNotice; exact leadsTo_message fun u => by simp [mem]

theorem exec_leadsTo_store {c : Instr} (h : changedBlocks c = [.store]) : s.leadsTo [.store] (exec c s) := by
  have mem : Block.store ∈ [Block.store] := List.mem_singleton.mpr rfl
  cases c <;> simp only [changedBlocks, everyBlock, reduceCtorEq, List.cons.injEq, and_false, false_and] at h
  case dirtyMark source rollover => unfold exec execDirtyMark; exact leadsTo_message fun u => State.takeMark_changesOnly mem _
  case accountActivity =>
    unfold exec execAccountActivity
    refine leadsTo_message fun u => ?_
    split_ifs
    · exact State.takeDirtyMark_changesOnly mem
    · simp [mem]
    · exact State.changesOnly_trans (by simp [mem]) (State.takeDirtyMark_changesOnly mem)
  case snapshotTimerExpiry =>
    unfold exec execSnapshotTimerExpiry
    refine leadsTo_occasion ?_
    dsimp only
    split
    · exact State.changesOnly_trans (by simp [mem]) (State.takeDirtyMark_changesOnly mem)
    · simp [mem]
  case settleExpiry => unfold exec execSettleExpiry; exact leadsTo_occasion (State.changesOnly_trans (by simp [mem]) (State.commitIfDirty_changesOnly mem))
  case writeAttemptEnd verified => unfold exec execWriteAttemptEnd; exact leadsTo_occasion (State.endAttempt_changesOnly mem _)
  case softReset => unfold exec execSoftReset; exact leadsTo_message fun u => State.takeSoftReset_changesOnly mem

theorem exec_leadsTo_port {c : Instr} (h : changedBlocks c = [.port]) : s.leadsTo [.port] (exec c s) := by
  have mem : Block.port ∈ [Block.port] := List.mem_singleton.mpr rfl
  cases c <;> simp only [changedBlocks, everyBlock, reduceCtorEq, List.cons.injEq, and_false, false_and] at h
  case readPortCounts r => unfold exec execReadPortCounts; exact leadsTo_request (State.onPort_changesOnly mem _)
  case reset r => unfold exec execReset; exact leadsTo_resetRequest (by simp [State.onPort, mem])
  case startCondition withinByte => unfold exec execStartCondition; exact leadsTo_occasion (State.changesOnly_trans (State.endTransaction_changesOnly mem _)
      (State.onPort_changesOnly mem _))
  case stopCondition withinByte => unfold exec execStopCondition; exact leadsTo_occasion (State.changesOnly_trans (State.endTransaction_changesOnly mem _)
      (State.onPort_changesOnly mem _))
  case addressByte b => unfold exec execAddressByte; exact leadsTo_occasion (State.onPort_changesOnly mem _)
  case codeByte b =>
    unfold exec execCodeByte
    refine leadsTo_frameByte mem fun r f => ?_
    split <;> exact State.onPort_changesOnly mem _
  case lengthByte b =>
    unfold exec execLengthByte
    refine leadsTo_frameByte mem fun r f => ?_
    split
    · exact State.changesOnly_trans (State.onPort_changesOnly mem _) (State.portEvent_changesOnly mem _ _)
    · exact State.onPort_changesOnly mem _
  case bodyByte b => unfold exec execBodyByte; exact leadsTo_frameByte mem fun r f => State.onPort_changesOnly mem _
  case checkByte b =>
    unfold exec execCheckByte
    refine leadsTo_frameByte mem fun r f => ?_
    split
    · exact State.changesOnly_trans (State.onPort_changesOnly mem _) (State.acceptFrame_changesOnly mem _ _)
    · exact State.changesOnly_trans (State.onPort_changesOnly mem _) (State.portEvent_changesOnly mem _ _)
  case responseByteSent masterAcks =>
    unfold exec execResponseByteSent
    refine leadsTo_next ?_
    split
    · exact State.onPort_changesOnly mem _
    all_goals exact s.changesOnly_refl
  case transactionTimeout =>
    unfold exec execTransactionTimeout
    refine leadsTo_next ?_
    split
    · exact State.changesOnly_trans (State.onPort_changesOnly mem _) (State.portEvent_changesOnly mem _ _)
    · exact s.changesOnly_refl

/-- A pure read changes no block. -/
theorem exec_leadsTo_none {c : Instr} (h : changedBlocks c = []) : s.leadsTo [] (exec c s) := by
  cases c <;> simp only [changedBlocks, everyBlock, reduceCtorEq] at h <;> exact leadsTo_reading

theorem State.hardLoadBegins_changesOnly (base : Nat) : s.changesOnly everyBlock (s.hardLoadBegins base) := by
  simp [State.hardLoadBegins, State.loadBegins, everyBlock]

theorem State.loadEnds_changesOnly {c : Content} {lost : Bool} {pins : BitVec 4} :
    s.changesOnly [.port, .profile, .metering, .screen, .signal, .store] (s.loadEnds c lost pins) := by
  simp [State.loadEnds]

/-- Every command answers a next state, leaves the queue alone, and changes no block but those it is listed with. -/
theorem exec_leadsTo (c : Instr) (s : State) : s.leadsTo (changedBlocks c) (exec c s) := by
  cases c with
  | seat r n slot pin =>
    unfold exec execSeat
    refine leadsTo_request (onScreen_changesOnly fun m => ?_)
    split
    · exact s.changesOnly_refl
    · split
      · exact seatProfile_changesOnly (by simp [changedBlocks]) (by simp [changedBlocks]) _ _ _
      · exact s.changesOnly_refl
  | factoryClear r =>
    unfold exec execFactoryClear
    refine leadsTo_resetRequest ?_
    split <;> simp [State.takeFactoryClear, State.onPort, changedBlocks]
  | secondTick =>
    unfold exec execSecondTick
    have mem : Block.metering ∈ changedBlocks .secondTick := by simp [changedBlocks]
    have second := State.referenceSecond_changesOnly (s := s) (bs := changedBlocks .secondTick)
      (by simp [changedBlocks]) (by simp [changedBlocks]) (by simp [changedBlocks]) mem
    refine leadsTo_occasion ?_
    dsimp only
    split_ifs
    · exact State.changesOnly_trans (by simp [mem]) (State.takeTick_changesOnly mem)
    · exact State.changesOnly_trans second (State.takeTick_changesOnly mem)
    · exact second
  | loadBegin straps =>
    unfold exec execLoadBegin
    exact leadsTo_occasion (by simp [State.softLoadBegins, State.loadBegins, changedBlocks, everyBlock])
  | powerOn straps => unfold exec execPowerOn; exact leadsTo_next (by simp [changedBlocks, s.hardLoadBegins_changesOnly])
  | resetNAssert =>
    unfold exec execResetNAssert
    exact leadsTo_next (by simp [changedBlocks, s.hardLoadBegins_changesOnly])
  | resetNRelease straps =>
    unfold exec execResetNRelease
    exact leadsTo_occasion (by simp [changedBlocks, s.hardLoadBegins_changesOnly])
  | powerLoss =>
    unfold exec execPowerLoss
    exact leadsTo_next (by simp [changedBlocks, s.hardLoadBegins_changesOnly])
  | loadEnd pins =>
    unfold exec execLoadEnd
    refine leadsTo_occasion (State.changesOnly_trans ?_ State.loadEnds_changesOnly)
    unfold State.readsImage
    split <;> simp [changedBlocks]
  | readPortCounts | reset | startCondition | stopCondition | addressByte | codeByte | lengthByte | bodyByte | checkByte
  | responseByteSent | transactionTimeout => exact exec_leadsTo_port rfl
  | editProfile | clearProfile | verifyPin | endAuthority | setSchemeMap | setHousehold | lockoutExpiry | windowExpiry
  | standbyEntryReport => exact exec_leadsTo_profile rfl
  | setClock | setTrim | grantBonus | setWeekPlan | setTodayKind | profileChangedMetering | charge
  | curfewPassChange => exact exec_leadsTo_metering rfl
  | configureScreen | tune | screenOff | mark | setBox | eventChange | profileChanged | warn | exhausted | replenished
  | curfewOn | curfewOff | rolloverTaken | clockSet | passAdded | passRemoved | guideWaitExpiry | graceExpiry
  | boundaryMark | standbyLevel => exact exec_leadsTo_screen rfl
  | grantPass | revokePass | passListClockSet | dropScreen | dropProfile | expiryCheck => exact exec_leadsTo_passes rfl
  | linkReset | symbolArrival | quietGap | sot | dataByte | sor | eor | eot | abt | unknownControl
  | commitDone => exact exec_leadsTo_receiver rfl
  | commit | commitCompletion | minute => exact exec_leadsTo_cache rfl
  | getNotices | setNoticeMask | setLineFunction | levelChange | notice => exact exec_leadsTo_signal rfl
  | dirtyMark | accountActivity | snapshotTimerExpiry | settleExpiry | writeAttemptEnd
  | softReset => exact exec_leadsTo_store rfl
  | identify | readProfile | readAuthority | readSchemeMap | readClock | readAccount | readScreen | listPasses
  | readLinkCounts | readEvent | listEvents | readDirectory | readLines | readStoreState => exact exec_leadsTo_none rfl

end Commands
/-! ### Commands out of their turn -/

/-- A request is taken by its owner, and only when it has been handed on. -/
theorem exec_of_request {c : Instr} {r : Role} (request : c.requester = some r) (s : State) :
    (∃ act, exec c s = onRequest c r s act) ∨ ∃ act, exec c s = onResetRequest c r s act := by
  cases c <;> cases request <;> unfold exec
  case reset | factoryClear => exact .inr ⟨_, rfl⟩
  all_goals exact .inl ⟨_, rfl⟩

/-- A message is taken only when it is the oldest on its path. -/
theorem exec_of_message {c : Instr} (message : c.path ≠ none) (s : State) : ∃ act, exec c s = onMessage c s act := by
  cases c
  case charge | dropScreen | standbyEntryReport | warn | exhausted | replenished | curfewOn | curfewOff | rolloverTaken |
      clockSet | passListClockSet | minute | accountActivity | profileChangedMetering | profileChanged | dropProfile |
      passAdded | passRemoved | curfewPassChange | commit | commitDone | eventChange | boundaryMark | standbyLevel |
      notice | dirtyMark | softReset =>
    unfold exec
    exact ⟨_, rfl⟩
  all_goals exact absurd rfl message

theorem exec_of_notHanded {c : Instr} {r : Role} {s : State} (request : c.requester = some r)
    (absent : s.handed r c = false) : exec c s = .next s := by
  rcases exec_of_request request s with ⟨act, taken⟩ | ⟨act, taken⟩
  · rw [taken, onRequest_absent absent]
  · rw [taken, onResetRequest, absent, if_neg Bool.false_ne_true]

theorem exec_of_notInTransit {c : Instr} {s : State} (message : c.path ≠ none) (absent : takeFrom c s.transit = none) :
    exec c s = .next s := by
  obtain ⟨act, taken⟩ := exec_of_message message s
  rw [taken, onMessage_absent absent]

/-- An older message on the same path stands before it. -/
theorem takeFrom_of_older {c x : Instr} (other : x ≠ c) (samePath : x.path = c.path) {a : List Instr} (absent : c ∉ a)
    (b : List Instr) : takeFrom c (a ++ x :: b) = none := by
  induction a with
  | nil => simp [takeFrom, other, samePath]
  | cons y ys ih =>
    obtain ⟨notY, notYs⟩ := not_or.mp (mt List.mem_cons.mpr absent)
    simp [takeFrom, Ne.symm notY, ih notYs]

/-- Settles O3: every command answers a next state by what the commands may change; one out of its turn by what it is to be
taken. -/
theorem commandsAreTakenInTheirTurn : Obligations.CommandsAreTakenInTheirTurn := by
  refine ⟨fun c s => ?_, fun c r s => exec_of_notHanded, fun c s => exec_of_notInTransit, ?_⟩
  · obtain ⟨t, next, queue, -⟩ := exec_leadsTo c s
    exact ⟨t, next, queue⟩
  · intro c x a b s message transit other samePath absent
    exact exec_of_notInTransit message (by rw [transit, takeFrom_of_older other samePath absent])

/-- Settles O1, by the definition of a step. -/
theorem stepRunsTheFrontCommand : Obligations.StepRunsTheFrontCommand := fun _ _ _ => rfl

/-! ### What every step keeps -/

/-- What depends only on the given blocks. -/
def readsOnly (bs : List Block) (P : State → Prop) : Prop := ∀ s t : State, (∀ b ∈ bs, s.sameAt t b) → P s → P t

/-- A predicate on some blocks is kept by every step, when a period keeps it and each command that may change one of these
blocks does. -/
theorem step_keeps {P : State → Prop} {bs : List Block} (reads : readsOnly bs P) (period : ∀ s : State, P s → P s.period)
    (acts : ∀ (c : Instr) (s t : State), (∃ b ∈ bs, b ∈ changedBlocks c) → P s → exec c s = .next t → P t)
    {s t : State} (holds : P s) (stepped : step s = .next t) : P t := by
  unfold step at stepped
  split at stepped
  next => cases stepped; exact period s holds
  next c rest _ =>
    have queued : P (s.withPending rest) := reads s _ (fun b _ => s.sameAt_refl b) holds
    by_cases touched : ∃ b ∈ bs, b ∈ changedBlocks c
    · exact acts c _ t touched queued stepped
    · obtain ⟨u, next, -, blocks⟩ := exec_leadsTo c (s.withPending rest)
      cases next.symm.trans stepped
      exact reads _ t (fun b hb => blocks b fun changed => touched ⟨b, hb, changed⟩) queued

/-- A period changes timers and the stream of reference seconds alone. -/
theorem State.period_changesOnly (s : State) : s.changesOnly [.profile, .metering, .screen, .store] s.period := by
  unfold State.period State.tickFallsDue
  split
  · split
    · simp
    · exact State.changesOnly_trans (State.referenceSecond_changesOnly (by simp) (by simp) (by simp) (by simp)) (by simp)
  · simp

/-- The same, for a predicate on blocks that have no timer: a period need not be looked at. -/
theorem step_keeps_timeless {P : State → Prop} {bs : List Block} (reads : readsOnly bs P)
    (timeless : ∀ b ∈ bs, b ∉ [.profile, .metering, .screen, .store])
    (acts : ∀ (c : Instr) (s t : State), (∃ b ∈ bs, b ∈ changedBlocks c) → P s → exec c s = .next t → P t)
    {s t : State} (holds : P s) (stepped : step s = .next t) : P t :=
  step_keeps reads (fun s holds => reads s _ (fun b hb => s.period_changesOnly.2 b (timeless b hb)) holds) acts holds stepped

/-! ### Keeping a predicate through a request, a message, an occasion -/

section Keeps

variable {P : State → Prop} {s t : State}

theorem request_keeps {i : Instr} {r : Role} {act : State → State × Answer}
    (placed : ∀ (u : State) (a : Answer), P u → P (u.place r a)) (holds : P s) (acted : P (act s).1)
    (next : onRequest i r s act = .next t) : P t := by
  cases next
  split
  · exact placed _ _ acted
  · exact holds

theorem message_keeps {m : Instr} {act : State → State} (taken : ∀ rest : List Instr, P (s.withTransit rest))
    (holds : P s) (acted : ∀ u : State, P u → P (act u)) (next : onMessage m s act = .next t) : P t := by
  unfold onMessage at next
  split at next
  next rest _ => cases next; exact acted _ (taken rest)
  next => cases next; exact holds

theorem occasion_keeps {c : Bool} {act : State → State} (holds : P s) (acted : c = true → P (act s))
    (next : onOccasion c s act = .next t) : P t := by
  cases next
  split
  next due => exact acted due
  next => exact holds

theorem underAuthority_keeps {r : Role} {act : Option Slot → State × Answer} (holds : P s)
    (acted : ∀ opener, P (act opener).1) : P (underAuthority r s act).1 := by
  unfold underAuthority
  split
  · exact holds
  · exact acted _

end Keeps

end Sys2Proof.Machine
end

section
/-! PROOFS. The pass list (04 R88 to R98). The first part says once what entering a pass, taking an id and dropping passes do to
the list; it settles O57, and then the grants and removals themselves, O32 and O33. -/

namespace Sys2Proof.Machine

/-! ### Entering a pass (R89, R94) -/

/-- Entering a pass adds it and keeps the others. -/
theorem insertPass_perm (now : SecondTime) (x : Pass) (l : List Pass) : (insertPass now x l).Perm (x :: l) := by
  induction l with
  | nil => exact List.Perm.refl _
  | cons y ys ih =>
    unfold insertPass
    split
    · exact (ih.cons y).trans (List.Perm.swap x y ys)
    · exact List.Perm.refl _

theorem mem_insertPass {now : SecondTime} {x q : Pass} {l : List Pass} : q ∈ insertPass now x l ↔ q = x ∨ q ∈ l := by
  rw [(insertPass_perm now x l).mem_iff, List.mem_cons]

theorem length_insertPass (now : SecondTime) (x : Pass) (l : List Pass) : (insertPass now x l).length = l.length + 1 :=
  (insertPass_perm now x l).length_eq

/-! ### Ids (R89) -/

/-- The k-th id searched, from the next id upward. -/
def PassList.nthId (l : PassList) (k : Nat) : Nat := (l.nextId - 1 + k) % 255 + 1

theorem idsFrom_eq (l : PassList) : idsFrom l.nextId = (List.range 255).map l.nthId := rfl

theorem PassList.nthId_bounds (l : PassList) (k : Nat) : 1 ≤ l.nthId k ∧ l.nthId k ≤ 255 := by
  unfold PassList.nthId
  omega

theorem PassList.nthId_inj (l : PassList) {i j : Nat} (hi : i < 255) (hj : j < 255) (same : l.nthId i = l.nthId j) :
    i = j := by
  unfold PassList.nthId at same
  omega

theorem idsFrom_nodup (l : PassList) : (idsFrom l.nextId).Nodup := by
  rw [idsFrom_eq]
  refine List.Nodup.map_on (fun i hi j hj => ?_) List.nodup_range
  exact l.nthId_inj (List.mem_range.mp hi) (List.mem_range.mp hj)

/-- Fewer passes than ids leave one free: the search ends at the first id that no held pass uses. -/
theorem PassList.freeId_spec {l : PassList} (short : l.held.length < 255) :
    ∃ k < 255, l.freeId = l.nthId k ∧ (∀ q ∈ l.held, q.id ≠ l.freeId) ∧ ∀ j < k, ∃ q ∈ l.held, q.id = l.nthId j := by
  have found : ((idsFrom l.nextId).find? fun i => l.held.all fun x => x.id != i).isSome = true := by
    by_contra none
    have used : idsFrom l.nextId ⊆ l.held.map fun p => p.id := fun i hi => by
      have := List.find?_eq_none.mp (Option.not_isSome_iff_eq_none.mp none) i hi
      simpa using this
    have := ((idsFrom_nodup l).subperm used).length_le
    simp [idsFrom_eq] at this
    omega
  obtain ⟨i, hi⟩ := Option.isSome_iff_exists.mp found
  have free : l.freeId = i := by rw [PassList.freeId, hi, Option.getD_some]
  obtain ⟨unused, k, hk, at_k, before⟩ := List.find?_eq_some_iff_getElem.mp hi
  simp only [idsFrom_eq, List.length_map, List.length_range, List.getElem_map, List.getElem_range] at hk at_k before
  refine ⟨k, hk, by rw [free, at_k], fun q hq => ?_, fun j hj => ?_⟩
  · rw [free]
    simpa using List.all_eq_true.mp unused q hq
  · simpa using before j hj

/-! ### A sound list -/

/-- R88, R89, of the list by itself. -/
def PassList.sound (l : PassList) : Prop :=
  l.held.length ≤ 16 ∧ (∀ p ∈ l.held, 1 ≤ p.id ∧ p.id ≤ 255) ∧ (l.held.map fun p => p.id).Nodup ∧
  (l.held.map fun p => p.scope).Nodup ∧ 1 ≤ l.nextId ∧ l.nextId ≤ 255

theorem State.passesSound_iff (s : State) : s.passesSound ↔ s.passes.sound := Iff.rfl

theorem PassList.sound_empty : ({ held := [], nextId := 1 } : PassList).sound := by
  simp [PassList.sound]

/-- Passes that leave do no harm. -/
theorem PassList.sound_of_sublist {l : PassList} {kept : List Pass} (sound : l.sound) (part : kept.Sublist l.held) :
    ({ l with held := kept } : PassList).sound := by
  obtain ⟨length, range, ids, scopes, next⟩ := sound
  exact ⟨part.length_le.trans length, fun p hp => range p (part.subset hp), ids.sublist (part.map _),
    scopes.sublist (part.map _), next⟩

/-- A pass enters a list that has room, no pass of its scope and none of its id. -/
theorem PassList.sound_insertPass {l : PassList} {now : SecondTime} {x : Pass} {next : Nat} (sound : l.sound)
    (room : l.held.length < 16) (range : 1 ≤ x.id ∧ x.id ≤ 255) (newId : ∀ q ∈ l.held, q.id ≠ x.id)
    (newScope : ∀ q ∈ l.held, q.scope ≠ x.scope) (nextRange : 1 ≤ next ∧ next ≤ 255) :
    ({ held := insertPass now x l.held, nextId := next } : PassList).sound := by
  obtain ⟨-, ranges, ids, scopes, -⟩ := sound
  have perm := insertPass_perm now x l.held
  refine ⟨?_, fun p hp => ?_, ?_, ?_, nextRange⟩
  · rw [length_insertPass]
    exact room
  · rcases mem_insertPass.mp hp with rfl | old
    · exact range
    · exact ranges p old
  · refine (perm.map fun p => p.id).nodup_iff.mpr (List.nodup_cons.mpr ⟨?_, ids⟩)
    simpa using newId
  · refine (perm.map fun p => p.scope).nodup_iff.mpr (List.nodup_cons.mpr ⟨?_, scopes⟩)
    simpa using newScope

/-- R89: the id after one in range is in range. -/
theorem idAfter_bounds {i : Nat} (range : 1 ≤ i ∧ i ≤ 255) : 1 ≤ idAfter i ∧ idAfter i ≤ 255 := by
  unfold idAfter
  split <;> omega

/-- R94: a grant keeps the list sound, whether it replaces a pass or takes a free id. -/
theorem enterPass_sound {s : State} (sound : s.passes.sound) (scope : PassScope) (expiry : SecondTime)
    (granter : Option Slot) : (enterPass scope expiry granter s).1.passes.sound := by
  unfold enterPass
  split
  next old found =>
    have held : old ∈ s.passes.held := List.mem_of_find?_eq_some found
    have same : old.scope = scope := by simpa using List.find?_some found
    have others : ∀ q ∈ s.passes.held.filter fun x => x.scope != scope, q ∈ s.passes.held ∧ q.scope ≠ scope :=
      fun q hq => by simpa using List.mem_filter.mp hq
    have rest : (s.passes.held.filter fun x => x.scope != scope).Sublist s.passes.held := List.filter_sublist
    have ⟨length, range, ids, scopes, next⟩ := sound
    refine PassList.sound_insertPass (PassList.sound_of_sublist sound rest) ?_ (range old held) ?_ ?_ next
    · refine lt_of_lt_of_le (List.length_filter_lt_length_iff_exists.mpr ⟨old, held, ?_⟩) length
      simp [same]
    · intro q hq sameId
      have := List.inj_on_of_nodup_map ids (others q hq).1 held sameId
      exact (others q hq).2 (this ▸ same)
    · exact fun q hq => (others q hq).2
  next absent =>
    split
    next => exact sound
    next room =>
      have length : s.passes.held.length < 16 := Nat.lt_of_not_le room
      obtain ⟨k, -, free, unused, -⟩ := PassList.freeId_spec (l := s.passes) (by omega)
      have range := s.passes.nthId_bounds k
      rw [← free] at range
      exact PassList.sound_insertPass sound length range unused (fun q hq => by simpa using List.find?_eq_none.mp absent q hq)
        (idAfter_bounds range)

theorem State.dropPasses_passes (s : State) (gone kept : List Pass) :
    (s.dropPasses gone kept).passes = { s.passes with held := kept } := by
  rw [State.dropPasses, State.raiseIf_eq]
  rfl

theorem State.expirePasses_sound {s : State} (sound : s.passes.sound) : s.expirePasses.passes.sound := by
  rw [State.expirePasses, State.dropPasses_passes]
  exact PassList.sound_of_sublist sound (List.dropWhile_sublist _)

theorem State.removeWhere_sound {s : State} (sound : s.passes.sound) (c : Pass → Bool) :
    (s.removeWhere c).passes.sound := by
  rw [State.removeWhere, State.dropPasses_passes]
  exact PassList.sound_of_sublist sound List.filter_sublist

/-- Settles O57: entering, replacing and dropping keep the list sound, a load empties it, and no other command touches it. -/
theorem everyStepKeepsThePassesSound : Obligations.EveryStepKeepsThePassesSound := by
  refine fun s t sound stepped => step_keeps_timeless (bs := [.passes]) ?_ (by simp) ?_ sound stepped
  · exact fun s t same sound => by rwa [State.passesSound_iff, same .passes (by simp)]
  intro c s t touched sound next
  have placed : ∀ (u : State) (r : Role) (a : Answer), u.passesSound → (u.place r a).passesSound := fun u r a h => h
  cases c <;> simp [changedBlocks, everyBlock] at touched <;> unfold exec at next
  case grantPass r kind target endTime =>
    refine request_keeps (placed · r) sound (underAuthority_keeps sound fun opener => ?_) next
    split
    · exact sound
    · split
      · split
        · unfold grantContent
          dsimp only
          split
          · exact sound
          · split
            · exact sound
            · split
              · exact sound
              · exact enterPass_sound sound _ _ _
        · unfold grantCurfew
          split
          · exact sound
          · split
            · exact enterPass_sound sound _ _ _
            · exact sound
      · exact sound
  case revokePass r id =>
    refine request_keeps (placed · r) sound (underAuthority_keeps sound fun _ => ?_) next
    split_ifs
    · exact sound
    · exact State.removeWhere_sound sound _
    · exact sound
  case passListClockSet => exact message_keeps (fun _ => sound) sound (fun u h => State.expirePasses_sound h) next
  case dropScreen n => exact message_keeps (fun _ => sound) sound (fun u h => State.removeWhere_sound h _) next
  case dropProfile p => exact message_keeps (fun _ => sound) sound (fun u h => State.removeWhere_sound h _) next
  case expiryCheck => exact occasion_keeps sound (fun _ => State.expirePasses_sound sound) next
  case loadBegin straps | resetNRelease straps =>
    refine occasion_keeps sound (fun _ => ?_) next
    exact PassList.sound_empty
  case powerOn | resetNAssert | powerLoss => cases next; exact PassList.sound_empty

end Sys2Proof.Machine
end

section
/-! PROOFS. The guide cache (06 R124 to R137). The first part says once what sorting, removal, eviction, a commit and a MINUTE do
to the directory; it settles O38, O39 and O40, and the cache's share of O58. -/

namespace Sys2Proof.Machine

/-! ### Lists in order of a key -/

section Sorting

variable {α : Type} {key : α → Nat}

theorem insertBy_perm (key : α → Nat) (x : α) (l : List α) : (insertBy key x l).Perm (x :: l) := by
  induction l with
  | nil => exact List.Perm.refl _
  | cons y ys ih =>
    unfold insertBy
    split
    · exact List.Perm.refl _
    · exact (ih.cons y).trans (List.Perm.swap x y ys)

theorem insertBy_sorted {l : List α} (sorted : l.Pairwise fun a b => key a ≤ key b) (x : α) :
    (insertBy key x l).Pairwise fun a b => key a ≤ key b := by
  induction l with
  | nil => exact List.pairwise_singleton _ _
  | cons y ys ih =>
    obtain ⟨first, rest⟩ := List.pairwise_cons.mp sorted
    unfold insertBy
    split
    next before =>
      refine List.pairwise_cons.mpr ⟨fun z hz => ?_, sorted⟩
      rcases List.mem_cons.mp hz with rfl | hz
      · exact before.le
      · exact before.le.trans (first z hz)
    next after =>
      refine List.pairwise_cons.mpr ⟨fun z hz => ?_, ih rest⟩
      rcases List.mem_cons.mp ((insertBy_perm key x ys).mem_iff.mp hz) with rfl | hz
      · exact Nat.le_of_not_lt after
      · exact first z hz

/-- Sorting keeps the elements and puts them in rising order. -/
theorem sortBy_spec (key : α → Nat) (xs : List α) :
    (sortBy key xs).Perm xs ∧ (sortBy key xs).Pairwise fun a b => key a ≤ key b := by
  unfold sortBy
  suffices h : ∀ acc : List α, (acc.Pairwise fun a b => key a ≤ key b) →
      (xs.foldl (fun acc x => insertBy key x acc) acc).Perm (acc ++ xs) ∧
      (xs.foldl (fun acc x => insertBy key x acc) acc).Pairwise fun a b => key a ≤ key b by
    simpa using h [] List.Pairwise.nil
  induction xs with
  | nil => exact fun acc sorted => ⟨by simp, sorted⟩
  | cons x xs ih =>
    intro acc sorted
    obtain ⟨perm, rising⟩ := ih (insertBy key x acc) (insertBy_sorted sorted x)
    refine ⟨perm.trans ?_, rising⟩
    exact ((insertBy_perm key x acc).append_right xs).trans List.perm_middle.symm

end Sorting

/-! ### How many records the directory holds (R125) -/

/-- The records of an entry; an UNUSED one has none. -/
def entryRecords (e : Option Entry) : List EventRecord := (e.map fun x => x.records).getD []

@[simp] theorem entryRecords_none : entryRecords none = [] := rfl

@[simp] theorem entryRecords_some (e : Entry) : entryRecords (some e) = e.records := rfl

theorem storedRecords_eq (d : Vector (Option Entry) 32) : storedRecords d = d.toList.flatMap entryRecords := rfl

/-- A record is stored exactly when some entry holds it. -/
theorem mem_storedRecords {d : Vector (Option Entry) 32} {w : EventRecord} :
    w ∈ storedRecords d ↔ ∃ (i : Fin 32) (e : Entry), d[i] = some e ∧ w ∈ e.records := by
  rw [storedRecords_eq, List.mem_flatMap]
  constructor
  · rintro ⟨x, hx, hw⟩
    obtain ⟨i, hi, rfl⟩ := Vector.mem_iff_getElem.mp (Vector.mem_toList_iff.mp hx)
    cases h : d[i] with
    | none => rw [h] at hw; exact absurd hw List.not_mem_nil
    | some e => rw [h] at hw; exact ⟨⟨i, hi⟩, e, h, hw⟩
  · rintro ⟨i, e, hi, hw⟩
    exact ⟨d[i], Vector.mem_toList_iff.mpr (Vector.getElem_mem i.isLt), by rw [hi]; exact hw⟩

/-- Replacing one element of a list replaces its share of what is collected. -/
theorem length_flatMap_set {α β : Type} (f : α → List β) {l : List α} {i : Nat} (hi : i < l.length) (x : α) :
    ((l.set i x).flatMap f).length + (f l[i]).length = (l.flatMap f).length + (f x).length := by
  conv_rhs => rw [← List.take_append_drop i l, List.drop_eq_getElem_cons hi]
  rw [List.set_eq_take_append_cons_drop, if_pos hi]
  simp only [List.flatMap_append, List.flatMap_cons, List.length_append]
  omega

/-- Replacing an entry replaces its share of the records. -/
theorem length_storedRecords_put (d : Vector (Option Entry) 32) (i : Fin 32) (x : Option Entry) :
    (storedRecords (put d i x)).length + (entryRecords d[i]).length =
      (storedRecords d).length + (entryRecords x).length := by
  have share := length_flatMap_set entryRecords (l := d.toList) (i := i) (by simp) x
  rw [storedRecords_eq, storedRecords_eq, put, Vector.toList_set]
  simpa using share

/-! ### Removal (R129) -/

theorem withoutReplaced_get (t : GuideTable) (d : Vector (Option Entry) 32) (i : Fin 32) :
    (withoutReplaced t d)[i] = d[i].map fun x =>
      if x.service = t.service then { x with records := x.records.filter fun r => !replacedBy t r } else x := by
  simp [withoutReplaced]

/-- What stands after removal or eviction: the same entries, each with some of its records. -/
def thinned (d e : Vector (Option Entry) 32) : Prop :=
  ∀ i : Fin 32, (d[i] = none → e[i] = none) ∧
    ∀ x : Entry, d[i] = some x → ∃ l : List EventRecord, e[i] = some { x with records := l } ∧ l.Sublist x.records

theorem thinned_refl (d : Vector (Option Entry) 32) : thinned d d :=
  fun _ => ⟨id, fun x h => ⟨x.records, h, List.Sublist.refl _⟩⟩

theorem thinned_trans {a b c : Vector (Option Entry) 32} (h : thinned a b) (k : thinned b c) : thinned a c := by
  refine fun i => ⟨fun n => (k i).1 ((h i).1 n), fun x hx => ?_⟩
  obtain ⟨l, hb, hl⟩ := (h i).2 x hx
  obtain ⟨m, hc, hm⟩ := (k i).2 _ hb
  exact ⟨m, hc, hm.trans hl⟩

/-- An entry after the thinning was one before, of the same service. -/
theorem thinned_some {d e : Vector (Option Entry) 32} (h : thinned d e) {i : Fin 32} {y : Entry} (held : e[i] = some y) :
    ∃ x : Entry, d[i] = some x ∧ y.service = x.service := by
  cases hd : d[i] with
  | none => rw [(h i).1 hd] at held; cases held
  | some x =>
    obtain ⟨l, he, -⟩ := (h i).2 x hd
    cases held.symm.trans he
    exact ⟨x, rfl, rfl⟩

theorem withoutReplaced_thinned (t : GuideTable) (d : Vector (Option Entry) 32) : thinned d (withoutReplaced t d) := by
  refine fun i => ⟨fun n => by rw [withoutReplaced_get, n]; rfl, fun x hx => ?_⟩
  rw [withoutReplaced_get, hx, Option.map_some]
  split
  · exact ⟨_, rfl, List.filter_sublist⟩
  · exact ⟨x.records, rfl, List.Sublist.refl _⟩

theorem length_flatMap_le {α β : Type} (f g : α → List β) {l m : List α}
    (each : List.Forall₂ (fun x y => (g y).length ≤ (f x).length) l m) :
    (m.flatMap g).length ≤ (l.flatMap f).length := by
  induction each with
  | nil => exact Nat.le_refl _
  | cons here _ ih =>
    simp only [List.flatMap_cons, List.length_append]
    omega

/-- Thinning leaves no more records than there were. -/
theorem length_storedRecords_le_of_thinned {d e : Vector (Option Entry) 32} (h : thinned d e) :
    (storedRecords e).length ≤ (storedRecords d).length := by
  refine length_flatMap_le entryRecords entryRecords (List.forall₂_iff_get.mpr ⟨by simp, fun i hi _ => ?_⟩)
  have small : i < 32 := by simpa using hi
  have here := h ⟨i, small⟩
  simp only [List.get_eq_getElem, Vector.getElem_toList]
  change (entryRecords e[(⟨i, small⟩ : Fin 32)]).length ≤ (entryRecords d[(⟨i, small⟩ : Fin 32)]).length
  cases hd : d[(⟨i, small⟩ : Fin 32)] with
  | none => rw [here.1 hd]
  | some x =>
    obtain ⟨l, he, part⟩ := here.2 x hd
    rw [he]
    exact part.length_le

/-! ### Eviction (R130) -/

/-- A record that may be evicted stands in its entry and has ended. -/
theorem mem_candidates {m : MinuteTime} {d : Vector (Option Entry) 32} {c : Candidate} :
    c ∈ candidates m d ↔ ∃ (y : Entry) (w : EventRecord), d[c.entry] = some y ∧ y.records[c.place]? = some w ∧
      hasEnded m w = true ∧ c.ago = minutesAhead (recordEnd w) m := by
  simp only [candidates, candidatesIn, entryNumbers, List.mem_flatMap, List.mem_finRange, true_and, List.mem_filterMap]
  constructor
  · rintro ⟨i, ⟨w, k⟩, stands, found⟩
    split at found
    next past =>
      obtain rfl := Option.some.inj found
      cases hd : d[i] with
      | none => simp [hd] at stands
      | some y =>
        rw [hd] at stands
        exact ⟨y, w, rfl, List.mk_mem_zipIdx_iff_getElem?.mp stands, past, rfl⟩
    next => cases found
  · rintro ⟨y, w, hd, hw, past, ago⟩
    refine ⟨c.entry, (w, c.place), ?_, ?_⟩
    · rw [hd]
      exact List.mk_mem_zipIdx_iff_getElem?.mpr hw
    · rw [if_pos past, ← ago]

/-- The order of candidates: by entry, then by place. -/
def standsBefore (a b : Candidate) : Prop := a.entry < b.entry ∨ (a.entry = b.entry ∧ a.place < b.place)

theorem candidatesIn_entry {m : MinuteTime} {i : Fin 32} {l : List EventRecord} {c : Candidate}
    (h : c ∈ candidatesIn m i l) : c.entry = i := by
  obtain ⟨x, -, found⟩ := List.mem_filterMap.mp h
  split at found
  · cases found; rfl
  · cases found

theorem candidatesIn_sorted (m : MinuteTime) (i : Fin 32) (l : List EventRecord) :
    (candidatesIn m i l).Pairwise standsBefore := by
  unfold candidatesIn
  rw [List.pairwise_filterMap]
  have places : l.zipIdx.Pairwise fun a b => a.2 < b.2 := by
    have := List.pairwise_lt_range' (s := 0) (n := l.length) (step := 1)
    rw [← List.zipIdx_map_snd, List.pairwise_map] at this
    exact this
  refine places.imp fun {a b} before x hx y hy => ?_
  split at hx
  · split at hy
    · cases hx
      cases hy
      exact .inr ⟨rfl, before⟩
    · cases hy
  · cases hx

theorem candidates_sorted (m : MinuteTime) (d : Vector (Option Entry) 32) : (candidates m d).Pairwise standsBefore := by
  unfold candidates
  rw [List.pairwise_flatMap]
  refine ⟨fun i _ => candidatesIn_sorted m i _, (List.pairwise_lt_finRange 32).imp fun {i j} before x hx y hy => ?_⟩
  left
  rw [candidatesIn_entry hx, candidatesIn_entry hy]
  exact before

/-- The earliest end is the first of the candidates that ended longest ago. -/
theorem earliestEnded_spec {l : List Candidate} {c : Candidate} (h : earliestEnded l = some c) :
    ∃ a b, l = a ++ c :: b ∧ (∀ x ∈ a, x.ago < c.ago) ∧ ∀ x ∈ b, x.ago ≤ c.ago := by
  induction l generalizing c with
  | nil => cases h
  | cons x xs ih =>
    unfold earliestEnded at h
    cases hx : earliestEnded xs with
    | none =>
      rw [hx] at h
      obtain rfl := Option.some.inj h
      have empty : xs = [] := by
        cases xs with
        | nil => rfl
        | cons y ys => unfold earliestEnded at hx; split at hx <;> (try split at hx) <;> cases hx
      exact ⟨[], [], by rw [empty]; rfl, by simp, by simp⟩
    | some b =>
      obtain ⟨before, after, split, earlier, later⟩ := ih hx
      rw [hx] at h
      dsimp only at h
      split at h
      next less =>
        obtain rfl := Option.some.inj h
        refine ⟨x :: before, after, by rw [split]; rfl, fun y hy => ?_, later⟩
        rcases List.mem_cons.mp hy with rfl | hy
        · exact less
        · exact earlier y hy
      next notLess =>
        obtain rfl := Option.some.inj h
        refine ⟨[], xs, rfl, by simp, fun y hy => ?_⟩
        rw [split] at hy
        rcases List.mem_append.mp hy with hy | hy
        · exact (earlier y hy).le.trans (Nat.le_of_not_lt notLess)
        · rcases List.mem_cons.mp hy with rfl | hy
          · exact Nat.le_of_not_lt notLess
          · exact (later y hy).trans (Nat.le_of_not_lt notLess)

theorem earliestEnded_mem {l : List Candidate} {c : Candidate} (h : earliestEnded l = some c) : c ∈ l := by
  obtain ⟨a, b, rfl, -, -⟩ := earliestEnded_spec h
  simp

theorem earliestEnded_eq_none_iff {l : List Candidate} : earliestEnded l = none ↔ l = [] := by
  cases l with
  | nil => exact ⟨fun _ => rfl, fun _ => rfl⟩
  | cons x xs =>
    unfold earliestEnded
    cases earliestEnded xs with
    | none => simp
    | some b => dsimp only; split <;> simp

/-- Evicting a record takes it out of its entry. -/
theorem evictAt_eq {d : Vector (Option Entry) 32} {c : Candidate} {y : Entry} (held : d[c.entry] = some y) :
    evictAt d c = put d c.entry (some { y with records := y.records.eraseIdx c.place }) := by
  rw [evictAt, held]
  rfl

theorem evict_none (n : Nat) (d : Vector (Option Entry) 32) : evict none (n + 1) d = none := rfl

theorem evict_of_nothingEnded {m : MinuteTime} {d : Vector (Option Entry) 32}
    (h : ∀ w ∈ storedRecords d, halfMinutes ≤ minutesAhead (recordEnd w) m) (n : Nat) :
    evict (some m) (n + 1) d = none := by
  have empty : candidates m d = [] := by
    refine List.eq_nil_iff_forall_not_mem.mpr fun c hc => ?_
    obtain ⟨y, w, hd, hw, past, -⟩ := mem_candidates.mp hc
    have := h w (mem_storedRecords.mpr ⟨c.entry, y, hd, List.mem_of_getElem? hw⟩)
    simp only [hasEnded, decide_eq_true_eq] at past
    omega
  rw [evict, empty]
  rfl

/-- The candidate that record w is, at place k of entry i. -/
def candidateAt (m : MinuteTime) (i : Fin 32) (k : Nat) (w : EventRecord) : Candidate where
  entry := i
  place := k
  ago := minutesAhead (recordEnd w) m

/-- A record that ended earliest, the first of those, is the one evicted. -/
theorem evict_of_earliest {m : MinuteTime} {d : Vector (Option Entry) 32} {i : Fin 32} {y : Entry} {k : Nat}
    {w : EventRecord} (held : d[i] = some y) (stands : y.records[k]? = some w)
    (past : minutesAhead (recordEnd w) m < halfMinutes)
    (first : ∀ (j : Fin 32) (z : Entry) (l : Nat) (v : EventRecord), d[j] = some z → z.records[l]? = some v →
      minutesAhead (recordEnd v) m < halfMinutes → minutesAhead (recordEnd v) m < minutesAhead (recordEnd w) m ∨
        (minutesAhead (recordEnd v) m = minutesAhead (recordEnd w) m ∧ (i < j ∨ (i = j ∧ k ≤ l)))) (n : Nat) :
    evict (some m) (n + 1) d = evict (some m) n (put d i (some { y with records := y.records.eraseIdx k })) := by
  have mem : candidateAt m i k w ∈ candidates m d := mem_candidates.mpr ⟨y, w, held, stands, by simpa [hasEnded] using past, rfl⟩
  have chosen : earliestEnded (candidates m d) = some (candidateAt m i k w) := by
    cases h : earliestEnded (candidates m d) with
    | none => rw [earliestEnded_eq_none_iff.mp h] at mem; cases mem
    | some c =>
      obtain ⟨z, v, hz, hv, pastV, ago⟩ := mem_candidates.mp (earliestEnded_mem h)
      have place := first c.entry z c.place v hz hv (by simpa [hasEnded] using pastV)
      rw [← ago] at place
      obtain ⟨a, b, split, earlier, later⟩ := earliestEnded_spec h
      have sorted := candidates_sorted m d
      rw [split] at mem sorted
      rcases List.mem_append.mp mem with inA | inCB
      · have : minutesAhead (recordEnd w) m < c.ago := earlier _ inA
        omega
      · rcases List.mem_cons.mp inCB with same | inB
        · rw [same]
        · have notLater : minutesAhead (recordEnd w) m ≤ c.ago := later _ inB
          have before : c.entry < i ∨ (c.entry = i ∧ c.place < k) :=
            (List.pairwise_cons.mp (List.pairwise_append.mp sorted).2.1).1 _ inB
          omega
  rw [evict, chosen]
  dsimp only
  rw [evictAt_eq (c := candidateAt m i k w) held]
  rfl

/-- What eviction does: it takes out exactly as many records as asked, only ended ones, and keeps the entries. -/
theorem evict_spec {present : Option MinuteTime} {n : Nat} {d e : Vector (Option Entry) 32}
    (h : evict present n d = some e) :
    (storedRecords e).length + n = (storedRecords d).length ∧ thinned d e ∧
    ∀ (j : Fin 32) (x y : Entry), d[j] = some x → e[j] = some y → ∀ w ∈ x.records, w ∉ y.records →
      ∃ m : MinuteTime, present = some m ∧ hasEnded m w = true := by
  induction n generalizing d with
  | zero =>
    obtain rfl := Option.some.inj h
    refine ⟨rfl, thinned_refl d, fun j x y hx hy w hw gone => ?_⟩
    cases hx.symm.trans hy
    exact absurd hw gone
  | succ n ih =>
    cases present with
    | none => cases h
    | some m =>
      unfold evict at h
      dsimp only at h
      split at h
      next => cases h
      next c found =>
        obtain ⟨z, v, hz, hv, past, -⟩ := mem_candidates.mp (earliestEnded_mem found)
        rw [evictAt_eq hz] at h
        obtain ⟨count, thin, ended⟩ := ih h
        have place : c.place < z.records.length := (List.getElem?_eq_some_iff.mp hv).1
        have step : thinned d (put d c.entry (some { z with records := z.records.eraseIdx c.place })) := by
          intro i
          rw [put_get]
          by_cases same : c.entry = i
          · subst same
            rw [if_pos rfl, hz]
            exact ⟨fun n => (by cases n), fun x hx => by cases hx; exact ⟨_, rfl, List.eraseIdx_sublist _ _⟩⟩
          · rw [if_neg same]
            exact ⟨id, fun x hx => ⟨x.records, hx, List.Sublist.refl _⟩⟩
        refine ⟨?_, thinned_trans step thin, fun j x y hx hy w hw gone => ?_⟩
        · have share := length_storedRecords_put d c.entry (some { z with records := z.records.eraseIdx c.place })
          rw [hz, entryRecords_some, entryRecords_some, List.length_eraseIdx_of_lt place] at share
          omega
        · by_cases same : c.entry = j
          · subst same
            cases hz.symm.trans hx
            by_cases left : w ∈ z.records.eraseIdx c.place
            · exact ended c.entry _ y (put_self _ _ _) hy w left gone
            · have evicted : w = v := by
                obtain ⟨k, hk, rfl⟩ := List.getElem_of_mem hw
                by_contra other
                refine left (List.mem_eraseIdx_iff_getElem?.mpr ⟨k, fun sameK => other ?_, List.getElem?_eq_getElem hk⟩)
                subst sameK
                exact (List.getElem?_eq_some_iff.mp hv).2
              exact ⟨m, rfl, evicted ▸ past⟩
          · exact ended j x y ((put_other _ _ same).trans hx) hy w hw gone

/-! ### The entry a commit takes (R128) -/

/-- The first number that meets a condition is found. -/
theorem find_finRange {n : Nat} {p : Fin n → Bool} {i : Fin n} (meets : p i = true) (first : ∀ j < i, p j = false) :
    (List.finRange n).find? p = some i := by
  refine List.find?_eq_some_iff_getElem.mpr ⟨meets, i, by simp, by simp, fun j hj => ?_⟩
  have := first ⟨j, hj.trans i.isLt⟩ hj
  simpa using this

theorem find_finRange_eq_none {n : Nat} {p : Fin n → Bool} (none : ∀ j, p j = false) :
    (List.finRange n).find? p = Option.none := by
  refine List.find?_eq_none.mpr fun j _ => ?_
  rw [none j]
  exact Bool.false_ne_true

section EntryForCommit

variable {d : Vector (Option Entry) 32} {v : Half} {i : Fin 32}

theorem holdsService_eq_false {j : Fin 32} (h : ∀ x : Entry, d[j] = some x → x.service ≠ v) :
    (d[j].any fun e => e.service == v) = false := by
  cases hd : d[j] with
  | none => rfl
  | some x => simpa using h x hd

/-- The service's own entry. -/
theorem entryForCommit_own {e : Entry} (held : d[i] = some e) (own : e.service = v)
    (first : ∀ j < i, ∀ x : Entry, d[j] = some x → x.service ≠ v) : entryForCommit d v = some i := by
  have found : (entryNumbers.find? fun i => d[i].any fun e => e.service == v) = some i :=
    find_finRange (by simp [held, own]) fun j hj => holdsService_eq_false (first j hj)
  rw [entryForCommit, found]

theorem entryForCommit_of_absent (absent : ∀ (j : Fin 32) (x : Entry), d[j] = some x → x.service ≠ v) :
    entryForCommit d v = match entryNumbers.find? fun i => d[i].isNone with
      | some i => some i
      | none => entryNumbers.find? fun i => entryFree d[i] := by
  have notFound : (entryNumbers.find? fun i => d[i].any fun e => e.service == v) = none :=
    find_finRange_eq_none fun j => holdsService_eq_false (absent j)
  rw [entryForCommit, notFound] <;> rfl

/-- Else the lowest entry that is UNUSED. -/
theorem entryForCommit_unused (absent : ∀ (j : Fin 32) (x : Entry), d[j] = some x → x.service ≠ v) (unused : d[i] = none)
    (first : ∀ j < i, d[j] ≠ none) : entryForCommit d v = some i := by
  have found : (entryNumbers.find? fun i => d[i].isNone) = some i :=
    find_finRange (by simp [unused]) fun j hj =>
      Bool.eq_false_iff.mpr fun none => first j hj (Option.isNone_iff_eq_none.mp none)
  rw [entryForCommit_of_absent absent, found]

theorem entryForCommit_of_used (absent : ∀ (j : Fin 32) (x : Entry), d[j] = some x → x.service ≠ v)
    (used : ∀ j : Fin 32, d[j] ≠ none) : entryForCommit d v = entryNumbers.find? fun i => entryFree d[i] := by
  have notFound : (entryNumbers.find? fun i => d[i].isNone) = none :=
    find_finRange_eq_none fun j => Bool.eq_false_iff.mpr fun none => used j (Option.isNone_iff_eq_none.mp none)
  rw [entryForCommit_of_absent absent, notFound]

theorem entryFree_some (e : Entry) : entryFree (some e) = true ↔ e.records = [] := List.isEmpty_iff

/-- Else the lowest without records. -/
theorem entryForCommit_empty (absent : ∀ (j : Fin 32) (x : Entry), d[j] = some x → x.service ≠ v)
    (used : ∀ j : Fin 32, d[j] ≠ none) {e : Entry} (held : d[i] = some e) (empty : e.records = [])
    (first : ∀ j < i, ∀ x : Entry, d[j] = some x → x.records ≠ []) : entryForCommit d v = some i := by
  rw [entryForCommit_of_used absent used]
  refine find_finRange (by rw [held]; exact (entryFree_some e).mpr empty) fun j hj => ?_
  obtain ⟨x, hx⟩ := Option.ne_none_iff_exists'.mp (used j)
  rw [hx, ← Bool.not_eq_true, entryFree_some]
  exact first j hj x hx

theorem entryForCommit_none (full : ∀ j : Fin 32, ∃ e : Entry, d[j] = some e ∧ e.service ≠ v ∧ e.records ≠ []) :
    entryForCommit d v = none := by
  have absent : ∀ (j : Fin 32) (x : Entry), d[j] = some x → x.service ≠ v := fun j x hx => by
    obtain ⟨e, he, other, -⟩ := full j
    cases hx.symm.trans he
    exact other
  have used : ∀ j : Fin 32, d[j] ≠ none := fun j => by
    obtain ⟨e, he, -⟩ := full j
    simp [he]
  rw [entryForCommit_of_used absent used]
  refine find_finRange_eq_none fun j => ?_
  obtain ⟨e, he, -, records⟩ := full j
  rw [he, ← Bool.not_eq_true, entryFree_some]
  exact records

/-- The entry taken is the service's own, or no entry holds the service. -/
theorem entryForCommit_some (taken : entryForCommit d v = some i) :
    (∃ e : Entry, d[i] = some e ∧ e.service = v) ∨ ∀ (j : Fin 32) (x : Entry), d[j] = some x → x.service ≠ v := by
  cases found : entryNumbers.find? fun i => d[i].any fun e => e.service == v with
  | some j =>
    rw [entryForCommit, found] at taken
    cases taken
    have own := List.find?_some found
    cases hd : d[i] with
    | none => simp [hd] at own
    | some e => exact .inl ⟨e, rfl, by simpa [hd] using own⟩
  | none =>
    refine .inr fun j x hx own => ?_
    have := List.find?_eq_none.mp found j (List.mem_finRange j)
    simp [hx, own] at this

end EntryForCommit

/-! ### The commit's result (R129 to R132) -/

/-- The service's records that the commit leaves in the entry it takes. -/
def keptRecords (c : Commit) (e : Option Entry) : List EventRecord :=
  match e with
  | some x => if x.service = c.table.service then x.records else []
  | none => []

theorem committedEntry_records (c : Commit) (e : Option Entry) :
    (committedEntry c e).records = sortBy (offsetKey c.table.spanStart) (keptRecords c e ++ c.table.records) := by
  cases e with
  | none => rfl
  | some x =>
    by_cases own : x.service = c.table.service <;> simp [committedEntry, keptRecords, Option.filter, own]

theorem committedEntry_perm (c : Commit) (e : Option Entry) :
    (committedEntry c e).records.Perm (keptRecords c e ++ c.table.records) := by
  rw [committedEntry_records]
  exact (sortBy_spec _ _).1

theorem length_keptRecords_le (c : Commit) (e : Option Entry) : (keptRecords c e).length ≤ (entryRecords e).length := by
  cases e with
  | none => rfl
  | some x => unfold keptRecords; dsimp only; split <;> simp

/-- Whether the service's current event differs after the commit. -/
def currentChanged (c : Commit) (before : Option Entry) (after : Entry) : Bool :=
  ((before.filter fun x => x.service == c.table.service).bind fun x => x.current) != after.current

theorem commitResult_of_none {c : Commit} {d : Vector (Option Entry) 32}
    (full : entryForCommit d c.table.service = none) : commitResult c d = .refused .directoryFull := by
  rw [commitResult, full]

theorem commitResult_of_some {c : Commit} {d : Vector (Option Entry) 32} {i : Fin 32}
    (taken : entryForCommit d c.table.service = some i) :
    commitResult c d = match evict c.present (shortfall c.table (withoutReplaced c.table d)) (withoutReplaced c.table d) with
      | none => .refused .cacheFull
      | some e => .committed (put e i (some (committedEntry c e[i]))) (currentChanged c d[i] (committedEntry c e[i])) := by
  rw [commitResult, taken]
  rfl

/-- A refused commit changes no entry. -/
theorem State.completeCommit_of_refused {s : State} {c : Commit} {o : CommitOutcome}
    (h : commitResult c s.cache.directory = .refused o) :
    s.completeCommit c = (s.withCache { s.cache with inFlight := none }).sendAll
      [.notice .cache .guide .every 0, .commitDone o] := by
  rw [State.completeCommit, h]
  dsimp only
  rw [State.raise_eq, State.send_eq, State.sendAll_sendAll]
  rfl

theorem State.completeCommit_of_committed {s : State} {c : Commit} {d : Vector (Option Entry) 32} {changed : Bool}
    (h : commitResult c s.cache.directory = .committed d changed) :
    s.completeCommit c = (s.withCache { s.cache with directory := d, inFlight := none }).sendAll
      ((if changed then [.eventChange c.table.service] else []) ++
        [.notice .cache .guide .every 0, .commitDone .committed]) := by
  rw [State.completeCommit, h]
  cases changed <;> simp [State.raise_eq, State.send_eq]

/-! ### Commands of a commit -/

theorem exec_commit (table : GuideTable) (s : State) : exec (.commit table) s = execCommit table s := rfl

theorem exec_commitCompletion (s : State) : exec .commitCompletion s = execCommitCompletion s := rfl

theorem exec_commitCompletion_of_inFlight {s : State} {c : Commit} (inFlight : s.cache.inFlight = some c) :
    exec .commitCompletion s = .next (s.completeCommit c).takeHeldMinute := by
  rw [exec_commitCompletion, execCommitCompletion, inFlight]

/-- A commit's completion leaves a held MINUTE held. -/
theorem State.completeCommit_heldMinute (s : State) (c : Commit) :
    (s.completeCommit c).cache.heldMinute = s.cache.heldMinute := by
  cases h : commitResult c s.cache.directory with
  | refused o => rw [State.completeCommit_of_refused h]; rfl
  | committed d changed => rw [State.completeCommit_of_committed h]; rfl

theorem exec_commitCompletion_of_noMinute {s : State} {c : Commit} (inFlight : s.cache.inFlight = some c)
    (noMinute : s.cache.heldMinute = false) : exec .commitCompletion s = .next (s.completeCommit c) := by
  rw [exec_commitCompletion_of_inFlight inFlight, State.takeHeldMinute, State.completeCommit_heldMinute, noMinute,
    if_neg Bool.false_ne_true]

/-- R129: what the reach touches, or the reference cannot place. -/
theorem replacedBy_iff (t : GuideTable) (x : EventRecord) :
    replacedBy t x = true ↔ minutesAhead t.spanStart x.start < reachOf t ∨
      minutesAhead x.start t.spanStart < x.duration ∨
      cycleMinutes < (minutesAhead t.spanStart x.start + halfMinutes) % cycleMinutes + x.duration := by
  rw [replacedBy, Bool.or_eq_true, periodsOverlap, decide_eq_true_iff, or_assoc, Bool.not_eq_true', placeable,
    decide_eq_false_iff_not, Nat.not_le]
  rfl

/-- Settles O38: eviction by its two equations; the completion by the entry the commit takes and what removal and eviction
leave in it. -/
theorem commitsReplaceWhatTheirReachTouches : Obligations.CommitsReplaceWhatTheirReachTouches := by
  refine ⟨fun table rest s taken => ?_, fun present n d => ⟨rfl, ?_, ?_⟩, ?_⟩
  · rw [exec_commit, execCommit, onMessage_taken taken]
    rfl
  · rintro rfl
    exact evict_none n d
  · rintro m rfl
    exact ⟨fun h => evict_of_nothingEnded h n, fun i y k w held stands past first =>
      evict_of_earliest held stands past first n⟩
  intro c s inFlight noMinute d v reach marked chosen cut short ended
  have completes := exec_commitCompletion_of_noMinute inFlight noMinute
  refine ⟨fun full => ?_, fun i unused => ?_, fun i e held other => ?_, fun i e held own => ?_, fun i choice => ?_⟩
  · rw [completes, State.completeCommit_of_refused (commitResult_of_none (entryForCommit_none full))]
  · rw [withoutReplaced_get, unused, Option.map_none]
  · rw [withoutReplaced_get, held, Option.map_some, if_neg other]
  · refine ⟨_, by rw [withoutReplaced_get, held, Option.map_some, if_pos own], List.filter_sublist, fun x hx => ?_⟩
    have touched : replacedBy c.table x = true ↔ marked x := replacedBy_iff c.table x
    rw [List.mem_filter, Bool.not_eq_true', ← Bool.not_eq_true, touched]
    exact and_iff_right hx
  have taken : entryForCommit d c.table.service = some i := by
    rcases choice with ⟨e, held, own, first⟩ | ⟨absent, ⟨unused, first⟩ | ⟨used, ⟨e, held, empty⟩, first⟩⟩
    · exact entryForCommit_own held own first
    · exact entryForCommit_unused absent unused first
    · exact entryForCommit_empty absent used held empty first
  have result := commitResult_of_some taken
  refine ⟨fun refused => ?_, fun room => ?_, fun crowded small unset => ?_, fun e evicted => ?_⟩
  · have refused : evict c.present (shortfall c.table (withoutReplaced c.table d)) (withoutReplaced c.table d) = none := refused
    rw [refused] at result
    rw [completes, State.completeCommit_of_refused result]
  · have none : short = 0 := by
      simp only [short]
      omega
    rw [none]
    rfl
  · obtain ⟨k, hk⟩ : ∃ k, short = k + 1 := Nat.exists_eq_succ_of_ne_zero (by simp only [short]; omega)
    rw [unset, hk, evict_none]
  · obtain ⟨count, thin, gone⟩ := evict_spec evicted
    have evicted : evict c.present (shortfall c.table (withoutReplaced c.table d)) (withoutReplaced c.table d) = some e :=
      evicted
    rw [evicted] at result
    refine ⟨count, fun j x hx => ?_, committedEntry c e[i], keptRecords c e[i], ?_, rfl, rfl, rfl, rfl,
      committedEntry_perm c e[i], ?_, rfl⟩
    · obtain ⟨l, hy, part⟩ := (thin j).2 x hx
      exact ⟨_, hy, rfl, part, fun w hw left => gone j x _ hx hy w hw left⟩
    · rw [completes, State.completeCommit_of_committed result]
      simp only [currentChanged, bne_iff_ne, ne_eq, ite_not]
    · rw [committedEntry_records]
      exact (sortBy_spec _ _).2

/-! ### MINUTE (R133, R134) -/

/-- R133: the entry with its current event found anew. -/
def minuted (present : Option MinuteTime) (e : Entry) : Entry := { e with current := currentAt present e.records }

/-- The EVENT_CHANGE of an entry whose current event differs. -/
def minuteMessages (present : Option MinuteTime) : Option Entry → List Instr
  | none => []
  | some e => if e.current = currentAt present e.records then [] else [.eventChange e.service]

theorem State.minuteAt_eq (s : State) (i : Fin 32) :
    s.minuteAt i = (s.withCache { s.cache with
        directory := put s.cache.directory i (s.cache.directory[i].map (minuted s.presentMinute)) }).sendAll
      (minuteMessages s.presentMinute s.cache.directory[i]) := by
  unfold State.minuteAt
  split
  next unused =>
    rw [unused, Option.map_none, ← unused, put_get_self, unused]
    exact (State.sendAll_nil s).symm
  next e held =>
    dsimp only
    rw [held, Option.map_some]
    split
    next same =>
      have unchanged : minuted s.presentMinute e = e := by rw [minuted, ← same]
      rw [unchanged, ← held, put_get_self, held, minuteMessages, if_pos same]
      exact (State.sendAll_nil s).symm
    next differs =>
      rw [minuteMessages, if_neg differs]
      rfl

/-- R134: a MINUTE is taken by each entry for itself, in order. -/
theorem State.takeMinute_spec (s : State) :
    ∃ d : Vector (Option Entry) 32,
      s.takeMinute = (s.withCache { s.cache with directory := d }).sendAll
        (entryNumbers.flatMap fun i => minuteMessages s.presentMinute s.cache.directory[i]) ∧
      ∀ i : Fin 32, d[i] = s.cache.directory[i].map (minuted s.presentMinute) := by
  suffices h : ∀ (l : List (Fin 32)) (s : State), l.Nodup → ∃ d : Vector (Option Entry) 32,
      l.foldl (fun t i => t.minuteAt i) s = (s.withCache { s.cache with directory := d }).sendAll
        (l.flatMap fun i => minuteMessages s.presentMinute s.cache.directory[i]) ∧
      ∀ i : Fin 32, d[i] = if i ∈ l then s.cache.directory[i].map (minuted s.presentMinute)
        else s.cache.directory[i] by
    obtain ⟨d, taken, each⟩ := h entryNumbers s (List.nodup_finRange 32)
    exact ⟨d, taken, fun i => by rw [each i, if_pos (show i ∈ entryNumbers from List.mem_finRange i)]⟩
  intro l
  induction l with
  | nil => exact fun s _ => ⟨s.cache.directory, (State.sendAll_nil s).symm, fun i => by simp⟩
  | cons i l ih =>
    intro s distinct
    obtain ⟨fresh, distinct⟩ := List.nodup_cons.mp distinct
    obtain ⟨d, taken, each⟩ := ih (s.minuteAt i) distinct
    rw [State.minuteAt_eq] at taken each
    have unread : ∀ j ∈ l, (put s.cache.directory i (s.cache.directory[i].map (minuted s.presentMinute)))[j] =
        s.cache.directory[j] := fun j hj => put_other _ _ fun same => fresh (same ▸ hj)
    refine ⟨d, ?_, fun j => ?_⟩
    · rw [List.foldl_cons, State.minuteAt_eq, taken, List.flatMap_cons]
      have messages : (l.flatMap fun j => minuteMessages s.presentMinute
          (put s.cache.directory i (s.cache.directory[i].map (minuted s.presentMinute)))[j]) =
          l.flatMap fun j => minuteMessages s.presentMinute s.cache.directory[j] :=
        List.flatMap_congr fun j hj => by rw [unread j hj]
      rw [← messages, ← State.sendAll_sendAll]
      rfl
    · have here := each j
      simp only [State.sendAll_cache, State.withCache_cache] at here
      rw [here, put_get]
      by_cases same : i = j
      · subst same
        simp [fresh]
      · have other : j ≠ i := Ne.symm same
        simp only [if_neg same, List.mem_cons, other, false_or]
        rfl

theorem exec_minute (s : State) : exec .minute s = execMinute s := rfl

/-- Completing a commit does not depend on whether a MINUTE is held. -/
theorem State.completeCommit_withMinute (s : State) (c : Commit) (held : Bool) :
    (s.withCache { s.cache with heldMinute := held }).completeCommit c =
      (s.completeCommit c).withCache { (s.completeCommit c).cache with heldMinute := held } := by
  cases h : commitResult c s.cache.directory with
  | refused o =>
    rw [State.completeCommit_of_refused h,
      State.completeCommit_of_refused (s := s.withCache { s.cache with heldMinute := held }) h]
    rfl
  | committed d changed =>
    rw [State.completeCommit_of_committed h,
      State.completeCommit_of_committed (s := s.withCache { s.cache with heldMinute := held }) h]
    rfl

theorem State.completeCommit_presentMinute (s : State) (c : Commit) :
    (s.completeCommit c).presentMinute = s.presentMinute := by
  cases h : commitResult c s.cache.directory with
  | refused o => rw [State.completeCommit_of_refused h]; rfl
  | committed d changed => rw [State.completeCommit_of_committed h]; rfl

/-- Settles O39: a MINUTE by what each entry does with it; the held one is taken on the state that the completion leaves. -/
theorem minutesFindCurrentEventsAnew : Obligations.MinutesFindCurrentEventsAnew := by
  refine ⟨fun rest s taken busy => ?_, fun rest s taken free => ?_, fun c s u inFlight held completed => ?_⟩
  · rw [exec_minute, execMinute, onMessage_taken taken, State.withTransit_cache,
      if_pos (Option.isSome_iff_ne_none.mpr busy)]
  · obtain ⟨d, acted, each⟩ := (s.withTransit rest).takeMinute_spec
    refine ⟨d, ?_, each⟩
    rw [exec_minute, execMinute, onMessage_taken taken, State.withTransit_cache, free, if_neg (by simp), acted]
    rfl
  · have quiet := exec_commitCompletion_of_noMinute (s := s.withCache { s.cache with heldMinute := false }) (c := c)
      inFlight rfl
    cases quiet.symm.trans completed
    have minute := State.completeCommit_heldMinute s c
    obtain ⟨d, acted, each⟩ := State.takeMinute_spec ((s.withCache { s.cache with heldMinute := false }).completeCommit c)
    rw [State.completeCommit_presentMinute] at acted each
    refine ⟨d, ?_, each⟩
    rw [exec_commitCompletion_of_inFlight inFlight, State.takeHeldMinute, minute, held, if_pos rfl,
      ← State.completeCommit_withMinute, acted]
    rfl

/-! ### Lookups (R136, R137) -/

theorem exec_readEvent (r : Role) (service : Half) (time : Option (Half × Half)) (s : State) :
    exec (.readEvent r service time) s = execReadEvent r service time s := rfl

theorem exec_listEvents (r : Role) (service day minute : Half) (s : State) :
    exec (.listEvents r service day minute) s = execListEvents r service day minute s := rfl

/-- R136 step 3: the record of an entry that a time asks for. -/
def recordAsked (e : Entry) : Option MinuteTime → Option EventRecord
  | none => e.current
  | some m => e.records.find? fun x => covers x m

theorem lookUp_of_none {e : Entry} {t : Option MinuteTime} (absent : recordAsked e t = none) :
    lookUp e t = .bare .notFound := by
  cases t <;> unfold lookUp <;> dsimp only [recordAsked] at absent ⊢ <;> rw [absent]

theorem lookUp_of_some {e : Entry} {t : Option MinuteTime} {x : EventRecord} (found : recordAsked e t = some x) :
    lookUp e t = eventAnswer e x := by
  cases t <;> unfold lookUp <;> dsimp only [recordAsked] at found ⊢ <;> rw [found]

/-- R136: the record that a READ_EVENT asks for. -/
def eventFound (c : GuideCache) (service : Half) (t : Option MinuteTime) : Option EventRecord :=
  (c.entryFor service).bind fun e => recordAsked e t

section ReadEvent

variable {r : Role} {service : Half} {time : Option (Half × Half)} {s : State}

theorem exec_readEvent_of_illAsked (taken : s.handed r (.readEvent r service time) = true)
    (bad : service = 0 ∨ timeAsked time = none) :
    exec (.readEvent r service time) s = .next (s.place r (.bare .badValue)) := by
  rw [exec_readEvent, execReadEvent, onRequest_handed taken, reading]
  by_cases zero : service = 0
  · rw [if_pos zero]
  · rw [if_neg zero, bad.resolve_left zero]

theorem exec_readEvent_of_wellAsked (taken : s.handed r (.readEvent r service time) = true) (nonzero : service ≠ 0)
    {t : Option MinuteTime} (asked : timeAsked time = some t) :
    exec (.readEvent r service time) s = .next (s.place r (match s.cache.entryFor service with
      | none => .bare .notFound
      | some e => lookUp e t)) := by
  rw [exec_readEvent, execReadEvent, onRequest_handed taken, reading, if_neg nonzero, asked] <;> rfl

/-- R136: NOT_FOUND when no record answers. -/
theorem exec_readEvent_of_notFound (taken : s.handed r (.readEvent r service time) = true) (nonzero : service ≠ 0)
    {t : Option MinuteTime} (asked : timeAsked time = some t) (absent : eventFound s.cache service t = none) :
    exec (.readEvent r service time) s = .next (s.place r (.bare .notFound)) := by
  rw [exec_readEvent_of_wellAsked taken nonzero asked]
  cases held : s.cache.entryFor service with
  | none => rfl
  | some e =>
    rw [eventFound, held] at absent
    dsimp only
    rw [lookUp_of_none absent]

/-- R136: the record found, and whether it is the service's current event. -/
theorem exec_readEvent_of_found (taken : s.handed r (.readEvent r service time) = true) (nonzero : service ≠ 0)
    {t : Option MinuteTime} (asked : timeAsked time = some t) {x : EventRecord}
    (found : eventFound s.cache service t = some x) :
    exec (.readEvent r service time) s = .next (s.place r
      (.ok (eventBlock x ++ [boolByte (s.cache.currentOf service == some x)]))) := by
  rw [exec_readEvent_of_wellAsked taken nonzero asked]
  cases held : s.cache.entryFor service with
  | none => rw [eventFound, held] at found; cases found
  | some e =>
    rw [eventFound, held] at found
    rw [GuideCache.currentOf, held]
    dsimp only
    rw [lookUp_of_some found]
    rfl

end ReadEvent

/-- R136: a time is asked for unless its minute is out of range. -/
theorem timeAsked_eq_none {d m : Half} (large : 1440 ≤ m.toNat) : timeAsked (some (d, m)) = none :=
  if_neg (Nat.not_lt.mpr large)

theorem boolByte_eq_one_iff (b : Bool) : boolByte b = 1 ↔ b = true := by
  cases b <;> decide

theorem boolByte_cases (b : Bool) : boolByte b = 0 ∨ boolByte b = 1 := by
  cases b <;> decide

/-- Settles O40: READ_EVENT by the record its operands ask for; LIST_EVENTS by what sorting the later records does. -/
theorem lookupsFindTheServicesRecords : Obligations.LookupsFindTheServicesRecords := by
  refine ⟨fun r service time s taken => ⟨fun bad => ?_, fun nonzero inRange => ?_⟩,
    fun r service day minute s taken => ⟨fun bad => ?_, fun nonzero early absent => ?_, fun e nonzero early held => ?_⟩⟩
  · refine exec_readEvent_of_illAsked taken (bad.imp_right ?_)
    rintro ⟨d, m, rfl, large⟩
    exact timeAsked_eq_none large
  · obtain ⟨t, asked, sameFound⟩ : ∃ t, timeAsked time = some t ∧ ((s.cache.entryFor service).bind fun e =>
        match time with
        | none => e.current
        | some (d, m) => e.records.find? fun x => covers x { day := d.toNat, minute := m.toNat }) =
          eventFound s.cache service t := by
      cases time with
      | none => exact ⟨none, rfl, rfl⟩
      | some dm => exact ⟨_, if_pos (inRange dm.1 dm.2 rfl), rfl⟩
    intro found
    have sameFound : found = eventFound s.cache service t := sameFound
    refine ⟨fun absent => ?_, fun x isFound => ?_⟩
    · exact exec_readEvent_of_notFound taken nonzero asked (sameFound.symm.trans absent)
    · refine ⟨_, exec_readEvent_of_found taken nonzero asked (sameFound.symm.trans isFound), ?_, boolByte_cases _⟩
      rw [boolByte_eq_one_iff, beq_iff_eq]
  · rw [exec_listEvents, execListEvents, onRequest_handed taken, reading, if_pos bad]
  · rw [exec_listEvents, execListEvents, onRequest_handed taken, reading,
      if_neg (not_or.mpr ⟨nonzero, Nat.not_le.mpr early⟩), absent]
  · refine ⟨startingAfter { day := day.toNat, minute := minute.toNat } e.records, ?_, (sortBy_spec _ _).1,
      (sortBy_spec _ _).2⟩
    rw [exec_listEvents, execListEvents, onRequest_handed taken, reading,
      if_neg (not_or.mpr ⟨nonzero, Nat.not_le.mpr early⟩), held]
    simp [eventList, List.length_take, Nat.min_comm, boolByte]

/-! ### The directory within its size (R124, R125) -/

/-- R124, R125, of a directory by itself. -/
def directorySound (d : Vector (Option Entry) 32) : Prop :=
  (storedRecords d).length ≤ 384 ∧
  ∀ (i j : Fin 32) (a b : Entry), d[i] = some a → d[j] = some b → a.service = b.service → i = j

theorem State.cacheSound_iff (s : State) : s.cacheSound ↔ directorySound s.cache.directory := Iff.rfl

theorem directorySound_empty : directorySound (Vector.replicate 32 none) := by
  refine ⟨by decide, fun i j a b held => ?_⟩
  simp at held

/-- Thinning keeps the services apart. -/
theorem directorySound_of_thinned {d e : Vector (Option Entry) 32} (sound : directorySound d) (thin : thinned d e) :
    directorySound e := by
  refine ⟨(length_storedRecords_le_of_thinned thin).trans sound.1, fun i j a b ha hb same => ?_⟩
  obtain ⟨x, hx, service⟩ := thinned_some thin ha
  obtain ⟨y, hy, service'⟩ := thinned_some thin hb
  exact sound.2 i j x y hx hy (by rw [← service, ← service', same])

/-- R131: what a commit leaves is sound: the evicted make room, and the service stands in one entry. -/
theorem commitResult_sound {c : Commit} {d e : Vector (Option Entry) 32} {changed : Bool} (sound : directorySound d)
    (h : commitResult c d = .committed e changed) : directorySound e := by
  cases taken : entryForCommit d c.table.service with
  | none => rw [commitResult_of_none taken] at h; cases h
  | some i =>
    rw [commitResult_of_some taken] at h
    split at h
    next => cases h
    next f evicted =>
      cases h
      obtain ⟨count, evictedThin, -⟩ := evict_spec evicted
      have cutThin := withoutReplaced_thinned c.table d
      have cutSound := directorySound_of_thinned sound cutThin
      have thin := thinned_trans cutThin evictedThin
      have fSound := directorySound_of_thinned sound thin
      refine ⟨?_, ?_⟩
      · have share := length_storedRecords_put f i (some (committedEntry c f[i]))
        have length := (committedEntry_perm c f[i]).length_eq
        have kept := length_keptRecords_le c f[i]
        have small := cutSound.1
        rw [entryRecords_some, length, List.length_append] at share
        unfold shortfall Config.storeSize at count
        omega
      · have alone : ∀ (j : Fin 32) (b : Entry), j ≠ i → f[j] = some b → b.service ≠ c.table.service := by
          intro j b other hb own
          obtain ⟨y, hy, service⟩ := thinned_some thin hb
          rcases entryForCommit_some taken with ⟨x, hx, ours⟩ | absent
          · exact other (sound.2 j i y x hy hx (by rw [← service, own, ours]))
          · exact absent j y hy (by rw [← service, own])
        intro j k a b ha hb same
        rw [put_get] at ha hb
        split at ha
        next atI =>
          split at hb
          next atI' => rw [← atI, ← atI']
          next notI =>
            cases ha
            exact absurd same.symm (alone k b (Ne.symm notI) hb)
        next notI =>
          split at hb
          next atI' =>
            cases hb
            exact absurd same (alone j a (Ne.symm notI) ha)
          next => exact fSound.2 j k a b ha hb same

theorem State.completeCommit_cacheSound {s : State} (sound : s.cacheSound) (c : Commit) : (s.completeCommit c).cacheSound := by
  cases h : commitResult c s.cache.directory with
  | refused o => rw [State.completeCommit_of_refused h]; exact sound
  | committed d changed =>
    rw [State.completeCommit_of_committed h]
    exact commitResult_sound sound h

/-- A directory whose entries keep service and records is as sound as it was. -/
theorem directorySound_map {d e : Vector (Option Entry) 32} {f : Entry → Entry} (sound : directorySound d)
    (each : ∀ i : Fin 32, e[i] = d[i].map f) (records : ∀ x, (f x).records = x.records)
    (service : ∀ x, (f x).service = x.service) : directorySound e := by
  refine ⟨?_, fun i j a b ha hb same => ?_⟩
  · refine le_trans (length_flatMap_le entryRecords entryRecords (List.forall₂_iff_get.mpr ⟨by simp, fun i hi _ => ?_⟩))
      sound.1
    have small : i < 32 := by simpa using hi
    have here := each ⟨i, small⟩
    simp only [List.get_eq_getElem, Vector.getElem_toList]
    change (entryRecords e[(⟨i, small⟩ : Fin 32)]).length ≤ (entryRecords d[(⟨i, small⟩ : Fin 32)]).length
    rw [here]
    cases d[(⟨i, small⟩ : Fin 32)] with
    | none => exact Nat.le_refl _
    | some x => simp [records]
  · rw [each i] at ha
    rw [each j] at hb
    obtain ⟨x, hx, rfl⟩ := Option.map_eq_some_iff.mp ha
    obtain ⟨y, hy, rfl⟩ := Option.map_eq_some_iff.mp hb
    rw [service, service] at same
    exact sound.2 i j x y hx hy same

theorem State.takeMinute_cacheSound {s : State} (sound : s.cacheSound) : s.takeMinute.cacheSound := by
  obtain ⟨d, taken, each⟩ := s.takeMinute_spec
  rw [taken]
  exact directorySound_map sound each (fun _ => rfl) fun _ => rfl

/-- The cache's share of O58: a commit and a MINUTE keep the directory sound, and a load empties it. -/
theorem step_keeps_cacheSound {s t : State} (sound : s.cacheSound) (stepped : step s = .next t) : t.cacheSound := by
  refine step_keeps_timeless (bs := [.cache]) ?_ (by simp) ?_ sound stepped
  · exact fun s t same sound => by rwa [State.cacheSound_iff, same .cache (by simp)]
  intro c s t touched sound next
  cases c <;> simp [changedBlocks, everyBlock] at touched <;> unfold exec at next
  case commit table =>
    refine message_keeps (fun _ => sound) sound (fun u h => ?_) next
    exact h
  case commitCompletion =>
    cases next
    split
    next => exact sound
    next c _ =>
      have completed := State.completeCommit_cacheSound sound c
      unfold State.takeHeldMinute
      split
      · exact State.takeMinute_cacheSound completed
      · exact completed
  case minute =>
    refine message_keeps (fun _ => sound) sound (fun u h => ?_) next
    split
    · exact h
    · exact State.takeMinute_cacheSound h
  case loadBegin straps | resetNRelease straps =>
    refine occasion_keeps sound (fun _ => ?_) next
    exact directorySound_empty
  case powerOn | resetNAssert | powerLoss => cases next; exact directorySound_empty

end Sys2Proof.Machine
end

section
/-! PROOFS. The guide link (05 R102 to R121). The first part says once what a symbol taken from the FIFO does to the receiver;
it settles O34 to O37 and, with the cache's share, O58. -/

namespace Sys2Proof.Machine

/-! ### Taking a symbol (R103, R104) -/

/-- R103, R104: the receiver once it has taken a symbol and handled it, the FIFO having q left. -/
def GuideReceiver.took (u : GuideReceiver) (q : List Symbol) : GuideReceiver :=
  { u with fifo := q, lossMark := u.lossMark && !q.isEmpty }

theorem GuideReceiver.afterTake_eq (u : GuideReceiver) (q : List Symbol) :
    GuideReceiver.afterTake { u with fifo := q } = u.took q := by
  cases q <;> simp [GuideReceiver.afterTake, GuideReceiver.took]

section Taking

variable {s : State} {sym : Symbol} {q : List Symbol}

/-- A symbol at the head of the FIFO is taken in every state but HANDOFF, and handled with the FIFO's rest. -/
theorem onSymbol_of_head (head : s.receiver.fifo = sym :: q) (free : s.receiver.state ≠ .handoff) {act : State → State}
    {u : GuideReceiver} {ms : List Instr}
    (handled : act (s.withReceiver { s.receiver with fifo := q }) = (s.withReceiver { u with fifo := q }).sendAll ms) :
    onSymbol sym s act = .next ((s.withReceiver (u.took q)).sendAll ms) := by
  have occasion : (s.receiver.fifo.head? == some sym && s.receiver.state != .handoff) = true := by
    simp [head, free]
  have given : (s.receive fun u => { u with fifo := u.fifo.tail }) = s.withReceiver { s.receiver with fifo := q } := by
    simp only [State.receive, head, List.tail_cons]
  rw [onSymbol, onOccasion, if_pos occasion, given, handled, State.receive, State.sendAll_receiver,
    State.withReceiver_receiver, GuideReceiver.afterTake_eq]
  rfl

/-- A symbol that changes the receiver's record and sends nothing. -/
theorem onSymbol_receive (head : s.receiver.fifo = sym :: q) (free : s.receiver.state ≠ .handoff)
    {f : State → GuideReceiver → GuideReceiver} {u : GuideReceiver}
    (handled : f (s.withReceiver { s.receiver with fifo := q }) { s.receiver with fifo := q } = { u with fifo := q }) :
    onSymbol sym s (fun s => s.receive (f s)) = .next (s.withReceiver (u.took q)) := by
  rw [onSymbol_of_head head free (u := u) (ms := []) ?_, State.sendAll_nil]
  rw [State.receive, State.withReceiver_receiver, handled, State.withReceiver_withReceiver, State.sendAll_nil]

/-- An unknown control is none of the six codes. -/
theorem unknownCode_of_not_mem {c : Byte} (h : c ∉ controlCodes) : unknownCode c = true := by
  simpa [unknownCode, controlCodes, idlCode, sotCode, sorCode, eorCode, eotCode, abtCode, and_assoc] using h

theorem exec_unknownControl {c : Byte} (h : c ∉ controlCodes) (s : State) :
    exec (.unknownControl c) s = onSymbol (.control c) s fun s => s.receive GuideReceiver.takeUnknown := by
  show execUnknownControl c s = _
  rw [execUnknownControl, if_pos (unknownCode_of_not_mem h)]

theorem exec_sot (s : State) : exec .sot s = onSymbol (.control 1) s fun s => s.takeSot := rfl
theorem exec_sor (s : State) : exec .sor s = onSymbol (.control 2) s fun s => s.receive GuideReceiver.takeSor := rfl
theorem exec_eor (s : State) : exec .eor s = onSymbol (.control 3) s fun s => s.receive GuideReceiver.takeEor := rfl
theorem exec_eot (s : State) : exec .eot s = onSymbol (.control 4) s fun s => s.takeEot := rfl
theorem exec_abt (s : State) : exec .abt s = onSymbol (.control 0x0F) s fun s => s.takeAbt := rfl

theorem exec_dataByte (b : Byte) (s : State) :
    exec (.dataByte b) s = onSymbol (.data b) s fun s => s.receive (GuideReceiver.takeData s.cache b) := rfl

end Taking

/-! ### Table 5-6: one equation for each symbol and state -/

section Cases

variable {u : GuideReceiver} {c : GuideCache} {b : Byte} {s : State}

theorem takeData_idle (h : u.state = .idle) : u.takeData c b = u.addStray := by
  simp only [GuideReceiver.takeData, h]

theorem takeData_skip (h : u.state = .skip) : u.takeData c b = u := by
  simp only [GuideReceiver.takeData, h]

theorem takeData_header_short (h : u.state = .header) (short : u.header.length < 12) :
    u.takeData c b = { u with header := u.header ++ [b] } := by
  simp only [GuideReceiver.takeData, h, if_pos short]

theorem takeData_header_full (h : u.state = .header) (full : 12 ≤ u.header.length) :
    u.takeData c b = GuideReceiver.judgeHeader c { u with header := u.header ++ [b] } := by
  simp only [GuideReceiver.takeData, h, if_neg (Nat.not_lt.mpr full)]

theorem takeData_body_closed (h : u.state = .body) (closed : u.recordOpen = false) :
    u.takeData c b = u.framingFault := by
  simp only [GuideReceiver.takeData, h, closed, Bool.not_false, if_true]

theorem takeData_body_short (h : u.state = .body) (opened : u.recordOpen = true) (short : u.record.length < 13) :
    u.takeData c b = { u with record := u.record ++ [b] } := by
  simp only [GuideReceiver.takeData, h, opened, Bool.not_true, Bool.false_eq_true, if_false, if_pos short]

theorem takeData_body_full (h : u.state = .body) (opened : u.recordOpen = true) (full : 13 ≤ u.record.length) :
    u.takeData c b = u.framingFault := by
  simp only [GuideReceiver.takeData, h, opened, Bool.not_true, Bool.false_eq_true, if_false, if_neg (Nat.not_lt.mpr full)]

theorem takeSor_idle (h : u.state = .idle) : u.takeSor = u.addStray := by simp only [GuideReceiver.takeSor, h]

theorem takeSor_skip (h : u.state = .skip) : u.takeSor = u := by simp only [GuideReceiver.takeSor, h]

theorem takeSor_header (h : u.state = .header) : u.takeSor = u.framingFault := by simp only [GuideReceiver.takeSor, h]

theorem takeSor_body_open (h : u.state = .body) (opened : u.recordOpen = true) :
    u.takeSor = { u.framingFault with record := [] } := by
  simp only [GuideReceiver.takeSor, h, opened, if_true]

theorem takeSor_body_closed (h : u.state = .body) (closed : u.recordOpen = false) :
    u.takeSor = { u with
      recordOpen := true, record := [], damaged := u.damaged || decide (48 ≤ u.records.length) } := by
  simp only [GuideReceiver.takeSor, h, closed, Bool.false_eq_true, if_false, Config.stagingSize]
  split
  next full => simp [full, GuideReceiver.markDamaged, h]
  next room => simp [room]

theorem takeEor_idle (h : u.state = .idle) : u.takeEor = u.addStray := by simp only [GuideReceiver.takeEor, h]

theorem takeEor_skip (h : u.state = .skip) : u.takeEor = u := by simp only [GuideReceiver.takeEor, h]

theorem takeEor_header (h : u.state = .header) : u.takeEor = u.framingFault := by simp only [GuideReceiver.takeEor, h]

theorem takeEor_body_closed (h : u.state = .body) (closed : u.recordOpen = false) : u.takeEor = u.framingFault := by
  simp only [GuideReceiver.takeEor, h, closed, Bool.false_eq_true, if_false]

theorem takeEor_body_open (h : u.state = .body) (opened : u.recordOpen = true) : u.takeEor = u.judgeRecord := by
  simp only [GuideReceiver.takeEor, h, opened, if_true]

theorem takeUnknown_between (h : u.state = .idle ∨ u.state = .skip) : u.takeUnknown = u.addFraming := by
  rcases h with h | h <;> simp only [GuideReceiver.takeUnknown, h]

theorem takeUnknown_within (h : u.state = .header ∨ u.state = .body) : u.takeUnknown = u.framingFault := by
  rcases h with h | h <;> simp only [GuideReceiver.takeUnknown, h]

theorem takeEot_idle (h : s.receiver.state = .idle) : s.takeEot = s.receive GuideReceiver.addStray := by
  simp only [State.takeEot, h]

theorem takeEot_skip (h : s.receiver.state = .skip) : s.takeEot = s.endDuplicate := by simp only [State.takeEot, h]

theorem takeEot_header (h : s.receiver.state = .header) : s.takeEot = s.discardDamaged := by
  simp only [State.takeEot, h]

theorem takeEot_body_open (h : s.receiver.state = .body) (opened : s.receiver.recordOpen = true) :
    s.takeEot = (s.receive GuideReceiver.framingFault).discardDamaged := by
  simp only [State.takeEot, h, opened, if_true]

theorem takeEot_body_closed (h : s.receiver.state = .body) (closed : s.receiver.recordOpen = false) :
    s.takeEot = s.endTable := by
  simp only [State.takeEot, h, closed, Bool.false_eq_true, if_false]

theorem takeAbt_idle (h : s.receiver.state = .idle) : s.takeAbt = s.receive GuideReceiver.addStray := by
  simp only [State.takeAbt, h]

theorem takeAbt_skip (h : s.receiver.state = .skip) : s.takeAbt = s.endDuplicate := by simp only [State.takeAbt, h]

theorem takeAbt_within (h : s.receiver.state = .header ∨ s.receiver.state = .body) : s.takeAbt = s.abandonTable := by
  rcases h with h | h <;> simp only [State.takeAbt, h]

theorem takeSot_idle (h : s.receiver.state = .idle) : s.takeSot = s.receive GuideReceiver.openTable := by
  simp only [State.takeSot, h]

theorem takeSot_skip (h : s.receiver.state = .skip) :
    s.takeSot = s.endDuplicate.receive GuideReceiver.openTable := by
  simp only [State.takeSot, h]

theorem takeSot_within (h : s.receiver.state = .header ∨ s.receiver.state = .body) :
    s.takeSot = s.abandonTable.receive GuideReceiver.openTable := by
  rcases h with h | h <;> simp only [State.takeSot, h]

end Cases

/-- Settles O35: each symbol by its equation for IDLE or for SKIP. -/
theorem idleAndSkipWaitForATable : Obligations.IdleAndSkipWaitForATable := by
  intro s sym q head v up took idle opened stray framing doubled
  have quiet : ∀ {act : State → State} {u : GuideReceiver}, s.receiver.state ≠ .handoff →
      act (s.withReceiver { s.receiver with fifo := q }) = s.withReceiver { u with fifo := q } →
      onSymbol sym s act = .next (s.withReceiver (u.took q)) := fun free handled => by
    rw [onSymbol_of_head head free (ms := []) (handled.trans (State.sendAll_nil _).symm), State.sendAll_nil]
  refine ⟨fun state => ?_, fun state => ?_⟩
  · have free : s.receiver.state ≠ .handoff := by rw [state]; exact ReceiverState.noConfusion
    refine ⟨?data, ?sot, ?sor, ?eor, ?eot, ?abt, ?unknown⟩
    case data =>
      rintro b rfl
      rw [exec_dataByte]
      exact onSymbol_receive head free (u := stray) (by exact takeData_idle state)
    case sot => rintro rfl; rw [exec_sot]; exact quiet free (u := opened) (by exact takeSot_idle state)
    case sor => rintro rfl; rw [exec_sor]; exact onSymbol_receive head free (u := stray) (by exact takeSor_idle state)
    case eor => rintro rfl; rw [exec_eor]; exact onSymbol_receive head free (u := stray) (by exact takeEor_idle state)
    case eot => rintro rfl; rw [exec_eot]; exact quiet free (u := stray) (by exact takeEot_idle state)
    case abt => rintro rfl; rw [exec_abt]; exact quiet free (u := stray) (by exact takeAbt_idle state)
    case unknown =>
      rintro c rfl new
      rw [exec_unknownControl new]
      exact onSymbol_receive head free (u := framing) (by exact takeUnknown_between (.inl state))
  · have free : s.receiver.state ≠ .handoff := by rw [state]; exact ReceiverState.noConfusion
    refine ⟨?data, ?sot, ?sor, ?eor, ?eot, ?abt, ?unknown⟩
    case data =>
      rintro b rfl
      rw [exec_dataByte]
      exact onSymbol_receive head free (u := v) (by exact takeData_skip state)
    case sot => rintro rfl; rw [exec_sot]; exact quiet free (u := { opened with counts := doubled }) (by exact takeSot_skip state)
    case sor => rintro rfl; rw [exec_sor]; exact onSymbol_receive head free (u := v) (by exact takeSor_skip state)
    case eor => rintro rfl; rw [exec_eor]; exact onSymbol_receive head free (u := v) (by exact takeEor_skip state)
    case eot => rintro rfl; rw [exec_eot]; exact quiet free (u := { idle with counts := doubled }) (by exact takeEot_skip state)
    case abt => rintro rfl; rw [exec_abt]; exact quiet free (u := { idle with counts := doubled }) (by exact takeAbt_skip state)
    case unknown =>
      rintro c rfl new
      rw [exec_unknownControl new]
      exact onSymbol_receive head free (u := framing) (by exact takeUnknown_between (.inr state))

/-! ### Judging a header and a record (R112, R114): one equation for each outcome -/

section Judging

variable {c : GuideCache} {u : GuideReceiver}

/-- R112: the receiver goes on to BODY. -/
def GuideReceiver.toBody (u : GuideReceiver) : GuideReceiver :=
  { u with state := .body, header := [], recordOpen := false, record := [] }

theorem judgeHeader_damaged (damaged : u.damaged = true) : GuideReceiver.judgeHeader c u = u.toBody := by
  rw [GuideReceiver.judgeHeader, if_pos damaged]
  rfl

theorem judgeHeader_fault (sound : u.damaged = false) (fault : headerOf u.header = none) :
    GuideReceiver.judgeHeader c u = u.toBody.markDamaged := by
  rw [GuideReceiver.judgeHeader, sound, if_neg Bool.false_ne_true, fault]
  rfl

theorem judgeHeader_held (sound : u.damaged = false) {h : TableHeader} (valid : headerOf u.header = some h)
    (held : c.holdsVersion h = true) : GuideReceiver.judgeHeader c u = { u.toIdle with state := .skip } := by
  rw [GuideReceiver.judgeHeader, sound, if_neg Bool.false_ne_true, valid]
  exact if_pos held

theorem judgeHeader_new (sound : u.damaged = false) {h : TableHeader} (valid : headerOf u.header = some h)
    (new : c.holdsVersion h = false) : GuideReceiver.judgeHeader c u = { u.toBody with staged := some h } := by
  simp only [GuideReceiver.judgeHeader, sound, Bool.false_eq_true, if_false, valid, new, GuideReceiver.toBody]

/-- R114: the record just closed. -/
def GuideReceiver.closeRecord (u : GuideReceiver) : GuideReceiver := { u with recordOpen := false, record := [] }

theorem judgeRecord_damaged (damaged : u.damaged = true) : u.judgeRecord = u.closeRecord := by
  rw [GuideReceiver.judgeRecord, if_pos damaged]
  rfl

theorem judgeRecord_staged (sound : u.damaged = false) {h : TableHeader} {e : EventRecord} (header : u.staged = some h)
    (valid : recordOf u.record = some e) (room : u.records.length < 48) (follows : placed h u.records e = true) :
    u.judgeRecord = { u.closeRecord with records := u.records ++ [e] } := by
  simp only [GuideReceiver.judgeRecord, sound, Bool.false_eq_true, if_false, valid, header, Config.stagingSize,
    if_neg (Nat.not_le.mpr room), follows, if_true, GuideReceiver.closeRecord]

theorem judgeRecord_fault (sound : u.damaged = false) {h : TableHeader} (header : u.staged = some h)
    (fault : recordOf u.record = none ∨ 48 ≤ u.records.length ∨
      ∃ e : EventRecord, recordOf u.record = some e ∧ placed h u.records e = false) :
    u.judgeRecord = u.closeRecord.markDamaged := by
  cases valid : recordOf u.record with
  | none =>
    simp only [GuideReceiver.judgeRecord, sound, Bool.false_eq_true, if_false, valid, header, GuideReceiver.closeRecord]
  | some e =>
    by_cases full : 48 ≤ u.records.length
    · simp only [GuideReceiver.judgeRecord, sound, Bool.false_eq_true, if_false, valid, header, Config.stagingSize,
        if_pos full, GuideReceiver.closeRecord]
    · have late : placed h u.records e = false := by simpa [valid, full] using fault
      simp only [GuideReceiver.judgeRecord, sound, Bool.false_eq_true, if_false, valid, header, Config.stagingSize,
        if_neg full, late, GuideReceiver.closeRecord]

end Judging

/-! ### The end of a table (R115, R116, R118) -/

theorem discardDamaged_eq (s : State) :
    s.discardDamaged = (s.withReceiver s.receiver.toIdle.addDamaged).sendAll [.notice .receiver .guide .every 0] := rfl

theorem abandonTable_eq (s : State) :
    s.abandonTable = (s.withReceiver s.receiver.toIdle.addAbandoned).sendAll [.notice .receiver .guide .every 0] := rfl

/-- R115: an EOT that finds the table marked, its count wrong, or no judged header. -/
theorem endTable_of_damaged {s : State} (bad : s.receiver.endsDamaged = true) : s.endTable = s.discardDamaged := by
  rw [State.endTable, if_pos bad]

theorem endsDamaged_of {u : GuideReceiver}
    (bad : u.damaged = true ∨ ∀ h : TableHeader, u.staged = some h → h.recordCount ≠ u.records.length) :
    u.endsDamaged = true := by
  unfold GuideReceiver.endsDamaged
  rcases bad with marked | count
  · rw [marked, Bool.true_or]
  · cases header : u.staged with
    | none => exact Bool.or_true _
    | some h => simp [count h header]

/-- Settles O36: each symbol by its equation for HEADER or for BODY. -/
theorem headerAndBodyCollectATable : Obligations.HeaderAndBodyCollectATable := by
  intro s sym q head v up took idle opened framed framing gone spoilt told
  refine ⟨fun within => ?within, fun state => ?header, fun state closed => ?closed, fun state isOpen => ?isOpen⟩
  case within =>
    have free : s.receiver.state ≠ .handoff := by rcases within with h | h <;> (rw [h]; exact ReceiverState.noConfusion)
    refine ⟨?_, ?_, ?_⟩
    · rintro rfl
      rw [exec_sot]
      exact onSymbol_of_head head free (u := { opened with counts := gone }) (by rw [takeSot_within (by exact within)]; rfl)
    · rintro rfl
      rw [exec_abt]
      exact onSymbol_of_head head free (u := { idle with counts := gone }) (by rw [takeAbt_within (by exact within)]; rfl)
    · rintro c rfl new
      rw [exec_unknownControl new]
      exact onSymbol_receive head free (u := framing) (by exact takeUnknown_within within)
  case header =>
    have free : s.receiver.state ≠ .handoff := by rw [state]; exact ReceiverState.noConfusion
    refine ⟨?_, ?_, ?_, ?_, ?_⟩
    · rintro b rfl short
      rw [exec_dataByte]
      exact onSymbol_receive head free (u := { v with header := v.header ++ [b] })
        (by exact takeData_header_short state short)
    · rintro b rfl full body
      rw [exec_dataByte]
      refine ⟨fun damaged => ?_, fun sound fault => ?_, fun h sound valid => ⟨fun held => ?_, fun new => ?_⟩⟩
      · exact onSymbol_receive head free (u := body)
          ((takeData_header_full (u := { v with fifo := q }) state full).trans
          (by exact judgeHeader_damaged (by exact damaged)))
      · exact onSymbol_receive head free (u := { body with damaged := true })
          ((takeData_header_full (u := { v with fifo := q }) state full).trans
          (by exact judgeHeader_fault (by exact sound) (by exact fault)))
      · exact onSymbol_receive head free (u := { idle with state := .skip })
          ((takeData_header_full (u := { v with fifo := q }) state full).trans
          (by exact judgeHeader_held (by exact sound) (by exact valid) (by exact held)))
      · exact onSymbol_receive head free (u := { body with staged := some h })
          ((takeData_header_full (u := { v with fifo := q }) state full).trans
          (by exact judgeHeader_new (by exact sound) (by exact valid) (by exact new)))
    · rintro rfl
      rw [exec_sor]
      exact onSymbol_receive head free (u := framing) (by exact takeSor_header state)
    · rintro rfl
      rw [exec_eor]
      exact onSymbol_receive head free (u := framing) (by exact takeEor_header state)
    · rintro rfl
      rw [exec_eot]
      exact onSymbol_of_head head free (u := { idle with counts := spoilt }) (by exact takeEot_header state)
  case closed =>
    have free : s.receiver.state ≠ .handoff := by rw [state]; exact ReceiverState.noConfusion
    refine ⟨?_, ?_, ?_, ?_⟩
    · rintro b rfl
      rw [exec_dataByte]
      exact onSymbol_receive head free (u := framing) (by exact takeData_body_closed state closed)
    · rintro rfl
      rw [exec_sor]
      exact onSymbol_receive head free (u := { v with
        recordOpen := true, record := [], damaged := v.damaged || decide (48 ≤ v.records.length) })
        (by exact takeSor_body_closed state closed)
    · rintro rfl
      rw [exec_eor]
      exact onSymbol_receive head free (u := framing) (by exact takeEor_body_closed state closed)
    · rintro rfl bad
      rw [exec_eot]
      exact onSymbol_of_head head free (u := { idle with counts := spoilt })
        ((takeEot_body_closed (s := s.withReceiver { v with fifo := q }) state closed).trans
          (endTable_of_damaged (by exact endsDamaged_of (by exact bad))))
  case isOpen =>
    have free : s.receiver.state ≠ .handoff := by rw [state]; exact ReceiverState.noConfusion
    refine ⟨?_, ?_, ?_, ?_, ?_⟩
    · rintro b rfl short
      rw [exec_dataByte]
      exact onSymbol_receive head free (u := { v with record := v.record ++ [b] })
        (by exact takeData_body_short state isOpen short)
    · rintro b rfl full
      rw [exec_dataByte]
      exact onSymbol_receive head free (u := framing) (by exact takeData_body_full state isOpen full)
    · rintro rfl
      rw [exec_sor]
      exact onSymbol_receive head free (u := { framing with record := [] }) (by exact takeSor_body_open state isOpen)
    · rintro rfl
      rw [exec_eot]
      exact onSymbol_of_head head free (u := { idle with counts := { framed with damaged := up v.counts.damaged } })
        (by exact takeEot_body_open state isOpen)
    · rintro rfl closed
      rw [exec_eor]
      refine ⟨fun damaged => ?_, fun h e sound header valid room follows => ?_, fun h sound header fault => ?_⟩
      · exact onSymbol_receive head free (u := closed)
          ((takeEor_body_open (u := { v with fifo := q }) state isOpen).trans
          (by exact judgeRecord_damaged (by exact damaged)))
      · exact onSymbol_receive head free (u := { closed with records := v.records ++ [e] })
          ((takeEor_body_open (u := { v with fifo := q }) state isOpen).trans
          (by exact judgeRecord_staged (by exact sound) (by exact header) (by exact valid) (by exact room) (by exact follows)))
      · exact onSymbol_receive head free (u := { closed with damaged := true })
          ((takeEor_body_open (u := { v with fifo := q }) state isOpen).trans
          (by exact judgeRecord_fault (by exact sound) (by exact header) (by exact fault)))

/-! ### The hand-off (R118) and COMMIT_DONE (R119) -/

section HandOff

variable {s : State} {h : TableHeader}

theorem handOff_outstanding (busy : s.receiver.commitOutstanding = true) : s.handOff = s := by
  unfold State.handOff
  split
  · rfl
  · rw [if_pos busy]

theorem handOff_held (header : s.receiver.staged = some h) (free : s.receiver.commitOutstanding = false)
    (held : s.cache.holdsVersion h = true) : s.handOff = s.endDuplicate := by
  simp only [State.handOff, header, free, Bool.false_eq_true, if_false, held, if_true]

theorem handOff_new (header : s.receiver.staged = some h) (free : s.receiver.commitOutstanding = false)
    (new : s.cache.holdsVersion h = false) :
    s.handOff = (s.withReceiver { s.receiver with
      staged := none, records := [], tableHeld := false, commitOutstanding := true }).sendAll
        [.commit (tableStaged h s.receiver.records)] := by
  simp only [State.handOff, header, free, Bool.false_eq_true, if_false, new]
  rfl

/-- R115: an EOT finds the table whole. -/
theorem endTable_of_whole (header : s.receiver.staged = some h) (sound : s.receiver.damaged = false)
    (count : h.recordCount = s.receiver.records.length) :
    s.endTable = (s.withReceiver { s.receiver with state := .handoff, tableHeld := true }).handOff := by
  have whole : s.receiver.endsDamaged = false := by simp [GuideReceiver.endsDamaged, header, sound, count]
  rw [State.endTable, whole, if_neg Bool.false_ne_true]
  rfl

theorem exec_commitDone (outcome : CommitOutcome) (s : State) :
    exec (.commitDone outcome) s = execCommitDone outcome s := rfl

/-- R119: an outcome taken while a commit is outstanding. -/
theorem takeCommitDone_eq (outstanding : s.receiver.commitOutstanding = true) (outcome : CommitOutcome) :
    s.takeCommitDone outcome =
      if s.receiver.state = .handoff then
        if s.receiver.tableHeld then (s.withReceiver (GuideReceiver.commitEnds outcome s.receiver)).handOff
        else s.withReceiver (GuideReceiver.commitEnds outcome s.receiver).toIdle
      else s.withReceiver (GuideReceiver.commitEnds outcome s.receiver) := by
  rw [State.takeCommitDone, if_pos outstanding]
  rfl

theorem commitEnds_eq (outcome : CommitOutcome) (u : GuideReceiver) :
    GuideReceiver.commitEnds outcome u = { u with
      counts := if outcome = .committed then { u.counts with committed := min (u.counts.committed + 1) 65535 }
        else { u.counts with refused := min (u.counts.refused + 1) 65535 }
      commitOutstanding := false } := by
  unfold GuideReceiver.commitEnds
  split <;> rfl

end HandOff

/-- Settles O37: an EOT and a COMMIT_DONE by what the hand-off does in its three cases. -/
theorem tablesAreHandedOffOneAtATime : Obligations.TablesAreHandedOffOneAtATime := by
  intro s v up idle sent
  refine ⟨fun q h head state closed sound header count => ?eot, fun outcome rest taken outstanding => ?done,
    fun r handed => ?reset⟩
  case eot =>
    have free : s.receiver.state ≠ .handoff := by rw [state]; exact ReceiverState.noConfusion
    have ends : ∀ t : State, t = s.withReceiver { s.receiver with fifo := q } →
        t.takeEot = (t.withReceiver { t.receiver with state := .handoff, tableHeld := true }).handOff := by
      rintro t rfl
      exact (takeEot_body_closed (s := s.withReceiver { v with fifo := q }) state closed).trans
        (by exact endTable_of_whole (by exact header) (by exact sound) (by exact count))
    intro took
    refine ⟨fun busy => ?_, fun idleCommit held => ?_, fun idleCommit new => ?_⟩
    · rw [exec_eot, onSymbol_of_head head free (u := { v with state := .handoff, tableHeld := true }) (ms := []) ?_]
      · exact congrArg _ (State.sendAll_nil _)
      · exact (ends _ rfl).trans ((handOff_outstanding (by exact busy)).trans (by exact (State.sendAll_nil _).symm))
    · rw [exec_eot, onSymbol_of_head head free (ms := [])
        (u := { idle with counts := { v.counts with duplicate := up v.counts.duplicate } }) ?_]
      · exact congrArg _ (State.sendAll_nil _)
      · exact (ends _ rfl).trans ((handOff_held (by exact header) (by exact idleCommit) (by exact held)).trans
          (by exact (State.sendAll_nil _).symm))
    · rw [exec_eot]
      exact onSymbol_of_head head free (u := { v with
        state := .handoff, staged := none, records := [], tableHeld := false, commitOutstanding := true })
        ((ends _ rfl).trans (handOff_new header idleCommit new))
  case done =>
    intro counts t
    have done := takeCommitDone_eq (s := t) outstanding outcome
    rw [commitEnds_eq] at done
    rw [exec_commitDone, execCommitDone, onMessage_taken taken]
    refine ⟨fun other => ?_, fun state empty => ?_, fun h state full header => ⟨fun held => ?_, fun new => ?_⟩⟩
    · rw [done, if_neg (by exact other)]
      rfl
    · rw [done, if_pos (by exact state), if_neg (by rw [show t.receiver.tableHeld = false from empty]; simp)]
      rfl
    · rw [done, if_pos (by exact state), if_pos (by exact full), handOff_held (by exact header) rfl (by exact held)]
      have same : counts.duplicate = v.counts.duplicate := by
        simp only [counts]
        split <;> rfl
      rw [← same]
      rfl
    · rw [done, if_pos (by exact state), if_pos (by exact full), handOff_new (by exact header) rfl (by exact new)]
      rw [outstanding]
      rfl
  case reset =>
    unfold exec
    exact onRequest_handed handed _

/-! ### Samples and arrivals (R102, R103, R193) -/

/-- R193: bit `i` of a value whose first sample is the most significant is sample `i` from the end. -/
theorem testBit_foldl_bits (bits : List Bool) :
    ∀ i : Nat, (bits.foldl (fun (n : Nat) (b : Bool) => 2 * n + b.toNat) 0).testBit i = bits.reverse.getD i false := by
  induction bits using List.reverseRecOn with
  | nil => simp
  | append_singleton bits b ih =>
    intro i
    rw [List.foldl_append, List.reverse_append]
    cases i with
    | zero => cases b <;> simp [Nat.testBit_zero]
    | succ i =>
      have half : ∀ n : Nat, (2 * n + b.toNat) / 2 = n := fun n => by
        have small := b.toNat_lt
        omega
      simpa [Nat.testBit_succ, half] using ih i

/-- The value bits of nine samples: the last sample is bit 0, the second is bit 7. -/
theorem getLsbD_valueOf (samples : Vector Bool 9) {i : Nat} (inByte : i < 8) :
    samples[8 - i]? = some ((valueOf (samples.toList.drop 1)).getLsbD i) := by
  have length : (samples.toList.drop 1).length = 8 := by simp
  have place : (samples.toList.drop 1).reverse[i]? = samples[8 - i]? := by
    rw [List.getElem?_reverse (by omega), length, List.getElem?_drop, Vector.getElem?_toList]
    congr 1
    omega
  have bit := testBit_foldl_bits (samples.toList.drop 1) i
  rw [List.getD_eq_getElem?_getD, place] at bit
  rw [valueOf, byteOf, BitVec.getLsbD_ofNat, bit]
  have inside : 8 - i < 9 := by omega
  simp [inByte, Vector.getElem?_eq_getElem inside]

section Arrival

variable {s : State} {sym : Symbol} {bits : Vector Bool 9} {u : GuideReceiver}

theorem arrive_room (room : u.fifo.length < 64) : u.arrive sym = { u with fifo := u.fifo ++ [sym] } := if_pos room

theorem arrive_full (full : 64 ≤ u.fifo.length) : u.arrive sym = u.addOverrun.loseSymbol := if_neg (Nat.not_lt.mpr full)

theorem exec_symbolArrival (bits : Vector Bool 9) (s : State) :
    exec (.symbolArrival bits) s = execSymbolArrival bits s := rfl

theorem exec_quietGap (n : Nat) (s : State) : exec (.quietGap n) s = execQuietGap n s := rfl

theorem exec_symbolArrival_ignored (ignored : s.receiver.aligned = false ∨ symbolOf bits = .control 0) :
    exec (.symbolArrival bits) s = .next s := by
  rw [exec_symbolArrival, execSymbolArrival, onOccasion]
  rcases ignored with unaligned | idl
  · rw [unaligned, Bool.and_false, if_neg Bool.false_ne_true]
  · exact congrArg Host.Outcome.next (by simp [idl, idlCode])

theorem exec_symbolArrival_aligned (awake : s.awake = true) (loaded : s.loading = false)
    (aligned : s.receiver.aligned = true) (other : symbolOf bits ≠ .control 0) :
    exec (.symbolArrival bits) s = .next (s.receive (GuideReceiver.arrive (symbolOf bits))) := by
  rw [exec_symbolArrival, execSymbolArrival, onOccasion]
  have taken : symbolOf bits ≠ .control idlCode := other
  rw [awake, loaded, aligned, if_neg taken]
  rfl

theorem exec_quietGap_loaded (awake : s.awake = true) (loaded : s.loading = false) (n : Nat) :
    exec (.quietGap n) s = .next (s.receive (GuideReceiver.quiet n)) := by
  rw [exec_quietGap, execQuietGap, onOccasion]
  rw [awake, loaded]
  rfl

theorem quiet_aligns {n : Nat} (whole : u.aligned = false ∨ n = 0) : u.quiet n = { u with aligned := true } :=
  if_neg (by rcases whole with h | h <;> simp [h])

theorem quiet_drops {n : Nat} (aligned : u.aligned = true) (partly : 0 < n) : u.quiet n = u.addFraming.loseSymbol :=
  if_pos (by simp [aligned, partly])

theorem State.loading_eq_false (loaded : s.store.state ≠ .loading) : s.loading = false := by
  simp [State.loading, loaded]

end Arrival

/-- Settles O34: the samples bit by bit, an arrival by room in the FIFO, a quiet gap by what it drops. -/
theorem arrivalsJoinTheFifoOrAreLost : Obligations.ArrivalsJoinTheFifoOrAreLost := by
  refine ⟨fun samples => ⟨_, rfl, fun i => getLsbD_valueOf samples⟩, ?_⟩
  intro s awake loaded v lost
  have ready := State.loading_eq_false loaded
  refine ⟨?_, fun n whole => ?_, fun n aligned partly => ?_⟩
  · intro bits sym
    refine ⟨exec_symbolArrival_ignored, fun aligned other room => ?_, fun aligned other full => ?_⟩
    · rw [exec_symbolArrival_aligned awake ready aligned other, State.receive, arrive_room room]
    · rw [exec_symbolArrival_aligned awake ready aligned other, State.receive, arrive_full full]
      rfl
  · rw [exec_quietGap_loaded awake ready, State.receive, quiet_aligns whole]
  · rw [exec_quietGap_loaded awake ready, State.receive, quiet_drops aligned partly]
    rfl

/-! ### The sizes of the receiver (R103, R108, R120) -/

/-- R120: each counter is 0..65535. -/
def LinkCounts.sound (c : LinkCounts) : Prop :=
  c.committed ≤ 65535 ∧ c.refused ≤ 65535 ∧ c.damaged ≤ 65535 ∧ c.abandoned ≤ 65535 ∧ c.duplicate ≤ 65535 ∧
  c.stray ≤ 65535 ∧ c.framing ≤ 65535 ∧ c.overrun ≤ 65535

/-- R103, R108, R120, without the clause on HANDOFF. -/
def GuideReceiver.sized (u : GuideReceiver) : Prop :=
  u.fifo.length ≤ 64 ∧ u.records.length ≤ 48 ∧ u.header.length ≤ 13 ∧ u.record.length ≤ 13 ∧ u.counts.sound

def GuideReceiver.sound (u : GuideReceiver) : Prop := u.sized ∧ (u.tableHeld = true → u.state = .handoff)

/-- What the receiver meets while it takes symbols: no table is held. -/
def GuideReceiver.collecting (u : GuideReceiver) : Prop := u.sized ∧ u.tableHeld = false

/-- R103, R108, R120, of the machine's receiver. -/
def State.linkSound (s : State) : Prop := s.receiver.sound

theorem State.linkSound_iff (s : State) : s.linkSound ↔ s.receiverSound ∧ s.linkCountsSound := by
  unfold State.linkSound GuideReceiver.sound GuideReceiver.sized State.receiverSound State.linkCountsSound LinkCounts.sound
  tauto

theorem GuideReceiver.cleared_sound (commit aligned : Bool) : (GuideReceiver.cleared commit aligned).sound := by
  simp [GuideReceiver.sound, GuideReceiver.sized, GuideReceiver.cleared, LinkCounts.sound]

theorem countUp_le (n : Nat) : countUp n ≤ 65535 := Nat.min_le_right _ _

namespace GuideReceiver

variable {u : GuideReceiver} {sym : Symbol}

theorem collecting.sound (h : u.collecting) : u.sound := ⟨h.1, fun held => by rw [h.2] at held; cases held⟩

theorem sound.collecting (h : u.sound) (free : u.state ≠ .handoff) : u.collecting :=
  ⟨h.1, Bool.eq_false_iff.mpr fun held => free (h.2 held)⟩

/-- An update that keeps the staging's parts and the counters within their sizes. -/
theorem sized_congr {v : GuideReceiver} (h : u.sized) (fifo : v.fifo = u.fifo) (records : v.records = u.records)
    (header : v.header = u.header) (record : v.record = u.record) (counts : u.counts.sound → v.counts.sound) : v.sized := by
  obtain ⟨hf, hr, hh, ho, hc⟩ := h
  exact ⟨by rwa [fifo], by rwa [records], by rwa [header], by rwa [record], counts hc⟩

theorem addCommitted_sized (h : u.sized) : u.addCommitted.sized :=
  sized_congr h rfl rfl rfl rfl fun c => ⟨countUp_le _, c.2⟩

theorem addRefused_sized (h : u.sized) : u.addRefused.sized :=
  sized_congr h rfl rfl rfl rfl fun ⟨c0, _, c⟩ => ⟨c0, countUp_le _, c⟩

theorem addDamaged_sized (h : u.sized) : u.addDamaged.sized :=
  sized_congr h rfl rfl rfl rfl fun ⟨c0, c1, _, c⟩ => ⟨c0, c1, countUp_le _, c⟩

theorem addAbandoned_sized (h : u.sized) : u.addAbandoned.sized :=
  sized_congr h rfl rfl rfl rfl fun ⟨c0, c1, c2, _, c⟩ => ⟨c0, c1, c2, countUp_le _, c⟩

theorem addDuplicate_sized (h : u.sized) : u.addDuplicate.sized :=
  sized_congr h rfl rfl rfl rfl fun ⟨c0, c1, c2, c3, _, c⟩ => ⟨c0, c1, c2, c3, countUp_le _, c⟩

theorem addStray_sized (h : u.sized) : u.addStray.sized :=
  sized_congr h rfl rfl rfl rfl fun ⟨c0, c1, c2, c3, c4, _, c⟩ => ⟨c0, c1, c2, c3, c4, countUp_le _, c⟩

theorem addFraming_sized (h : u.sized) : u.addFraming.sized :=
  sized_congr h rfl rfl rfl rfl fun ⟨c0, c1, c2, c3, c4, c5, _, c7⟩ => ⟨c0, c1, c2, c3, c4, c5, countUp_le _, c7⟩

theorem addOverrun_sized (h : u.sized) : u.addOverrun.sized :=
  sized_congr h rfl rfl rfl rfl fun ⟨c0, c1, c2, c3, c4, c5, c6, _⟩ => ⟨c0, c1, c2, c3, c4, c5, c6, countUp_le _⟩

/-- An emptied staging is within its sizes, whatever it was. -/
theorem toIdle_collecting (h : u.sized) : u.toIdle.collecting :=
  ⟨⟨h.1, Nat.zero_le _, Nat.zero_le _, Nat.zero_le _, h.2.2.2.2⟩, rfl⟩

theorem openTable_collecting (h : u.sized) : u.openTable.collecting := by
  have idle := toIdle_collecting h
  exact idle

theorem addStray_collecting (h : u.collecting) : u.addStray.collecting := ⟨addStray_sized h.1, h.2⟩

theorem addFraming_collecting (h : u.collecting) : u.addFraming.collecting := ⟨addFraming_sized h.1, h.2⟩

theorem framingFault_collecting (h : u.collecting) : u.framingFault.collecting := ⟨addFraming_sized h.1, h.2⟩

theorem toBody_collecting (h : u.collecting) : u.toBody.collecting := by
  obtain ⟨⟨fifo, records, -, -, counts⟩, free⟩ := h
  exact ⟨⟨fifo, records, Nat.zero_le _, Nat.zero_le _, counts⟩, free⟩

/-- The bytes collected do not matter to the judgement's sizes: it empties them. -/
theorem judgeHeader_collecting (h : u.collecting) (c : GuideCache) (bytes : List Byte) :
    (judgeHeader c { u with header := bytes }).collecting := by
  have body := toBody_collecting h
  have idle := toIdle_collecting h.1
  unfold judgeHeader
  dsimp only
  split
  · exact body
  · split
    · exact body
    · split
      · exact idle
      · exact body

theorem closeRecord_collecting (h : u.collecting) : u.closeRecord.collecting := by
  obtain ⟨⟨fifo, records, header, -, counts⟩, free⟩ := h
  exact ⟨⟨fifo, records, header, Nat.zero_le _, counts⟩, free⟩

theorem judgeRecord_collecting (h : u.collecting) : u.judgeRecord.collecting := by
  have closed := closeRecord_collecting h
  unfold judgeRecord
  dsimp only
  split
  · exact closed
  · split
    · split
      · exact closed
      next room =>
        split
        · obtain ⟨⟨fifo, -, header, record, counts⟩, free⟩ := closed
          refine ⟨⟨fifo, ?_, header, record, counts⟩, free⟩
          rw [List.length_append]
          exact Nat.lt_of_not_le room
        · exact closed
    · exact closed

theorem takeData_collecting (h : u.collecting) (c : GuideCache) (b : Byte) : (u.takeData c b).collecting := by
  obtain ⟨⟨fifo, records, header, record, counts⟩, free⟩ := id h
  unfold takeData
  split
  case h_1 => exact addStray_collecting h
  case h_2 =>
    split
    next short =>
      refine ⟨⟨fifo, records, ?_, record, counts⟩, free⟩
      rw [List.length_append]
      exact Nat.le_of_lt (Nat.succ_lt_succ short)
    next => exact judgeHeader_collecting h c _
  case h_3 =>
    split_ifs
    · exact framingFault_collecting h
    next short =>
      refine ⟨⟨fifo, records, header, ?_, counts⟩, free⟩
      rw [List.length_append]
      exact short
    · exact framingFault_collecting h
  all_goals exact h

theorem takeSor_collecting (h : u.collecting) : u.takeSor.collecting := by
  obtain ⟨⟨fifo, records, header, record, counts⟩, free⟩ := id h
  have opened : ∀ marked : Bool,
      ({ u with damaged := marked, recordOpen := true, record := [] } : GuideReceiver).collecting := fun _ =>
    ⟨⟨fifo, records, header, Nat.zero_le _, counts⟩, free⟩
  unfold takeSor
  split
  case h_1 => exact addStray_collecting h
  case h_2 => exact framingFault_collecting h
  case h_3 =>
    split_ifs
    · exact ⟨⟨fifo, records, header, Nat.zero_le _, (addFraming_sized h.1).2.2.2.2⟩, free⟩
    · exact opened true
    · exact opened u.damaged
  all_goals exact h

theorem takeEor_collecting (h : u.collecting) : u.takeEor.collecting := by
  unfold takeEor
  split
  case h_1 => exact addStray_collecting h
  case h_2 => exact framingFault_collecting h
  case h_3 =>
    split
    · exact judgeRecord_collecting h
    · exact framingFault_collecting h
  all_goals exact h

theorem takeUnknown_collecting (h : u.collecting) : u.takeUnknown.collecting := by
  unfold takeUnknown
  split
  · exact addFraming_collecting h
  · exact addFraming_collecting h
  · exact framingFault_collecting h
  · exact framingFault_collecting h
  · exact h

theorem loseSymbol_sound (h : u.sound) : u.loseSymbol.sound := h

theorem arrive_sound (h : u.sound) : (u.arrive sym).sound := by
  obtain ⟨sized, held⟩ := h
  unfold arrive
  split
  next room =>
    obtain ⟨-, rest⟩ := sized
    refine ⟨⟨?_, rest⟩, held⟩
    rw [List.length_append]
    exact room
  next => exact ⟨addOverrun_sized sized, held⟩

theorem quiet_sound (h : u.sound) (n : Nat) : (u.quiet n).sound := by
  obtain ⟨sized, held⟩ := h
  unfold quiet
  split
  · exact ⟨addFraming_sized sized, held⟩
  · exact ⟨sized, held⟩

theorem afterTake_sound (h : u.sound) : u.afterTake.sound := by
  unfold afterTake
  split <;> exact h

theorem commitEnds_sound (h : u.sound) (outcome : CommitOutcome) : (commitEnds outcome u).sound := by
  obtain ⟨sized, held⟩ := h
  unfold commitEnds
  split
  · exact ⟨addCommitted_sized sized, held⟩
  · exact ⟨addRefused_sized sized, held⟩

end GuideReceiver

section Acts

variable {s : State}

theorem State.discardDamaged_collecting (h : s.receiver.sized) : s.discardDamaged.receiver.collecting :=
  by
  have idle := GuideReceiver.toIdle_collecting h
  exact ⟨GuideReceiver.addDamaged_sized idle.1, rfl⟩

theorem State.abandonTable_collecting (h : s.receiver.sized) : s.abandonTable.receiver.collecting :=
  by
  have idle := GuideReceiver.toIdle_collecting h
  exact ⟨GuideReceiver.addAbandoned_sized idle.1, rfl⟩

theorem State.endDuplicate_collecting (h : s.receiver.sized) : s.endDuplicate.receiver.collecting :=
  by
  have idle := GuideReceiver.toIdle_collecting h
  exact ⟨GuideReceiver.addDuplicate_sized idle.1, rfl⟩

/-- R118: whatever the hand-off does, a table is held in HANDOFF alone. -/
theorem State.handOff_sound (h : s.receiver.sound) : s.handOff.receiver.sound := by
  unfold State.handOff
  split
  · exact h
  · split_ifs
    · exact h
    · exact (State.endDuplicate_collecting h.1).sound
    · obtain ⟨⟨fifo, -, header, record, counts⟩, -⟩ := h
      exact ⟨⟨fifo, Nat.zero_le _, header, record, counts⟩, fun held => Bool.noConfusion held⟩

theorem State.endTable_sound (h : s.receiver.sized) : s.endTable.receiver.sound := by
  unfold State.endTable
  split
  · exact (State.discardDamaged_collecting h).sound
  · exact State.handOff_sound ⟨h, fun _ => rfl⟩

theorem State.takeEot_sound (h : s.receiver.collecting) : s.takeEot.receiver.sound := by
  unfold State.takeEot
  split
  · exact (GuideReceiver.addStray_collecting h).sound
  · exact (State.discardDamaged_collecting h.1).sound
  · split
    · exact (State.discardDamaged_collecting (GuideReceiver.framingFault_collecting h).1).sound
    · exact State.endTable_sound h.1
  · exact (State.endDuplicate_collecting h.1).sound
  · exact h.sound

theorem State.takeAbt_sound (h : s.receiver.collecting) : s.takeAbt.receiver.sound := by
  unfold State.takeAbt
  split
  · exact (GuideReceiver.addStray_collecting h).sound
  · exact (State.abandonTable_collecting h.1).sound
  · exact (State.abandonTable_collecting h.1).sound
  · exact (State.endDuplicate_collecting h.1).sound
  · exact h.sound

theorem State.takeSot_sound (h : s.receiver.collecting) : s.takeSot.receiver.sound := by
  refine (GuideReceiver.openTable_collecting ?_).sound
  split
  · exact h.1
  · exact h.1
  · exact (State.abandonTable_collecting h.1).1
  · exact (State.abandonTable_collecting h.1).1
  · exact (State.endDuplicate_collecting h.1).1

theorem State.takeCommitDone_sound (h : s.receiver.sound) (outcome : CommitOutcome) :
    (s.takeCommitDone outcome).receiver.sound := by
  have ended := GuideReceiver.commitEnds_sound h outcome
  unfold State.takeCommitDone
  dsimp only
  split_ifs
  · exact State.handOff_sound ended
  · exact (GuideReceiver.toIdle_collecting ended.1).sound
  · exact ended
  · exact h

/-- R103: a symbol is taken in a state other than HANDOFF, so no table is held then. -/
theorem onSymbol_sound {t : State} {sym : Symbol} {act : State → State} (h : s.linkSound)
    (handled : ∀ u : State, u.receiver.collecting → (act u).linkSound) (next : onSymbol sym s act = .next t) :
    t.linkSound := by
  refine occasion_keeps h (fun due => ?_) next
  have free : s.receiver.state ≠ .handoff := by simpa using (Bool.and_eq_true_iff.mp due).2
  obtain ⟨⟨fifo, rest⟩, held⟩ := GuideReceiver.sound.collecting h free
  refine GuideReceiver.afterTake_sound (handled _ ⟨⟨?_, rest⟩, held⟩)
  exact (List.tail_sublist _).length_le.trans fifo

end Acts

/-- The receiver's share of O58: symbols, arrivals and hand-offs keep the sizes, and a load or LINK_RESET empties all. -/
theorem step_keeps_linkSound {s t : State} (sound : s.linkSound) (stepped : step s = .next t) :
    t.linkSound := by
  refine step_keeps_timeless (bs := [.receiver]) ?_ (by simp) ?_ sound stepped
  · intro s t same sound
    have kept : t.receiver = s.receiver := same .receiver (by simp)
    rwa [State.linkSound, kept]
  intro c s t touched sound next
  cases c <;> simp [changedBlocks, everyBlock] at touched <;> unfold exec at next
  case linkReset r =>
    refine request_keeps (fun u a h => ?_) sound ?_ next
    · exact h
    · exact GuideReceiver.cleared_sound _ _
  case symbolArrival bits =>
    refine occasion_keeps sound (fun _ => ?_) next
    split
    · exact sound
    · exact GuideReceiver.arrive_sound sound
  case quietGap n =>
    refine occasion_keeps sound (fun _ => ?_) next
    exact GuideReceiver.quiet_sound sound n
  case sot => exact onSymbol_sound sound (fun u h => State.takeSot_sound h) next
  case dataByte b =>
    refine onSymbol_sound sound (fun u h => ?_) next
    exact (GuideReceiver.takeData_collecting h _ b).sound
  case sor =>
    refine onSymbol_sound sound (fun u h => ?_) next
    exact (GuideReceiver.takeSor_collecting h).sound
  case eor =>
    refine onSymbol_sound sound (fun u h => ?_) next
    exact (GuideReceiver.takeEor_collecting h).sound
  case eot => exact onSymbol_sound sound (fun u h => State.takeEot_sound h) next
  case abt => exact onSymbol_sound sound (fun u h => State.takeAbt_sound h) next
  case unknownControl code =>
    replace next : execUnknownControl code s = .next t := next
    unfold execUnknownControl at next
    split at next
    · refine onSymbol_sound sound (fun u h => ?_) next
      exact (GuideReceiver.takeUnknown_collecting h).sound
    · cases next; exact sound
  case commitDone outcome =>
    refine message_keeps (fun _ => sound) sound (fun u h => ?_) next
    exact State.takeCommitDone_sound h outcome
  case loadBegin straps | resetNRelease straps =>
    refine occasion_keeps sound (fun _ => ?_) next
    exact GuideReceiver.cleared_sound _ _
  case powerOn | resetNAssert | powerLoss => cases next; exact GuideReceiver.cleared_sound _ _

/-- Settles O58: the receiver and the cache are each kept by every step. -/
theorem everyStepKeepsTheGuideWithinItsSizes : Obligations.EveryStepKeepsTheGuideWithinItsSizes := by
  intro s t receiver counts cache stepped
  obtain ⟨receiver', counts'⟩ :=
    t.linkSound_iff.mp (step_keeps_linkSound (s.linkSound_iff.mpr ⟨receiver, counts⟩) stepped)
  exact ⟨receiver', counts', step_keeps_cacheSound cache stepped⟩

end Sys2Proof.Machine
end

section
/-! PROOFS. What a step may do to a screen record (03). The first part lists the moves of a record and shows that every
request, message and expiry of the Screen Controller makes one of them on each screen; the theorems at its end settle O25 and
O55. -/

namespace Sys2Proof.Machine

/-! ### What a test reads -/

/-- The state agrees in everything that a screen's move reads besides the record. -/
def State.sameContext (s t : State) : Prop :=
  t.profiles.table = s.profiles.table ∧ t.profiles.maps = s.profiles.maps ∧ t.metering = s.metering ∧
  t.passes = s.passes ∧ t.cache = s.cache

theorem State.sameContext_refl (s : State) : s.sameContext s := ⟨rfl, rfl, rfl, rfl, rfl⟩

theorem State.sameContext_trans {s t u : State} (first : s.sameContext t) (second : t.sameContext u) :
    s.sameContext u := by
  obtain ⟨h1, h2, h3, h4, h5⟩ := first
  obtain ⟨k1, k2, k3, k4, k5⟩ := second
  exact ⟨k1.trans h1, k2.trans h2, k3.trans h3, k4.trans h4, k5.trans h5⟩

theorem State.sameContext_withScreens (s : State) (x : ScreenController) : s.sameContext (s.withScreens x) :=
  s.sameContext_refl

theorem State.onlyScreens.context {s t : State} (h : s.onlyScreens t) : s.sameContext t := by
  obtain ⟨x, ms, rfl, -, -⟩ := h
  exact s.sameContext_refl

section Context

variable {s t : State} {n : ScreenNo}

theorem State.contentRead_congr (context : s.sameContext t) (cell : t.screens.cells[n] = s.screens.cells[n])
    (noPass : Bool) : t.contentRead n noPass = s.contentRead n noPass := by
  obtain ⟨-, maps, -, passes, cache⟩ := context
  unfold State.contentRead
  rw [cell, maps, passes, cache]

theorem State.judge_congr (context : s.sameContext t) (x : Screen) : t.judge x = s.judge x := by
  obtain ⟨table, -, metering, -, -⟩ := context
  unfold State.judge
  rw [table, metering]

/-- A test depends on its record and the context alone. -/
theorem State.testedScreen_of_context (context : s.sameContext t) (cell : t.screens.cells[n] = s.screens.cells[n])
    (fromOpen noPass : Bool) : t.testedScreen n fromOpen noPass = s.testedScreen n fromOpen noPass := by
  have outcome : ∀ x : Screen,
      applied fromOpen t.profiles.table[x.seat] x (t.judge x) = applied fromOpen s.profiles.table[x.seat] x (s.judge x) :=
    fun x => by rw [State.judge_congr context]; simp only [context.1]
  unfold State.testedScreen
  rw [outcome, State.contentRead_congr context cell]

end Context

/-! ### The moves of a record -/

/-- R69: the record as SCREEN_OFF leaves it. -/
def darkOf (x : Screen) : Screen := if x.live then darkenedScreen x else x

/-- R64 step 1: the record as a TUNE leaves what it showed. -/
def leftScreen (x : Screen) : Screen := if x.live then endedScreen x else x

/-- R77: the record reseated, before anything is judged. -/
def reseatedScreen (x : Screen) (p : Slot) : Screen := { endedScreen x with seat := p }

/-- R64 step 3: the record that waits for its current event. -/
def waitingRecord (x : Screen) (service : Half) (d : Option Descriptor) : Screen :=
  { (tunedRecord (leftScreen x) service d).become .waiting none (some x.guideWait) with step := none }

/-- What a command of the Screen Controller may make of the record of screen n; SEAT and TUNE alone reseat and tune it. -/
inductive State.screenMove (s : State) (tunes : Prop) (n : ScreenNo) : Screen → Prop
  | same : s.screenMove tunes n s.screens.cells[n]
  | retested (live : s.screens.cells[n].state ≠ .dark) (started : s.screens.cells[n].state ≠ .waiting) :
      s.screenMove tunes n (chargedScreen s.profiles.table (s.testedScreen n (s.gate n) false))
  | waitEnds (waiting : s.screens.cells[n].state = .waiting) :
      s.screenMove tunes n (chargedScreen s.profiles.table (s.testedScreen n false false))
  | closes (closing : s.screens.cells[n].state = .closing) : s.screenMove tunes n (closedScreen s.screens.cells[n])
  | darkens : s.screenMove tunes n (darkOf s.screens.cells[n])
  | standsBy : s.screenMove tunes n { darkOf s.screens.cells[n] with seat := 0 }
  | configured (dark : s.screens.cells[n].state = .dark) (kind : ScreenKind) (wait : Nat) :
      s.screenMove tunes n { s.screens.cells[n] with kind := kind, guideWait := wait }
  | reseated (may : tunes) (p : Slot) (resting : s.screens.cells[n].state = .dark ∨ s.screens.cells[n].state = .waiting) :
      s.screenMove tunes n (chargedScreen s.profiles.table (reseatedScreen s.screens.cells[n] p))
  | reseatTested (may : tunes) (p : Slot)
      (started : ¬ (s.screens.cells[n].state = .dark ∨ s.screens.cells[n].state = .waiting)) :
      s.screenMove tunes n (chargedScreen s.profiles.table
        ((s.setScreen n (reseatedScreen s.screens.cells[n] p)).testedScreen n false true))
  | tunedWaiting (may : tunes) (service : Half) (broadcast : service ≠ 0) :
      s.screenMove tunes n (chargedScreen s.profiles.table (waitingRecord s.screens.cells[n] service none))
  | tuned (may : tunes) (service : Half) (d : Option Descriptor) (fits : d.isSome = (service == 0)) :
      s.screenMove tunes n (chargedScreen s.profiles.table
        ((s.setScreen n (tunedRecord (leftScreen s.screens.cells[n]) service d)).testedScreen n false
          s.screens.cells[n].live))

/-- Each screen has made a move, and what the moves read is unchanged. -/
def State.moves (s : State) (tunes : Prop) (t : State) : Prop :=
  s.sameContext t ∧ ∀ n : ScreenNo, s.screenMove tunes n t.screens.cells[n]

section Moves

variable {s t u : State} {n m : ScreenNo} {tunes : Prop}

theorem State.moves_refl (s : State) : s.moves tunes s := ⟨s.sameContext_refl, fun _ => .same⟩

/-- Two states that agree in records and context have the same moves. -/
theorem State.screenMove_congr (context : s.sameContext t) (cells : t.screens.cells = s.screens.cells) {x : Screen}
    (move : t.screenMove tunes n x) : s.screenMove tunes n x := by
  have cell : t.screens.cells[n] = s.screens.cells[n] := by rw [cells]
  have gate : t.gate n = s.gate n := by rw [State.gate, State.gate, cell]
  have tested := State.testedScreen_of_context context cell
  have placed : ∀ (x : Screen) (o p : Bool), (t.setScreen n x).testedScreen n o p = (s.setScreen n x).testedScreen n o p :=
    fun x => State.testedScreen_of_context context (by simp)
  cases move with
  | same => rw [cell]; exact .same
  | retested live started => rw [context.1, tested, gate]; rw [cell] at live started; exact .retested live started
  | waitEnds waiting => rw [context.1, tested]; rw [cell] at waiting; exact .waitEnds waiting
  | closes closing => rw [cell] at closing ⊢; exact .closes closing
  | darkens => rw [cell]; exact .darkens
  | standsBy => rw [cell]; exact .standsBy
  | configured dark kind wait => rw [cell] at dark ⊢; exact .configured dark kind wait
  | reseated may p resting => rw [cell] at resting ⊢; rw [context.1]; exact .reseated may p resting
  | reseatTested may p started => rw [placed, context.1]; rw [cell] at started ⊢; exact .reseatTested may p started
  | tunedWaiting may service broadcast => rw [context.1, cell]; exact .tunedWaiting may service broadcast
  | tuned may service d fits => rw [placed, context.1, cell]; exact .tuned may service d fits

/-- Moves begin where records and context are the same. -/
theorem State.moves_of_same_start (context : s.sameContext t) (cells : t.screens.cells = s.screens.cells)
    (moved : t.moves tunes u) : s.moves tunes u :=
  ⟨State.sameContext_trans context moved.1, fun n => State.screenMove_congr context cells (moved.2 n)⟩

/-- One record is replaced, and messages are sent. -/
theorem State.moves_setScreen {x : Screen} (move : s.screenMove tunes n x) (ms : List Instr) :
    s.moves tunes ((s.setScreen n x).sendAll ms) := by
  refine ⟨s.sameContext_refl, fun m => ?_⟩
  rw [State.sendAll_screens, State.setScreen_cells, put_get]
  split
  next same => rw [← same]; exact move
  next => exact .same

theorem State.moves_sendAll (moved : s.moves tunes t) (ms : List Instr) : s.moves tunes (t.sendAll ms) := moved

theorem State.moves_screenAct {act : State → State} (moved : s.moves tunes (act s)) : s.moves tunes (s.screenAct act) := by
  unfold State.screenAct State.tellChanges
  split
  · exact moved
  · exact moved

/-! ### The acts of the Screen Controller -/

theorem State.endClosing_moves (s : State) (n : ScreenNo) : s.moves tunes (s.endClosing n) := by
  by_cases closing : s.screens.cells[n].state = .closing
  · rw [State.endClosing_of_closing closing]
    exact State.moves_setScreen (.closes closing) _
  · rw [State.endClosing_of_other closing]
    exact s.moves_refl

theorem State.darken_cell (s : State) (n : ScreenNo) : (s.darken n).screens.cells[n] = darkOf s.screens.cells[n] := by
  by_cases dark : s.screens.cells[n].state = .dark
  · rw [State.darken_of_dark dark, darkOf, if_neg (Screen.not_live_of_dark dark)]
  · rw [State.darken_of_live dark, darkOf, if_pos ((Screen.live_iff _).mpr dark)]
    simp

theorem State.darken_other (s : State) (other : n ≠ m) : (s.darken n).screens.cells[m] = s.screens.cells[m] := by
  by_cases dark : s.screens.cells[n].state = .dark
  · rw [State.darken_of_dark dark]
  · rw [State.darken_of_live dark]
    exact put_other _ _ other

theorem State.darken_moves (s : State) (n : ScreenNo) : s.moves tunes (s.darken n) := by
  refine ⟨(s.darken_onlyScreens n).context, fun m => ?_⟩
  by_cases same : n = m
  · rw [← same, State.darken_cell]
    exact .darkens
  · rw [State.darken_other s same]
    exact .same

theorem State.test_moves {o p : Bool} (move : s.screenMove tunes n (chargedScreen s.profiles.table (s.testedScreen n o p))) :
    s.moves tunes (s.test n o p) := by
  rw [State.test_eq]
  exact State.moves_setScreen move _

theorem State.retest_moves (s : State) (n : ScreenNo) : s.moves tunes (s.retest n) := by
  unfold State.retest
  split
  · exact s.moves_refl
  next started => exact State.test_moves (.retested (not_or.mp started).1 (not_or.mp started).2)

theorem State.endWait_moves (waiting : s.screens.cells[n].state = .waiting) (service : Half) :
    s.moves tunes (s.endWait n service) := by
  unfold State.endWait
  split
  · exact State.test_moves (.waitEnds waiting)
  · exact s.moves_refl

theorem State.eventChanged_moves (s : State) (service : Half) (n : ScreenNo) : s.moves tunes (s.eventChanged service n) := by
  unfold State.eventChanged
  split
  · split
    next waiting => exact State.endWait_moves waiting service
    next => exact s.retest_moves n
  · exact s.moves_refl

/-- An act on each screen in turn makes a move on each, when it makes one on its own screen, leaves the others alone, and
reads nothing that the others change. -/
theorem State.foldScreens_moves {f : State → ScreenNo → State} (only : ∀ (s : State) (n : ScreenNo), s.onlyScreens (f s n))
    (others : ∀ (s : State) (n m : ScreenNo), n ≠ m → (f s n).screens.cells[m] = s.screens.cells[m])
    (reads : ∀ (s t : State) (n : ScreenNo), s.onlyScreens t → t.screens.cells[n] = s.screens.cells[n] →
      (f t n).screens.cells[n] = (f s n).screens.cells[n])
    (each : ∀ n : ScreenNo, s.moves tunes (f s n)) : s.moves tunes (screenNumbers.foldl f s) := by
  obtain ⟨onlyAll, cells⟩ := foldScreens f only others reads screenNumbers screenNumbers_nodup s
  refine ⟨onlyAll.context, fun n => ?_⟩
  rw [cells n, if_pos (mem_screenNumbers n)]
  exact (each n).2 n

theorem State.test_cell_congr (only : s.onlyScreens t) (cell : t.screens.cells[n] = s.screens.cells[n]) (o p : Bool) :
    (t.test n o p).screens.cells[n] = (s.test n o p).screens.cells[n] := by
  rw [State.test_cell, State.test_cell, State.testedScreen_of_context only.context cell, only.context.1]

theorem State.retest_cell_congr (only : s.onlyScreens t) (cell : t.screens.cells[n] = s.screens.cells[n]) :
    (t.retest n).screens.cells[n] = (s.retest n).screens.cells[n] := by
  have gate : t.gate n = s.gate n := by rw [State.gate, State.gate, cell]
  unfold State.retest
  rw [cell, gate]
  split
  · exact cell
  · exact State.test_cell_congr only cell _ _

theorem State.retestWhere_moves (s : State) (c : ScreenNo → Screen → Bool) : s.moves tunes (s.retestWhere c) := by
  refine State.foldScreens_moves (fun u n => ?only) (fun u n m other => ?others) (fun u t n only cell => ?reads)
    fun n => ?each
  case only =>
    split
    · exact u.retest_onlyScreens n
    · exact u.onlyScreens_refl
  case others =>
    split
    · exact u.retest_other other
    · rfl
  case reads =>
    rw [cell]
    split
    · exact State.retest_cell_congr only cell
    · exact cell
  case each =>
    split
    · exact s.retest_moves n
    · exact s.moves_refl

theorem State.eventChanged_other (s : State) (service : Half) (other : n ≠ m) :
    (s.eventChanged service n).screens.cells[m] = s.screens.cells[m] := by
  unfold State.eventChanged State.endWait
  split_ifs
  · exact s.test_other other _ _
  · rfl
  · exact s.retest_other other
  · rfl

theorem State.eventChanged_cell_congr (only : s.onlyScreens t) (cell : t.screens.cells[n] = s.screens.cells[n])
    (service : Half) : (t.eventChanged service n).screens.cells[n] = (s.eventChanged service n).screens.cells[n] := by
  obtain ⟨-, -, -, -, cache⟩ := only.context
  unfold State.eventChanged State.endWait
  rw [cell, cache]
  split_ifs
  · exact State.test_cell_congr only cell _ _
  · exact cell
  · exact State.retest_cell_congr only cell
  · exact cell

theorem State.eventChange_moves (s : State) (service : Half) :
    s.moves tunes (screenNumbers.foldl (fun t n => t.eventChanged service n) s) :=
  State.foldScreens_moves (fun u n => u.eventChanged_onlyScreens service n)
    (fun u n m other => u.eventChanged_other service other) (fun u t n only cell => State.eventChanged_cell_congr only cell service)
    fun n => s.eventChanged_moves service n

/-- R79 step 1: each live screen goes DARK, and DROP_SCREEN is sent for each. -/
def State.darkenAll (s : State) : State :=
  screenNumbers.foldl (fun t n => if t.screens.cells[n].live then t.darken n else t.send (.dropScreen n)) s

theorem State.darkenAll_spec (s : State) :
    s.onlyScreens s.darkenAll ∧ ∀ n : ScreenNo, s.darkenAll.screens.cells[n] = darkOf s.screens.cells[n] := by
  have own : ∀ (u : State) (n : ScreenNo),
      (if u.screens.cells[n].live then u.darken n else u.send (.dropScreen n)).screens.cells[n]
        = darkOf u.screens.cells[n] := by
    intro u n
    split
    next => exact u.darken_cell n
    next dead => exact (if_neg dead : darkOf u.screens.cells[n] = _).symm
  obtain ⟨only, cells⟩ := foldScreens (fun t n => if t.screens.cells[n].live then t.darken n else t.send (.dropScreen n))
    (fun u n => by
      split
      · exact u.darken_onlyScreens n
      · exact State.send_onlyScreens u _)
    (fun u n m other => by
      split
      · exact u.darken_other other
      · rfl)
    (fun u t n _ cell => by rw [own, own, cell]) screenNumbers screenNumbers_nodup s
  exact ⟨only, fun n => by rw [State.darkenAll, cells n, if_pos (mem_screenNumbers n), own]⟩

theorem ScreenController.unseated_cell (c : ScreenController) (n : ScreenNo) :
    c.unseated.cells[n] = { c.cells[n] with seat := 0 } := by
  have cell := foldPut_get (fun (_ : ScreenNo) (x : Screen) => { x with seat := 0 }) screenNumbers screenNumbers_nodup
    c.cells n
  rw [if_pos (mem_screenNumbers n)] at cell
  exact cell

theorem State.enterStandby_eq (s : State) :
    s.enterStandby = ((s.darkenAll.withScreens s.darkenAll.screens.unseated).send .standbyEntryReport).raiseScreens
      (changedScreens s.screens
        ((s.darkenAll.withScreens s.darkenAll.screens.unseated).send .standbyEntryReport).screens) := rfl

theorem State.enterStandby_moves (s : State) : s.moves tunes s.enterStandby := by
  obtain ⟨only, cells⟩ := s.darkenAll_spec
  have unseated : s.moves tunes (s.darkenAll.withScreens s.darkenAll.screens.unseated) := by
    refine ⟨State.sameContext_trans only.context (State.sameContext_withScreens _ _), fun n => ?_⟩
    rw [State.withScreens_screens, ScreenController.unseated_cell, cells n]
    exact .standsBy
  rw [State.enterStandby_eq, State.raiseScreens_eq, State.send_eq]
  exact State.moves_sendAll (State.moves_sendAll unseated _) _

/-- R78: the controller with its inputs replaced. -/
def ScreenController.withInputs (c : ScreenController) (requested : BoxState) (level : Bool) : ScreenController :=
  { c with requested := requested, standbyLevel := level }

theorem State.setBoxInputs_eq (s : State) (requested : BoxState) (level : Bool) :
    s.setBoxInputs requested level =
      if s.screens.box = (s.screens.withInputs requested level).box then
        s.withScreens (s.screens.withInputs requested level)
      else if (s.screens.withInputs requested level).box = .standby then
        (s.withScreens (s.screens.withInputs requested level)).enterStandby
      else (s.withScreens (s.screens.withInputs requested level)).raiseScreens 0 := rfl

theorem State.setBoxInputs_moves (s : State) (requested : BoxState) (level : Bool) :
    s.moves tunes (s.setBoxInputs requested level) := by
  have replaced : s.moves tunes (s.withScreens (s.screens.withInputs requested level)) :=
    ⟨State.sameContext_withScreens _ _, fun _ => .same⟩
  rw [State.setBoxInputs_eq]
  split_ifs
  · exact replaced
  · have standby := State.enterStandby_moves (tunes := tunes) (s.withScreens (s.screens.withInputs requested level))
    exact State.moves_of_same_start (t := s.withScreens (s.screens.withInputs requested level))
      (State.sameContext_withScreens _ _) rfl standby
  · exact replaced

/-- R59, R64: the messages with which a screen leaves what it shows. -/
def leaveMessages (n : ScreenNo) (x : Screen) : List Instr :=
  (if x.charge = .nothing then [] else [.charge n x.seat .nothing]) ++ [.dropScreen n]

theorem State.endCharge_send_dropScreen (s : State) (n : ScreenNo) :
    (s.endCharge n).send (.dropScreen n) =
      (s.setScreen n (endedScreen s.screens.cells[n])).sendAll (leaveMessages n s.screens.cells[n]) := by
  rw [State.endCharge_eq, State.send_eq, State.sendAll_sendAll, leaveMessages]

/-- A record replaced and then tested: the test's record stands, and its CHARGE follows. -/
theorem State.sendAll_test (s : State) (n : ScreenNo) (x : Screen) (ms : List Instr) (o p : Bool) :
    ((s.setScreen n x).sendAll ms).test n o p =
      (s.setScreen n (chargedScreen s.profiles.table ((s.setScreen n x).testedScreen n o p))).sendAll
        (ms ++ chargeMessages s.profiles.table n ((s.setScreen n x).testedScreen n o p)) := by
  have tested : ((s.setScreen n x).sendAll ms).testedScreen n o p = (s.setScreen n x).testedScreen n o p := rfl
  rw [State.test_eq, tested]
  simp only [State.sendAll_profiles, State.setScreen_profiles, State.sendAll_setScreen, State.setScreen_setScreen,
    State.sendAll_sendAll]

theorem State.sendAll_settleCharge (s : State) (n : ScreenNo) (x : Screen) (ms : List Instr) :
    ((s.setScreen n x).sendAll ms).settleCharge n =
      (s.setScreen n (chargedScreen s.profiles.table x)).sendAll (ms ++ chargeMessages s.profiles.table n x) := by
  rw [State.settleCharge_eq]
  simp only [State.sendAll_screens, State.setScreen_cells, put_self, State.sendAll_profiles, State.setScreen_profiles,
    State.sendAll_setScreen, State.setScreen_setScreen, State.sendAll_sendAll]

theorem State.reseat_eq (s : State) (n : ScreenNo) (p : Slot) :
    s.reseat n p =
      if s.screens.cells[n].state = .dark ∨ s.screens.cells[n].state = .waiting then
        ((s.setScreen n (reseatedScreen s.screens.cells[n] p)).sendAll (leaveMessages n s.screens.cells[n])).settleCharge n
      else
        ((s.setScreen n (reseatedScreen s.screens.cells[n] p)).sendAll (leaveMessages n s.screens.cells[n])).test n
          false true := by
  have placed : ((s.endCharge n).send (.dropScreen n)).setScreen n
      { ((s.endCharge n).send (.dropScreen n)).screens.cells[n] with seat := p } =
      (s.setScreen n (reseatedScreen s.screens.cells[n] p)).sendAll (leaveMessages n s.screens.cells[n]) := by
    rw [State.endCharge_send_dropScreen]
    simp [reseatedScreen]
  rw [← placed]
  rfl

theorem State.reseat_moves (may : tunes) (s : State) (n : ScreenNo) (p : Slot) : s.moves tunes (s.reseat n p) := by
  rw [State.reseat_eq]
  split
  next resting =>
    rw [State.sendAll_settleCharge]
    exact State.moves_setScreen (.reseated may p resting) _
  next started =>
    rw [State.sendAll_test]
    exact State.moves_setScreen (.reseatTested may p started) _

/-- R64 step 1: the messages with which a TUNE leaves what the screen showed. -/
def tuneMessages (n : ScreenNo) (x : Screen) : List Instr := if x.live then leaveMessages n x else []

theorem State.tuneTo_eq (s : State) (n : ScreenNo) (service : Half) (d : Option Descriptor) :
    s.tuneTo n service d =
      if s.waitsFor n service then
        ((s.setScreen n (waitingRecord s.screens.cells[n] service d)).sendAll
          (tuneMessages n s.screens.cells[n])).settleCharge n
      else
        ((s.setScreen n (tunedRecord (leftScreen s.screens.cells[n]) service d)).sendAll
          (tuneMessages n s.screens.cells[n])).test n false s.screens.cells[n].live := by
  have left : (if s.screens.cells[n].live then (s.endCharge n).send (.dropScreen n) else s) =
      (s.setScreen n (leftScreen s.screens.cells[n])).sendAll (tuneMessages n s.screens.cells[n]) := by
    unfold leftScreen tuneMessages
    split
    · exact s.endCharge_send_dropScreen n
    · rw [State.sendAll_nil, State.setScreen_self]
  have wait : (leftScreen s.screens.cells[n]).guideWait = s.screens.cells[n].guideWait := by
    unfold leftScreen
    split <;> rfl
  unfold State.tuneTo
  simp only [left, State.sendAll_screens, State.setScreen_cells, put_self, State.sendAll_setScreen,
    State.setScreen_setScreen]
  unfold waitingRecord tunedRecord
  rw [wait]

theorem State.tuneTo_moves (may : tunes) (s : State) (n : ScreenNo) {service : Half} {d : Option Descriptor}
    (fits : d.isSome = (service == 0)) : s.moves tunes (s.tuneTo n service d) := by
  rw [State.tuneTo_eq]
  split
  next waits =>
    have broadcast : service ≠ 0 := by
      rintro rfl
      simp [State.waitsFor] at waits
    obtain rfl : d = none := by
      rw [beq_false_of_ne broadcast] at fits
      simpa using fits
    rw [State.sendAll_settleCharge]
    exact State.moves_setScreen (.tunedWaiting may service broadcast) _
  next =>
    rw [State.sendAll_test]
    exact State.moves_setScreen (.tuned may service d fits) _

/-! ### The commands -/

theorem request_moves {i : Instr} {r : Role} {act : State → State × Answer} (acted : s.moves tunes (act s).1)
    (next : onRequest i r s act = .next t) : s.moves tunes t := by
  refine request_keeps (fun u a moved => ?_) s.moves_refl acted next
  exact moved

theorem message_moves {i : Instr} {act : State → State} (acted : ∀ u : State, u.moves tunes (act u))
    (next : onMessage i s act = .next t) : s.moves tunes t := by
  unfold onMessage at next
  split at next
  next rest _ => cases next; exact State.moves_of_same_start (t := s.withTransit rest) s.sameContext_refl rfl (acted _)
  next => cases next; exact s.moves_refl

theorem occasion_moves {c : Bool} {act : State → State} (acted : c = true → s.moves tunes (act s))
    (next : onOccasion c s act = .next t) : s.moves tunes t :=
  occasion_keeps s.moves_refl acted next

theorem onScreen_moves {b : Byte} {permitted : Screen → Bool} {act : ScreenNo → State × Answer}
    (acted : ∀ m, s.moves tunes (act m).1) : s.moves tunes (onScreen b permitted s act).1 := by
  unfold onScreen refuse
  split
  · exact s.moves_refl
  · split
    · exact acted _
    · exact s.moves_refl

/-- R83 step 4: a descriptor for service 0 alone. -/
theorem tuneContent_fits {service : Half} {d : Option RawDescriptor} {c : Option Descriptor}
    (content : tuneContent service d = some c) : c.isSome = (service == 0) := by
  unfold tuneContent at content
  split at content
  next zero =>
    split at content
    · obtain ⟨x, -, rfl⟩ := Option.map_eq_some_iff.mp content
      simp [zero]
    · cases content
  next broadcast =>
    split at content
    · cases content
    · cases content
      exact (beq_false_of_ne broadcast).symm

/-- R9: a PIN check moves counters and lockout timers alone. -/
theorem ProfileUnit.pinCheck_spec (u : ProfileUnit) (p : Slot) (pin : Option (List (Fin 10))) :
    ∃ failures lockouts, (u.pinCheck p pin).1 = { u with failures := failures, lockouts := lockouts } := by
  unfold ProfileUnit.pinCheck
  split
  next => exact ⟨u.failures, u.lockouts, rfl⟩
  next =>
    split
    next => exact ⟨u.failures, u.lockouts, rfl⟩
    next => split_ifs <;> exact ⟨_, _, rfl⟩

theorem State.pinCheck_spec (s : State) (p : Slot) (pin : Option (List (Fin 10))) :
    ∃ failures lockouts ms, (s.pinCheck p pin).1 =
      (s.withProfiles { s.profiles with failures := failures, lockouts := lockouts }).sendAll ms := by
  obtain ⟨failures, lockouts, checked⟩ := s.profiles.pinCheck_spec p pin
  refine ⟨failures, lockouts, if (s.profiles.pinCheck p pin).2.2 then [.notice .profile .authority .every 0] else [], ?_⟩
  rw [← checked, State.pinCheck, State.raiseIf_eq]

theorem State.pinCheck_context (s : State) (p : Slot) (pin : Option (List (Fin 10))) :
    s.sameContext (s.pinCheck p pin).1 ∧ (s.pinCheck p pin).1.screens = s.screens := by
  obtain ⟨failures, lockouts, ms, checked⟩ := s.pinCheck_spec p pin
  rw [checked]
  exact ⟨s.sameContext_refl, rfl⟩

theorem seatChecked_moves (may : tunes) (s : State) (n : ScreenNo) (p : Slot) : s.moves tunes (seatChecked n p s).1 := by
  have act : s.moves tunes (s.screenAct fun s => s.reseat n p) := State.moves_screenAct (State.reseat_moves may s n p)
  unfold seatChecked refuse
  split
  · exact s.moves_refl
  · exact act

theorem seatProfile_moves (may : tunes) (s : State) (n : ScreenNo) (p : Slot) (pin : Option (List (Fin 10))) :
    s.moves tunes (seatProfile n p pin s).1 := by
  obtain ⟨context, screens⟩ := s.pinCheck_context p pin
  unfold seatProfile refuse
  split_ifs
  · exact s.moves_refl
  · exact s.moves_refl
  · exact seatChecked_moves may s n p
  · split
    next checked =>
      rw [checked] at context screens
      exact State.moves_of_same_start context (congrArg _ screens) (seatChecked_moves may _ n p)
    next checked => rw [checked] at context screens; exact State.moves_of_same_start context (congrArg _ screens) (State.moves_refl _)
    next checked => rw [checked] at context screens; exact State.moves_of_same_start context (congrArg _ screens) (State.moves_refl _)

theorem tuneChecked_moves (may : tunes) (s : State) (n : ScreenNo) {service : Half} {d : Option Descriptor}
    (fits : d.isSome = (service == 0)) : s.moves tunes (tuneChecked n service d s).1 := by
  have act : s.moves tunes (s.screenAct fun s => s.tuneTo n service d) := State.moves_screenAct (State.tuneTo_moves may s n fits)
  unfold tuneChecked tuneAnswer refuse
  dsimp only
  split_ifs
  · exact s.moves_refl
  · exact s.moves_refl
  · exact act

theorem State.retestSeated_moves (s : State) (p : Slot) : s.moves tunes (s.retestSeated p) :=
  State.moves_screenAct (s.retestWhere_moves _)

theorem State.retestAll_moves (s : State) : s.moves tunes s.retestAll := State.moves_screenAct (s.retestWhere_moves _)

theorem State.retestForPass_moves (s : State) (scope : PassScope) : s.moves tunes (s.retestForPass scope) := by
  cases scope with
  | content n c => exact State.moves_screenAct (act := fun s => s.retestWhere fun m _ => m == n) (s.retestWhere_moves _)
  | curfew p => exact s.retestSeated_moves p

/-- The two requests that reseat and tune a screen (R77, R64). -/
def tunesScreen : Instr → Prop
  | .seat .. | .tune .. => True
  | _ => False

/-- Every request, message and expiry of the Screen Controller makes a move on each screen. -/
theorem exec_moves {c : Instr} (own : changedBlocks c = [.screen] ∨ changedBlocks c = [.profile, .screen])
    (next : exec c s = .next t) : s.moves (tunesScreen c) t := by
  cases c <;> simp [changedBlocks, everyBlock] at own <;> unfold exec at next
  case configureScreen r n kind wait =>
    refine request_moves ?_ next
    split
    next m c _ _ =>
      split
      · exact s.moves_refl
      next dead =>
        have dark : s.screens.cells[m].state = .dark := by simpa [Screen.live] using dead
        have set := State.moves_setScreen (tunes := False) (.configured dark c.kind c.guideWait) []
        exact set
    · exact s.moves_refl
  case tune r n service d =>
    refine request_moves (onScreen_moves fun m => ?_) next
    split
    · exact s.moves_refl
    · split
      next content => exact tuneChecked_moves trivial s m (tuneContent_fits content)
      · exact s.moves_refl
  case seat r n slot pin =>
    refine request_moves (onScreen_moves fun m => ?_) next
    split
    · exact s.moves_refl
    · split
      · exact seatProfile_moves trivial s m _ _
      · exact s.moves_refl
  case screenOff r n =>
    refine request_moves (onScreen_moves fun m => ?_) next
    exact State.moves_screenAct (act := fun s => s.darken m) (s.darken_moves m)
  case mark r n =>
    refine request_moves (onScreen_moves fun m => ?_) next
    exact State.moves_screenAct (act := fun s => s.endClosing m) (s.endClosing_moves m)
  case setBox r box =>
    refine request_moves ?_ next
    split_ifs
    · exact s.setBoxInputs_moves _ _
    · exact s.setBoxInputs_moves _ _
    · exact s.moves_refl
  case warn p reason => exact message_moves (fun u => u.retestSeated_moves p) next
  case exhausted p | replenished p | curfewOn p | curfewOff p =>
    exact message_moves (fun u => u.retestSeated_moves p) next
  case rolloverTaken | clockSet => exact message_moves (fun u => u.retestAll_moves) next
  case profileChanged which =>
    refine message_moves (fun u => ?_) next
    split
    · exact u.retestSeated_moves _
    · exact u.retestAll_moves
  case passAdded pass | passRemoved pass => exact message_moves (fun u => u.retestForPass_moves _) next
  case eventChange service =>
    exact message_moves (fun u => State.moves_screenAct (u.eventChange_moves service)) next
  case boundaryMark n =>
    refine message_moves (fun u => ?_) next
    exact State.moves_screenAct (act := fun s => s.endClosing n) (u.endClosing_moves n)
  case standbyLevel asserted => exact message_moves (fun u => u.setBoxInputs_moves _ _) next
  case guideWaitExpiry n =>
    refine occasion_moves (fun due => ?_) next
    have waiting : s.screens.cells[n].state = .waiting := by simpa using (Bool.and_eq_true_iff.mp due).1
    exact State.moves_screenAct (act := fun s => s.test n false false) (State.test_moves (.waitEnds waiting))
  case graceExpiry n =>
    refine occasion_moves (fun _ => ?_) next
    exact State.moves_screenAct (act := fun s => s.endClosing n) (s.endClosing_moves n)

/-! ### The other steps -/

theorem ScreenController.timersFall_cell (c : ScreenController) (n : ScreenNo) :
    c.timersFall.cells[n] = { c.cells[n] with timer := timerFalls c.cells[n].timer } := by
  have cell := foldPut_get (fun (_ : ScreenNo) (x : Screen) => { x with timer := timerFalls x.timer }) screenNumbers
    screenNumbers_nodup c.cells n
  rw [if_pos (mem_screenNumbers n)] at cell
  exact cell

theorem State.period_screens (s : State) :
    s.period.screens = s.screens ∨ s.period.screens = s.screens.timersFall := by
  unfold State.period
  split
  · split
    · exact .inl rfl
    · exact .inr rfl
  · exact .inl rfl

theorem State.takeTick_screens (s : State) : s.takeTick.screens = s.screens :=
  (s.takeTick_changesOnly (bs := [.metering]) (by simp)).2 .screen (by simp)

theorem State.readsImage_screens (s : State) : s.readsImage.screens = s.screens := by
  unfold State.readsImage
  split <;> rfl

theorem State.loadEnds_screens (s : State) (c : Content) (lost : Bool) (pins : BitVec 4) :
    (s.loadEnds c lost pins).screens = s.screens.loaded c (s.signal.loaded c pins).reported := by
  rw [State.loadEnds, State.raiseIf_eq]
  rfl

/-- Every step of the part makes a move on each screen, lets the guide-wait and grace timers fall, or is the beginning or the
end of a load. -/
theorem step_screens (stepped : step s = .next t) :
    (∃ c rest, s.pending = c :: rest ∧ s.moves (tunesScreen c) t) ∨ t.screens = s.screens ∨ t.screens = s.screens.timersFall ∨
    t.screens = s.screens.loadBegins ∨
    ∃ c level, t.screens = s.screens.loaded c level := by
  unfold step at stepped
  split at stepped
  next => cases stepped; exact .inr (s.period_screens.imp_right .inl)
  next c rest queued =>
    by_cases own : changedBlocks c = [.screen] ∨ changedBlocks c = [.profile, .screen]
    · exact .inl ⟨c, rest, queued, State.moves_of_same_start (t := s.withPending rest) s.sameContext_refl rfl (exec_moves own stepped)⟩
    by_cases others : .screen ∉ changedBlocks c
    · obtain ⟨u, next, -, blocks⟩ := exec_leadsTo c (s.withPending rest)
      cases next.symm.trans stepped
      exact .inr (.inl (blocks .screen others))
    refine .inr ?_
    cases c <;> simp [changedBlocks, everyBlock] at own others <;> unfold exec at stepped
    case secondTick =>
      cases stepped
      split
      · dsimp only
        split_ifs
        · exact .inl (State.takeTick_screens _)
        · exact .inr (.inl (State.takeTick_screens _))
        · exact .inr (.inl rfl)
      · exact .inl rfl
    case loadEnd pins =>
      cases stepped
      split
      · exact .inr (.inr (.inr ⟨_, _, (State.loadEnds_screens _ _ _ _).trans (by rw [State.readsImage_screens]; rfl)⟩))
      · exact .inl rfl
    case loadBegin straps | resetNRelease straps =>
      cases stepped
      split
      · exact .inr (.inr (.inl rfl))
      · exact .inl rfl
    case powerOn | resetNAssert | powerLoss => cases stepped; exact .inr (.inr (.inl rfl))

end Moves

/-! ### A gate that opens (R63) -/

theorem refusalOf_eq_none {v : Verdict} : refusalOf v = none ↔ v = .pass := by
  cases v <;> simp [refusalOf]

section Judgement

variable {s : State} {x : Screen}

/-- R60: content goes on to the time part when a pass covers it or the seated profile's verdict passes. -/
theorem State.judge_admitted {winding : Bool} (admitted : s.judge x = .admitted winding) :
    (x.override = false →
      ∃ c : CommonPart, commonOf s.profiles.table[x.seat] = some c ∧ verdict c x.step (contentFlags x) = .pass) ∧
    timeJudgement s.profiles.table s.metering x.seat = .admitted winding := by
  unfold State.judge at admitted
  split at admitted
  next => cases admitted
  next unrefused =>
    refine ⟨fun uncovered => ?_, admitted⟩
    rw [uncovered, if_neg Bool.false_ne_true, contentRefusal] at unrefused
    split at unrefused
    next => cases unrefused
    next c seated =>
      exact ⟨c, seated, refusalOf_eq_none.mp unrefused⟩

/-- R61: a CHILD is admitted with a running clock, time remaining and no curfew. -/
theorem timeJudgement_admitted {table : Vector Profile 8} {u : MeteringUnit} {p : Slot} {winding : Bool}
    (admitted : timeJudgement table u p = .admitted winding) (child : childOf table[p] ≠ none) :
    u.running = true ∧ ∃ a : Account, u.accounts[p] = some a ∧ 0 < a.remaining u.today ∧ a.curfew = .outside := by
  have seated : ¬ (childOf table[p]).isNone = true := by simpa using child
  rw [timeJudgement, if_neg seated] at admitted
  split at admitted
  next => cases admitted
  next running =>
    refine ⟨by simpa using running, ?_⟩
    split at admitted
    next => cases admitted
    next a held =>
      rw [accountJudgement] at admitted
      split_ifs at admitted with exhausted inside
      refine ⟨a, held, ?_, ?_⟩
      · simpa [Account.exhausted, Nat.pos_iff_ne_zero] using exhausted
      · cases curfew : a.curfew with
        | inside => exact absurd curfew inside
        | outside => rfl

end Judgement

/-- From a closed gate, only an admission opens it (Table 3-2). -/
theorem applied_opens {p : Profile} {x : Screen} {j : Judgement} (opened : gateOpen (applied false p x j).state = true) :
    ∃ winding, j = .admitted winding := by
  cases j with
  | admitted winding => exact ⟨winding, rfl⟩
  | refused r => cases opened
  | expired r => cases opened

/-- What R63 says of a screen whose gate has just opened. -/
def State.justAdmitted (s : State) (n : ScreenNo) (x : Screen) : Prop :=
  (x.state = .showing ∨ x.state = .winding) ∧ x.reason = none ∧ x.timer = none ∧
  (∀ v : Half, x.service = some v → v ≠ 0 → x.event = s.cache.currentOf v) ∧
  x.step = resolve s.profiles.maps (contentRating x) ∧
  (x.override = true → s.passes.covers n (identityOf x) = true) ∧
  (x.override = false →
    ∃ c : CommonPart, commonOf s.profiles.table[x.seat] = some c ∧ verdict c x.step (contentFlags x) = .pass) ∧
  (childOf s.profiles.table[x.seat] ≠ none →
    s.metering.running = true ∧ x.charge = .view ∧
    ∃ a : Account, s.metering.accounts[x.seat] = some a ∧ 0 < a.remaining s.metering.today ∧ a.curfew = .outside)

section Gates

variable {s t : State} {n : ScreenNo}

theorem chargeKind_on_air {p : Profile} {winding : Bool} (child : childOf p ≠ none) :
    chargeKind (if winding then .winding else .showing) p = .view := by
  obtain ⟨k, seated⟩ := Option.ne_none_iff_exists'.mp child
  cases winding <;> simp [chargeKind, seated]

/-- A test from a closed gate opens it only for what it has admitted. -/
theorem State.tested_justAdmitted {noPass : Bool}
    (opened : gateOpen (chargedScreen s.profiles.table (s.testedScreen n false noPass)).state = true) :
    s.justAdmitted n (chargedScreen s.profiles.table (s.testedScreen n false noPass)) := by
  obtain ⟨winding, admitted⟩ := applied_opens (p := s.profiles.table[(s.contentRead n noPass).seat]) opened
  have tested : s.testedScreen n false noPass =
      (s.contentRead n noPass).become (if winding then .winding else .showing) none none := by
    rw [State.testedScreen, admitted]
    rfl
  obtain ⟨content, time⟩ := State.judge_admitted admitted
  have service : (s.contentRead n noPass).service = s.screens.cells[n].service := by
    obtain ⟨e, k, o, read⟩ := s.contentRead_eq n noPass
    rw [read]
  rw [tested]
  refine ⟨?_, rfl, rfl, fun v on broadcast => ?_, s.contentRead_step n noPass, fun covered => ?_, content,
    fun child => ⟨(timeJudgement_admitted time child).1, chargeKind_on_air child, (timeJudgement_admitted time child).2⟩⟩
  · cases winding
    · exact .inl rfl
    · exact .inr rfl
  · have placed : s.screens.cells[n].service = some v := service.symm.trans on
    exact (s.contentRead_event n noPass).trans (by rw [refreshed_of_broadcast _ placed broadcast])
  · exact (Bool.and_eq_true_iff.mp ((s.contentRead_override n noPass).symm.trans covered)).2

theorem State.screenMove_opens {x : Screen} {tunes : Prop} (move : s.screenMove tunes n x) (closed : s.gate n = false)
    (opened : gateOpen x.state = true) : s.justAdmitted n x := by
  have shut : ∀ y : Screen, y.state = s.screens.cells[n].state → gateOpen y.state ≠ true := by
    intro y same
    rw [same, ← State.gate, closed]
    exact Bool.false_ne_true
  cases move with
  | same => exact absurd opened (shut _ rfl)
  | retested => rw [closed] at opened ⊢; exact State.tested_justAdmitted opened
  | waitEnds => exact State.tested_justAdmitted opened
  | closes => cases opened
  | darkens | standsBy =>
    unfold darkOf at opened
    split at opened
    · cases opened
    · exact absurd opened (shut _ rfl)
  | configured => exact absurd opened (shut _ rfl)
  | reseated => exact absurd opened (shut _ rfl)
  | reseatTested => exact State.tested_justAdmitted (s := s.setScreen n _) opened
  | tunedWaiting => cases opened
  | tuned => exact State.tested_justAdmitted (s := s.setScreen n _) opened

theorem State.justAdmitted_congr (context : s.sameContext t) {x : Screen} (admitted : s.justAdmitted n x) :
    t.justAdmitted n x := by
  obtain ⟨table, maps, metering, passes, cache⟩ := context
  unfold State.justAdmitted at admitted ⊢
  simp only [table, maps, metering, passes, cache]
  exact admitted

/-- Settles O25: a step opens a gate only by a move, and a move opens it only by a test from a closed gate. -/
theorem gatesOpenOnlyForAdmittedScreens : Obligations.GatesOpenOnlyForAdmittedScreens := by
  intro s t n stepped closed opened
  have shut : t.screens.cells[n].state ≠ s.screens.cells[n].state := by
    intro same
    rw [State.gate, same, ← State.gate, closed] at opened
    cases opened
  rcases step_screens stepped with ⟨_, _, _, moved⟩ | same | fall | load | ⟨c, level, ended⟩
  · exact State.justAdmitted_congr moved.1 (State.screenMove_opens (moved.2 n) closed opened)
  · exact absurd (by rw [same]) shut
  · exact absurd (by rw [fall, ScreenController.timersFall_cell]) shut
  · rw [State.gate, load] at opened
    simp [ScreenController.loadBegins, Screen.dark, gateOpen] at opened
  · exact absurd (by rw [ended]; simp [ScreenController.loaded]) shut

end Gates

/-! ### Screen records whose fields fit (R56, R59) -/

/-- Table 3-1: the content of a live screen: a descriptor for service 0 alone, a current event for a broadcast alone. -/
def contentPlaced (x : Screen) : Prop :=
  ∃ v : Half, x.service = some v ∧ x.descriptor.isSome = (v == 0) ∧ (x.event = none ∨ v ≠ 0)

/-- What a record meets before its charge is settled: reason, timer and content fit its state. -/
def settlesSound (x : Screen) : Prop :=
  reasonFits x.state x.reason = true ∧ timerFits x.state x.timer = true ∧ contentFits x = true

section Sound

variable {x : Screen}

theorem contentFits_of_live (live : x.state ≠ .dark) : contentFits x = true ↔ contentPlaced x := by
  unfold contentFits contentPlaced
  cases x.service <;> simp [live, and_assoc]

theorem contentFits_of_dark (dark : x.state = .dark) :
    contentFits x = true ↔ x.service = none ∧ x.descriptor = none ∧ x.event = none ∧ x.override = false := by
  unfold contentFits
  cases x.service <;> simp [dark, and_assoc]

theorem chargeFits_iff : chargeFits x = true ↔
    x.lastPair.kind = x.charge ∧ (x.charge = .nothing ∨ x.lastPair.profile = x.seat) ∧
    (x.charge = .view → x.state = .showing ∨ x.state = .winding) ∧ (x.charge = .overrun → x.state = .closing) := by
  cases kind : x.charge <;> simp [chargeFits, kind, and_assoc]

/-- R59: a charge is made through an open gate alone. -/
theorem charge_of_shut (fits : chargeFits x = true) (shut : gateOpen x.state = false) :
    x.charge = .nothing ∧ x.lastPair.kind = .nothing := by
  obtain ⟨last, -, view, overrun⟩ := chargeFits_iff.mp fits
  have none : x.charge = .nothing := by
    cases kind : x.charge with
    | nothing => rfl
    | view => rcases view kind with h | h <;> (rw [h] at shut; cases shut)
    | overrun => rw [overrun kind] at shut; cases shut
  exact ⟨none, last.trans none⟩

theorem chargeFits_of_none (none : x.charge = .nothing) (last : x.lastPair.kind = .nothing) : chargeFits x = true := by
  simp [chargeFits_iff, none, last]

theorem pairDiffers_eq_false {a b : ChargeEntry} :
    pairDiffers a b = false ↔ a = b ∨ (a.kind = .nothing ∧ b.kind = .nothing) := by
  simp only [pairDiffers, Bool.and_eq_false_iff, bne_eq_false_iff_eq, Bool.not_eq_false', Bool.and_eq_true, beq_iff_eq]

theorem chargeKind_view {st : ScreenState} {p : Profile} (view : chargeKind st p = .view) :
    st = .showing ∨ st = .winding := by
  cases child : childOf p <;> cases st <;> simp [chargeKind, child] at view ⊢

theorem chargeKind_overrun {st : ScreenState} {p : Profile} (overrun : chargeKind st p = .overrun) : st = .closing := by
  cases child : childOf p <;> cases st <;> simp [chargeKind, child] at overrun ⊢

/-- R59: the last pair of a settled charge is the pair itself, but where both are of kind NONE. -/
theorem chargedScreen_lastPair (table : Vector Profile 8) (x : Screen) :
    (chargedScreen table x).lastPair = chargePair table x ∨
    ((chargePair table x).kind = .nothing ∧ (chargedScreen table x).lastPair.kind = .nothing) := by
  cases differs : pairDiffers (chargePair table x) x.lastPair with
  | true => exact .inl (by simp [chargedScreen, differs])
  | false =>
    have kept : (chargedScreen table x).lastPair = x.lastPair := by simp [chargedScreen, differs]
    rw [kept]
    exact (pairDiffers_eq_false.mp differs).imp_left Eq.symm

/-- R59: a settled charge fits, whatever it was before. -/
theorem chargedScreen_sound (settles : settlesSound x) (table : Vector Profile 8) : screenSound (chargedScreen table x) := by
  obtain ⟨reason, timer, content⟩ := settles
  refine ⟨reason, timer, content, chargeFits_iff.mpr ?_⟩
  rcases chargedScreen_lastPair table x with same | ⟨none, last⟩
  · rw [same]
    exact ⟨rfl, .inr rfl, chargeKind_view, chargeKind_overrun⟩
  · exact ⟨last.trans none.symm, .inl none, chargeKind_view, chargeKind_overrun⟩

end Sound

/-! ### The outcome of a test fits (R62, Table 3-2) -/

/-- Table 3-1: the reasons an outcome may give. -/
def Judgement.reasoned : Judgement → Prop
  | .admitted _ => True
  | .refused r => reasonFits .refused (some r) = true
  | .expired r => reasonFits .expired (some r) = true

theorem timeJudgement_reasoned (table : Vector Profile 8) (u : MeteringUnit) (p : Slot) :
    (timeJudgement table u p).reasoned := by
  unfold timeJudgement accountJudgement
  split_ifs
  · trivial
  · rfl
  · split
    · rfl
    · split_ifs
      · rfl
      · rfl
      · trivial

theorem contentRefusal_reasoned {p : Profile} {step : Option (Fin 16)} {flags : Option FlagSet} {r : Reason}
    (refusal : contentRefusal p step flags = some r) : reasonFits .refused (some r) = true := by
  unfold contentRefusal at refusal
  split at refusal
  · cases refusal
    rfl
  · unfold refusalOf at refusal
    split at refusal <;> cases refusal <;> rfl

theorem State.judge_reasoned (s : State) (x : Screen) : (s.judge x).reasoned := by
  unfold State.judge
  split
  next r refusal =>
    split at refusal
    · cases refusal
    · exact contentRefusal_reasoned refusal
  next => exact timeJudgement_reasoned _ _ _

section Tested

variable {x : Screen} {p : Profile} {r : Reason}

theorem settlesSound_of_live (live : x.state ≠ .dark) (reason : reasonFits x.state x.reason = true)
    (timer : timerFits x.state x.timer = true) (content : contentPlaced x) : settlesSound x :=
  ⟨reason, timer, (contentFits_of_live live).mpr content⟩

/-- Table 3-2: leaving an open gate for a time reason. -/
theorem closeFor_settlesSound (content : contentPlaced x) (reason : reasonFits .expired (some r) = true) :
    settlesSound (closeFor p r x) := by
  have expired : settlesSound (x.become .expired (some r) none) :=
    settlesSound_of_live ScreenState.noConfusion reason rfl content
  unfold closeFor
  split
  · split
    next closes =>
      refine settlesSound_of_live ScreenState.noConfusion ?_ rfl content
      cases r with
      | clock => exact absurd rfl closes.1
      | allowance | curfew => rfl
      | rating | flags | unrated => cases reason
    next => exact expired
  · exact expired

theorem stayClosing_settlesSound (closing : x.state = .closing) (timer : timerFits x.state x.timer = true)
    (content : contentPlaced x) (reason : reasonFits .expired (some r) = true) : settlesSound (stayClosing r x) := by
  unfold stayClosing
  split
  next => exact settlesSound_of_live ScreenState.noConfusion reason rfl content
  next other =>
    refine settlesSound_of_live (by rw [closing]; exact ScreenState.noConfusion) ?_ timer content
    rw [closing]
    cases r with
    | clock => exact absurd rfl other
    | allowance | curfew => rfl
    | rating | flags | unrated => cases reason

/-- An outcome leaves a record that fits, when its content fits and, from an open gate, its timer does. -/
theorem applied_settlesSound {fromOpen : Bool} {j : Judgement} (reasoned : j.reasoned) (content : contentPlaced x)
    (timer : fromOpen = true → timerFits x.state x.timer = true) : settlesSound (applied fromOpen p x j) := by
  unfold applied
  split
  case h_1 winding =>
    cases winding with
    | true => exact settlesSound_of_live ScreenState.noConfusion rfl rfl content
    | false => exact settlesSound_of_live ScreenState.noConfusion rfl rfl content
  case h_2 r => exact settlesSound_of_live ScreenState.noConfusion reasoned rfl content
  case h_3 r =>
    split
    next opened =>
      split
      next closing => exact stayClosing_settlesSound closing (timer opened) content reasoned
      next => exact closeFor_settlesSound content reasoned
    next => exact settlesSound_of_live ScreenState.noConfusion reasoned rfl content

theorem refreshed_placed (content : contentPlaced x) (c : GuideCache) : contentPlaced (refreshed c x) := by
  obtain ⟨v, service, descriptor, event⟩ := content
  by_cases zero : v = 0
  · rw [refreshed_of_not_broadcast c (.inr (zero ▸ service))]
    exact ⟨v, service, descriptor, event⟩
  · rw [refreshed_of_broadcast c service zero]
    exact ⟨v, service, descriptor, .inr zero⟩

theorem State.testedScreen_sound {s : State} {n : ScreenNo} {fromOpen : Bool} (content : contentPlaced s.screens.cells[n])
    (timer : fromOpen = true → timerFits s.screens.cells[n].state s.screens.cells[n].timer = true) (noPass : Bool) :
    screenSound (chargedScreen s.profiles.table (s.testedScreen n fromOpen noPass)) := by
  have placed : contentPlaced (s.contentRead n noPass) := refreshed_placed content s.cache
  obtain ⟨e, k, o, read⟩ := s.contentRead_eq n noPass
  refine chargedScreen_sound (applied_settlesSound (s.judge_reasoned _) placed ?_) _
  rw [read]
  exact timer

end Tested

/-! ### Every move keeps a record sound -/

section Keeps

variable {s : State} {n : ScreenNo} {x : Screen}

theorem screenSound.placed (sound : screenSound x) (live : x.state ≠ .dark) : contentPlaced x :=
  (contentFits_of_live live).mp sound.2.2.1

theorem endedScreen_charge (sound : screenSound x) :
    (endedScreen x).charge = .nothing ∧ (endedScreen x).lastPair.kind = .nothing := by
  refine ⟨rfl, ?_⟩
  obtain ⟨last, -⟩ := chargeFits_iff.mp sound.2.2.2
  unfold endedScreen
  dsimp only
  split
  next none => exact last.trans none
  next => rfl

theorem darkOf_sound (sound : screenSound x) : screenSound (darkOf x) := by
  unfold darkOf
  split
  next =>
    obtain ⟨charge, last⟩ := endedScreen_charge sound
    exact ⟨rfl, rfl, rfl, chargeFits_of_none charge last⟩
  next => exact sound

theorem darkOf_state (x : Screen) : (darkOf x).state = .dark := by
  unfold darkOf
  split
  next => rfl
  next dead => simpa [Screen.live] using dead

/-- Table 3-1: a CLOSING reason is an EXPIRED reason. -/
theorem reasonFits_expired_of_closing {r : Option Reason} (fits : reasonFits .closing r = true) :
    reasonFits .expired r = true := by
  cases r with
  | none => cases fits
  | some y =>
    cases y with
    | allowance | curfew => rfl
    | rating | flags | unrated | clock => cases fits

/-- R81: a configuration is no part of what must fit. -/
theorem configured_sound (sound : screenSound x) (kind : ScreenKind) (wait : Nat) :
    screenSound { x with kind := kind, guideWait := wait } := sound

/-- R77: neither is the seat. -/
theorem reseatedScreen_settlesSound (settles : settlesSound x) (p : Slot) : settlesSound (reseatedScreen x p) := settles

theorem closedScreen_sound (sound : screenSound x) (closing : x.state = .closing) : screenSound (closedScreen x) := by
  obtain ⟨reason, -, content, -⟩ := sound
  have live : x.state ≠ .dark := by rw [closing]; exact ScreenState.noConfusion
  have placed := (contentFits_of_live live).mp content
  have last : (closedScreen x).lastPair.kind = .nothing := by
    unfold closedScreen
    dsimp only
    split
    next none => exact none
    next => rfl
  refine ⟨?_, rfl, (contentFits_of_live ScreenState.noConfusion).mpr placed, chargeFits_of_none rfl last⟩
  rw [closing] at reason
  exact reasonFits_expired_of_closing reason

theorem tuned_placed {service : Half} {d : Option Descriptor} (fits : d.isSome = (service == 0)) (x : Screen) :
    contentPlaced (tunedRecord x service d) := ⟨service, rfl, fits, .inl rfl⟩

theorem State.screenMove_sound {tunes : Prop} (sound : screenSound s.screens.cells[n]) (move : s.screenMove tunes n x) :
    screenSound x := by
  obtain ⟨reason, timer, content, charge⟩ := id sound
  cases move with
  | same => exact sound
  | retested live => exact State.testedScreen_sound (sound.placed live) (fun _ => timer) false
  | waitEnds waiting =>
    have live : s.screens.cells[n].state ≠ .dark := by rw [waiting]; exact ScreenState.noConfusion
    exact State.testedScreen_sound (sound.placed live) (fun _ => timer) false
  | closes closing => exact closedScreen_sound sound closing
  | darkens => exact darkOf_sound sound
  | standsBy =>
    obtain ⟨reason, timer, content, charge⟩ := darkOf_sound sound
    obtain ⟨none, last⟩ := charge_of_shut charge (by rw [darkOf_state]; rfl)
    exact ⟨reason, timer, content, chargeFits_of_none none last⟩
  | configured dark kind wait => exact configured_sound sound kind wait
  | reseated may p => exact chargedScreen_sound (reseatedScreen_settlesSound ⟨reason, timer, content⟩ p) _
  | reseatTested may p started =>
    refine State.testedScreen_sound (s := s.setScreen n _) ?_ (fun h => Bool.noConfusion h) true
    rw [State.setScreen_cells, put_self]
    exact sound.placed (not_or.mp started).1
  | tunedWaiting may service broadcast =>
    refine chargedScreen_sound (settlesSound_of_live ScreenState.noConfusion rfl rfl ?_) _
    exact tuned_placed (d := none) (beq_false_of_ne broadcast).symm (leftScreen s.screens.cells[n])
  | tuned may service d fits =>
    refine State.testedScreen_sound (s := s.setScreen n _) ?_ (fun h => Bool.noConfusion h) _
    rw [State.setScreen_cells, put_self]
    exact tuned_placed fits _

end Keeps

/-- Settles O55: every move keeps a record sound, a timer that falls still runs, and a load begins with DARK screens. -/
theorem everyStepKeepsTheScreensSound : Obligations.EveryStepKeepsTheScreensSound := by
  intro s t sound stepped n
  rcases step_screens stepped with ⟨_, _, _, moved⟩ | same | fall | load | ⟨c, level, ended⟩
  · exact State.screenMove_sound (sound n) (moved.2 n)
  · rw [same]; exact sound n
  · rw [fall, ScreenController.timersFall_cell]
    obtain ⟨reason, timer, content, charge⟩ := sound n
    refine ⟨reason, ?_, content, charge⟩
    simpa [timerFits, timerFalls] using timer
  · have dark : t.screens.cells[n] = .dark s.screens.cells[n].kind s.screens.cells[n].guideWait := by
      rw [load]
      simp [ScreenController.loadBegins]
    rw [dark]
    exact ⟨rfl, rfl, rfl, rfl⟩
  · have kept : t.screens.cells[n] =
        { s.screens.cells[n] with kind := c.screens[n].kind, guideWait := c.screens[n].guideWait } := by
      rw [ended]
      simp [ScreenController.loaded]
    rw [kept]
    exact configured_sound (sound n) _ _

end Sys2Proof.Machine
end

section
/-! PROOFS. The Profile Unit (01): edit images, edits and clears, maps and the household, the ends of lockouts and windows. The
theorems settle O8, O11, O12, O13, O14 and O53. -/

namespace Sys2Proof.Machine

/-! ### Reading fields (10 R190) -/

theorem below_eq_none {n : Nat} {b : Byte} : below n b = none ↔ n ≤ b.toNat := by
  unfold below
  split
  next inside => simp [inside]
  next outside => simp [Nat.not_lt.mp outside]

theorem flagsOf_eq_none {b : Byte} : flagsOf b = none ↔ 31 < b.toNat := by
  unfold flagsOf
  split
  next inside => simp; omega
  next outside => simp; omega

theorem unratedOf_eq_none {b : Byte} : unratedOf b = none ↔ 15 < b.toNat ∧ b ≠ 0x40 ∧ b ≠ 0x41 := by
  unfold unratedOf
  split
  next allow => simp [allow]
  next other =>
    split
    next block => simp [block]
    next step =>
      rw [Option.map_eq_none_iff, below_eq_none]
      exact ⟨fun outside => ⟨outside, other, step⟩, fun outside => outside.1⟩

theorem applicabilityOf_eq_none {b : Byte} : applicabilityOf b = none ↔ 2 < b.toNat := by
  revert b
  decide

/-! ### Lists of fields, none when one is bad -/

section Lists

variable {α β : Type} {f : α → Option β} {l : List α}

theorem mapM_eq_none : l.mapM f = none ↔ ∃ x ∈ l, f x = none := by
  induction l with
  | nil => simp
  | cons a l ih => cases ha : f a <;> cases hl : l.mapM f <;> simp_all

theorem mapM_eq_some {r : List β} : l.mapM f = some r ↔ l.map f = r.map some := by
  induction l generalizing r with
  | nil => cases r <;> simp
  | cons a l ih =>
    cases ha : f a with
    | none => cases r <;> simp [ha]
    | some b =>
      cases hl : l.mapM f with
      | none =>
        rw [hl] at ih
        cases r with
        | nil => simp [ha, hl]
        | cons c r => simpa [ha, hl] using fun _ => ih
      | some bs =>
        rw [hl] at ih
        cases r with
        | nil => simp [ha, hl]
        | cons c r => simp [ha, hl, ← ih]

theorem length_of_mapM {r : List β} (read : l.mapM f = some r) : r.length = l.length := by
  simpa using (congrArg List.length (mapM_eq_some.mp read)).symm

/-- Every value read comes from an element. -/
theorem forall_of_mapM {r : List β} (read : l.mapM f = some r) {y : β} (member : y ∈ r) : ∃ x ∈ l, f x = some y := by
  have among : some y ∈ l.map f := by
    rw [mapM_eq_some.mp read]
    exact List.mem_map_of_mem member
  exact List.mem_map.mp among

end Lists

theorem digitsOf_eq (l : List Nat) : digitsOf l = l.mapM digitOf := by
  induction l with
  | nil => rfl
  | cons n l ih => rw [digitsOf, ih, List.mapM_cons]; cases digitOf n <;> cases l.mapM digitOf <;> rfl

theorem windowsOf_eq (l : List RawWindow) : windowsOf l = l.mapM windowOf := by
  induction l with
  | nil => rfl
  | cons n l ih => rw [windowsOf, ih, List.mapM_cons]; cases windowOf n <;> cases l.mapM windowOf <;> rfl

theorem mapEntriesOf_eq (l : List Byte) : mapEntriesOf l = l.mapM mapEntryOf := by
  induction l with
  | nil => rfl
  | cons n l ih => rw [mapEntriesOf, ih, List.mapM_cons]; cases mapEntryOf n <;> cases l.mapM mapEntryOf <;> rfl

theorem dayKindsOf_eq (l : List Byte) : dayKindsOf l = l.mapM dayKindOf := by
  induction l with
  | nil => rfl
  | cons n l ih => rw [dayKindsOf, ih, List.mapM_cons]; cases dayKindOf n <;> cases l.mapM dayKindOf <;> rfl

/-! ### Edit images (R17 step 4, Table 10-7): when each field is bad -/

theorem digitOf_eq_none {n : Nat} : digitOf n = none ↔ 9 < n := by
  unfold digitOf
  split
  next inside => simp; omega
  next outside => simp; omega

theorem pinOf_eq_none {p : RawPin} :
    pinOf p = none ↔ (p.count.toNat < 4 ∨ 6 < p.count.toNat ∨ ∃ d ∈ (pinHalves p).take p.count.toNat, 9 < d) := by
  unfold pinOf
  split
  next inside =>
    simp only [digitsOf_eq, mapM_eq_none, digitOf_eq_none, Nat.not_lt.mpr inside.1, Nat.not_lt.mpr inside.2, false_or]
  next outside => simp only [true_iff]; omega

theorem pinChoiceOf_eq_none {p : RawPin} : pinChoiceOf p = none ↔ p.count ≠ 0 ∧ p.count ≠ 1 ∧
    (p.count.toNat < 4 ∨ 6 < p.count.toNat ∨ ∃ d ∈ (pinHalves p).take p.count.toNat, 9 < d) := by
  unfold pinChoiceOf
  split
  next keep => simp [keep]
  next kept =>
    split
    next remove => simp [remove]
    next fresh => rw [Option.map_eq_none_iff, pinOf_eq_none]; exact ⟨fun bad => ⟨kept, fresh, bad⟩, fun bad => bad.2.2⟩

/-- R195: a label is bad at a character out of range, or at one after the first 0x00. -/
def badLabel (l : List Byte) : Prop :=
  ∃ (i : Nat) (b : Byte), l[i]? = some b ∧ b ≠ 0 ∧ ((b.toNat < 0x20 ∨ 0x7E < b.toNat) ∨ ∃ j < i, l[j]? = some 0)

theorem badLabel_zero_cons {l : List Byte} : badLabel (0 :: l) ↔ ∃ b ∈ l, b ≠ 0 := by
  constructor
  · rintro ⟨i, b, at_i, nonzero, -⟩
    cases i with
    | zero => simp at at_i; exact absurd at_i.symm nonzero
    | succ i => exact ⟨b, List.mem_of_getElem? (by simpa using at_i), nonzero⟩
  · rintro ⟨b, member, nonzero⟩
    obtain ⟨i, at_i⟩ := List.getElem?_of_mem member
    exact ⟨i + 1, b, by simpa using at_i, nonzero, .inr ⟨0, by omega, rfl⟩⟩

theorem badLabel_cons {c : Byte} {l : List Byte} (nonzero : c ≠ 0) (printable : 0x20 ≤ c.toNat ∧ c.toNat ≤ 0x7E) :
    badLabel (c :: l) ↔ badLabel l := by
  constructor
  · rintro ⟨i, b, at_i, here, bad⟩
    cases i with
    | zero =>
      obtain rfl : c = b := by simpa using at_i
      rcases bad with range | ⟨j, before, -⟩
      · omega
      · exact absurd before (Nat.not_lt_zero j)
    | succ i =>
      refine ⟨i, b, by simpa using at_i, here, bad.imp_right ?_⟩
      rintro ⟨j, before, zero⟩
      cases j with
      | zero => simp at zero; exact absurd zero nonzero
      | succ j => exact ⟨j, by omega, by simpa using zero⟩
  · rintro ⟨i, b, at_i, here, bad⟩
    refine ⟨i + 1, b, by simpa using at_i, here, bad.imp_right ?_⟩
    rintro ⟨j, before, zero⟩
    exact ⟨j + 1, by omega, by simpa using zero⟩

theorem labelOf_eq_none {l : List Byte} : labelOf l = none ↔ badLabel l := by
  induction l with
  | nil => simp [labelOf, badLabel]
  | cons c l ih =>
    unfold labelOf
    split
    next zero => rw [zero, badLabel_zero_cons]; simp
    next nonzero =>
      split
      next printable => rw [Option.map_eq_none_iff, ih, badLabel_cons nonzero printable]
      next range => exact ⟨fun _ => ⟨0, c, rfl, nonzero, .inl (by omega)⟩, fun _ => rfl⟩

theorem windowOf_eq_none {w : RawWindow} : windowOf w = none ↔
    (1439 < w.start.toNat ∨ 1439 < w.stop.toNat ∨ w.start = w.stop ∨ 2 < w.applies.toNat) := by
  unfold windowOf
  split
  next good =>
    obtain ⟨start, stop, differ⟩ := good
    rw [Option.map_eq_none_iff, applicabilityOf_eq_none]
    simp only [differ, false_or]
    omega
  next bad =>
    simp only [true_iff]
    by_cases same : w.start = w.stop
    · exact .inr (.inr (.inl same))
    · simp only [same, not_false_eq_true, ne_eq, and_true] at bad
      omega

theorem childPartOf_eq_none {g : EditImage} : childPartOf g = none ↔
    (1440 < g.school.toNat ∨ 1440 < g.free.toNat ∨ 240 < g.bonusCap.toNat ∨ 3 < g.modes.toNat ∨ 30 < g.lead.toNat ∨
      600 < g.grace.toNat ∨ 3 < g.windowCount.toNat ∨ ∃ w ∈ g.windows.take g.windowCount.toNat,
        1439 < w.start.toNat ∨ 1439 < w.stop.toNat ∨ w.start = w.stop ∨ 2 < w.applies.toNat) := by
  unfold childPartOf
  split
  next good =>
    obtain ⟨school, free, cap, modes, lead, grace, count⟩ := good
    simp only [Option.map_eq_none_iff, windowsOf_eq, mapM_eq_none, windowOf_eq_none, Nat.not_lt.mpr school,
      Nat.not_lt.mpr free, Nat.not_lt.mpr cap, Nat.not_lt.mpr (Nat.le_of_lt_succ modes), Nat.not_lt.mpr lead,
      Nat.not_lt.mpr grace, Nat.not_lt.mpr count, false_or]
  next bad => simp only [true_iff]; omega

theorem commonPartOf_eq_none {g : EditImage} : commonPartOf g = none ↔
    (badLabel (g.label.take 12) ∨ 15 < g.ceiling.toNat ∨ 31 < g.blocked.toNat ∨
      (15 < g.unrated.toNat ∧ g.unrated ≠ 0x40 ∧ g.unrated ≠ 0x41) ∨ g.seatLimit.toNat < 1 ∨ 4 < g.seatLimit.toNat) := by
  rw [← labelOf_eq_none, ← flagsOf_eq_none, ← unratedOf_eq_none, ← Nat.succ_le_iff (m := 15), ← below_eq_none]
  unfold commonPartOf
  split
  next l c f u label ceiling blocked unrated =>
    simp only [label, ceiling, blocked, unrated, reduceCtorEq, false_or]
    split
    next inside => simp only [reduceCtorEq, false_iff]; omega
    next outside => simp only [true_iff]; omega
  next missing =>
    simp only [true_iff]
    cases label : labelOf (g.label.take 12) with
    | none => exact .inl rfl
    | some l =>
      cases ceiling : below 16 g.ceiling with
      | none => exact .inr (.inl rfl)
      | some c =>
        cases blocked : flagsOf g.blocked with
        | none => exact .inr (.inr (.inl rfl))
        | some f =>
          cases unrated : unratedOf g.unrated with
          | none => exact .inr (.inr (.inr (.inl rfl)))
          | some u => exact absurd unrated (missing l c f u label ceiling blocked)

theorem editOf_eq_none {g : EditImage} : editOf g = none ↔
    commonPartOf g = none ∨ pinChoiceOf g.pin = none ∨ (g.kind = 1 ∧ childPartOf g = none) ∨ (g.kind ≠ 1 ∧ g.kind ≠ 2) := by
  unfold editOf
  cases commonPartOf g with
  | none => simp
  | some c =>
    cases pinChoiceOf g.pin with
    | none => simp
    | some p =>
      simp only [reduceCtorEq, false_or]
      split
      next child => simp [child]
      next other =>
        split
        next adult => simp [adult]
        next neither => exact ⟨fun _ => .inr ⟨other, neither⟩, fun _ => rfl⟩

/-! ### Edits and clears (R17 to R19) -/

theorem underAuthority_granted {r : Role} {s : State} {opener : Option Slot} (authority : s.authority r = some opener)
    (act : Option Slot → State × Answer) : underAuthority r s act = act opener := by
  rw [underAuthority, authority]

theorem underAuthority_refuses {r : Role} {s : State} (authority : s.authority r = none)
    (act : Option Slot → State × Answer) : underAuthority r s act = (s, .bare .noAuthority) := by
  rw [underAuthority, authority]
  rfl

/-- A protected request under authority, whose act does not depend on the opener. -/
theorem onRequest_authorised {i : Instr} {r : Role} {s : State} (taken : s.handed r i = true)
    (authority : s.authority r ≠ none) {act : State → Option Slot → State × Answer} {result : State × Answer}
    (acts : ∀ opener, act s opener = result) :
    onRequest i r s (fun s => underAuthority r s (act s)) = .next (result.1.place r result.2) := by
  obtain ⟨opener, held⟩ := Option.ne_none_iff_exists'.mp authority
  rw [onRequest_handed taken, underAuthority_granted held, acts]

/-- What every protected request does without authority. -/
theorem onRequest_unauthorised {i : Instr} {r : Role} {s : State} (taken : s.handed r i = true)
    (authority : s.authority r = none) (act : State → Option Slot → State × Answer) :
    onRequest i r s (fun s => underAuthority r s (act s)) = .next (s.place r (.bare .noAuthority)) := by
  rw [onRequest_handed taken, underAuthority_refuses authority]

theorem State.profileEdited_eq (s : State) (p : Slot) :
    s.profileEdited p = s.sendAll [.profileChangedMetering (.one p), .profileChanged (.one p), .dirtyMark .profile false,
      .notice .profile .authority .every 0] := by
  simp [State.profileEdited, State.send_eq, State.markDirty_eq, State.raise_eq]

/-- R14: the windows whose opener is p close. -/
theorem ProfileUnit.closeOpenedBy_window (u : ProfileUnit) (p : Slot) (q : Role) :
    (u.closeOpenedBy p).windows.get q =
      if (u.windows.get q).any (fun w => w.opener == p) then none else u.windows.get q := by
  have closed : (u.closeOpenedBy p).windows.get q = (u.windows.get q).filter fun w => w.opener != p := by
    cases q <;> rfl
  rw [closed]
  cases u.windows.get q with
  | none => rfl
  | some w => by_cases same : w.opener = p <;> simp [same, Option.filter]

section Edits

variable {s : State} {p : Slot} {e : Edit} {image : EditImage}

theorem editSlot_of_illFormed (bad : editOf image = none) : editSlot p image s = (s, .bare .badValue) := by
  rw [editSlot, bad]
  rfl

theorem editSlot_of_adultWithoutPin (read : editOf image = some e) (adult : e.child = none)
    (noPin : pinResulting e.choice s.profiles.table[p] = none) : editSlot p image s = (s, .bare .badValue) := by
  simp only [editSlot, read]
  rw [if_pos ⟨adult, noPin⟩]
  rfl

theorem editSlot_of_seats (read : editOf image = some e) (seats : e.common.seatLimit < s.liveSeats p) :
    editSlot p image s = (s, .bare .badValue) := by
  simp only [editSlot, read]
  rw [if_pos seats, ite_self]
  rfl

theorem editSlot_accepted (read : editOf image = some e)
    (hasPin : e.child = none → pinResulting e.choice s.profiles.table[p] ≠ none)
    (seats : s.liveSeats p ≤ e.common.seatLimit) :
    editSlot p image s = ((s.withProfiles (s.profiles.edited p e)).profileEdited p, .ok []) := by
  simp only [editSlot, read]
  rw [if_neg (fun missing => hasPin missing.1 missing.2), if_neg (Nat.not_lt.mpr seats)]

/-- R18: what an accepted edit makes of the Profile Unit. -/
theorem ProfileUnit.edited_spec (u : ProfileUnit) (p : Slot) (e : Edit) :
    (u.edited p e).table = put u.table p (profileWritten e (pinResulting e.choice u.table[p])) ∧
    (u.edited p e).maps = u.maps ∧ (u.edited p e).household = u.household ∧
    (u.edited p e).failures = (if e.choice = .keep then u.failures else put u.failures p 0) ∧
    (u.edited p e).lockouts = (if e.choice = .keep then u.lockouts else put u.lockouts p none) ∧
    ∀ q : Role, (u.edited p e).windows.get q =
      if e.child.isSome ∧ (u.windows.get q).any (fun w => w.opener == p) then none else u.windows.get q := by
  unfold ProfileUnit.edited
  dsimp only
  split_ifs with child keep keep
  all_goals
    refine ⟨rfl, rfl, rfl, rfl, rfl, fun q => ?_⟩
  · rw [ProfileUnit.closeOpenedBy_window]
    simp [child]
  · rw [ProfileUnit.closeOpenedBy_window]
    simp [child, ProfileUnit.release] <;> rfl
  · simp [child]
  · simp [child, ProfileUnit.release]

theorem exec_editProfile (r : Role) (slot : Byte) (image : EditImage) (s : State) :
    exec (.editProfile r slot image) s = execEditProfile r slot image s := rfl

theorem exec_clearProfile (r : Role) (slot : Byte) (s : State) :
    exec (.clearProfile r slot) s = execClearProfile r slot s := rfl

section Exec

variable {r : Role} {slot : Byte}

theorem exec_editProfile_of_outOfRange (taken : s.handed r (.editProfile r slot image) = true)
    (authority : s.authority r ≠ none) (bad : slotOf slot = none) :
    exec (.editProfile r slot image) s = .next (s.place r (.bare .badValue)) := by
  rw [exec_editProfile, execEditProfile, onRequest_authorised taken authority (result := (s, .bare .badValue))]
  intro opener
  simp only [bad]
  rfl

theorem exec_editProfile_of_edit (taken : s.handed r (.editProfile r slot image) = true)
    (authority : s.authority r ≠ none) (named : slotOf slot = some p) (edit : image.kind ≠ 0) :
    exec (.editProfile r slot image) s = .next ((editSlot p image s).1.place r (editSlot p image s).2) := by
  rw [exec_editProfile, execEditProfile, onRequest_authorised taken authority (result := editSlot p image s)]
  intro opener
  simp only [named, if_neg edit]

theorem exec_editProfile_of_clear (taken : s.handed r (.editProfile r slot image) = true)
    (authority : s.authority r ≠ none) (named : slotOf slot = some p) (clear : image.kind = 0) :
    exec (.editProfile r slot image) s = .next ((clearSlot p s).1.place r (clearSlot p s).2) := by
  rw [exec_editProfile, execEditProfile, onRequest_authorised taken authority (result := clearSlot p s)]
  intro opener
  simp only [named, if_pos clear]

theorem exec_clearProfile_of_outOfRange (taken : s.handed r (.clearProfile r slot) = true)
    (authority : s.authority r ≠ none) (bad : slotOf slot = none) :
    exec (.clearProfile r slot) s = .next (s.place r (.bare .badValue)) := by
  rw [exec_clearProfile, execClearProfile, onRequest_authorised taken authority (result := (s, .bare .badValue))]
  intro opener
  simp only [bad]
  rfl

theorem exec_clearProfile_of_named (taken : s.handed r (.clearProfile r slot) = true)
    (authority : s.authority r ≠ none) (named : slotOf slot = some p) :
    exec (.clearProfile r slot) s = .next ((clearSlot p s).1.place r (clearSlot p s).2) := by
  rw [exec_clearProfile, execClearProfile, onRequest_authorised taken authority (result := clearSlot p s)]
  intro opener
  simp only [named]

end Exec

theorem clearSlot_of_zero : clearSlot 0 s = (s, .bare .badValue) := if_pos rfl

theorem clearSlot_of_empty (other : p ≠ 0) (empty : s.profiles.table[p] = .empty) : clearSlot p s = (s, .ok []) := by
  rw [clearSlot, if_neg other, if_pos empty]

theorem State.seated_iff : s.seated p = true ↔ ∃ n : ScreenNo, s.screens.cells[n].seat = p := by
  simp [State.seated]

theorem clearSlot_of_seated (other : p ≠ 0) (kept : s.profiles.table[p] ≠ .empty) (seated : s.seated p = true) :
    clearSlot p s = (s, .bare .inUse) := by
  rw [clearSlot, if_neg other, if_neg kept, if_pos seated]
  rfl

theorem clearSlot_accepted (other : p ≠ 0) (kept : s.profiles.table[p] ≠ .empty) (free : s.seated p = false) :
    clearSlot p s = (s.emptySlot p, .ok []) := by
  rw [clearSlot, if_neg other, if_neg kept, free]
  rfl

/-- R19: the Profile Unit with slot p emptied. -/
def ProfileUnit.emptied (u : ProfileUnit) (p : Slot) : ProfileUnit :=
  ({ u with table := put u.table p .empty }.release p).closeOpenedBy p

theorem State.emptySlot_eq (s : State) (p : Slot) : s.emptySlot p = (s.withProfiles (s.profiles.emptied p)).sendAll
    [.dropProfile p, .profileChangedMetering (.one p), .profileChanged (.one p), .dirtyMark .profile false,
      .notice .profile .authority .every 0] := by
  rw [State.emptySlot, State.profileEdited_eq, State.send_eq, State.sendAll_sendAll]
  rfl

end Edits

theorem State.setExchange_setExchange (s : State) (r : Role) (e f : Exchange) :
    (s.setExchange r e).setExchange r f = s.setExchange r f := by
  simp [State.setExchange, State.withPort]

/-- A clear does not read the exchanges, and leaves them as they are. -/
theorem clearSlot_setExchange (s : State) (p : Slot) (r : Role) (e : Exchange) :
    clearSlot p (s.setExchange r e) = ((clearSlot p s).1.setExchange r e, (clearSlot p s).2) := by
  by_cases zero : p = 0
  · rw [zero, clearSlot_of_zero, clearSlot_of_zero]
  by_cases empty : s.profiles.table[p] = .empty
  · rw [clearSlot_of_empty zero empty, clearSlot_of_empty zero (by exact empty)]
  cases seated : s.seated p with
  | true => rw [clearSlot_of_seated zero empty seated, clearSlot_of_seated zero (by exact empty) (by exact seated)]
  | false =>
    rw [clearSlot_accepted zero empty seated, clearSlot_accepted zero (by exact empty) (by exact seated),
      State.emptySlot_eq, State.emptySlot_eq]
    rfl

/-- What R17 calls an ill-formed image, as the parts of an edit read it. -/
theorem editOf_eq_none_iff {g : EditImage} : editOf g = none ↔
    ((g.kind ≠ 1 ∧ g.kind ≠ 2) ∨ badLabel (g.label.take 12) ∨
      (g.pin.count ≠ 0 ∧ g.pin.count ≠ 1 ∧
        (g.pin.count.toNat < 4 ∨ 6 < g.pin.count.toNat ∨ ∃ d ∈ (pinHalves g.pin).take g.pin.count.toNat, 9 < d)) ∨
      15 < g.ceiling.toNat ∨ 31 < g.blocked.toNat ∨ (15 < g.unrated.toNat ∧ g.unrated ≠ 0x40 ∧ g.unrated ≠ 0x41) ∨
      g.seatLimit.toNat < 1 ∨ 4 < g.seatLimit.toNat ∨
      (g.kind = 1 ∧ (1440 < g.school.toNat ∨ 1440 < g.free.toNat ∨ 240 < g.bonusCap.toNat ∨ 3 < g.modes.toNat ∨
        30 < g.lead.toNat ∨ 600 < g.grace.toNat ∨ 3 < g.windowCount.toNat ∨ ∃ w ∈ g.windows.take g.windowCount.toNat,
          1439 < w.start.toNat ∨ 1439 < w.stop.toNat ∨ w.start = w.stop ∨ 2 < w.applies.toNat))) := by
  have regroup : ∀ {kind label pin ceiling blocked unrated few many child : Prop},
      ((label ∨ ceiling ∨ blocked ∨ unrated ∨ few ∨ many) ∨ pin ∨ child ∨ kind) ↔
      (kind ∨ label ∨ pin ∨ ceiling ∨ blocked ∨ unrated ∨ few ∨ many ∨ child) := by tauto
  rw [editOf_eq_none, commonPartOf_eq_none, pinChoiceOf_eq_none, childPartOf_eq_none]
  exact regroup

/-- Settles O11: the checks by the equations of an edit, the image by its fields, the record by what an edit writes. -/
theorem editProfileReplacesOneRecord : Obligations.EditProfileReplacesOneRecord := by
  refine ⟨fun r slot image s taken authority => ⟨fun bad => ?_, fun clear => ?_, ?_, fun edit bad => ?_⟩,
    fun image => editOf_eq_none_iff.symm, ?_⟩
  · exact exec_editProfile_of_outOfRange taken authority (slotOf_eq_none bad)
  · have again : (s.setExchange r (.inFlight (some (.clearProfile r slot)))).handed r (.clearProfile r slot) = true := by
      simp [State.handed]
    have placed : ∀ a, (s.setExchange r (.inFlight (some (.clearProfile r slot)))).place r a = s.place r a :=
      fun a => State.setExchange_setExchange s r _ _
    cases named : slotOf slot with
    | none =>
      rw [exec_editProfile_of_outOfRange taken authority named, exec_clearProfile_of_outOfRange again authority named,
        placed]
    | some p =>
      rw [exec_editProfile_of_clear taken authority named clear, exec_clearProfile_of_named again authority named,
        clearSlot_setExchange]
      exact congrArg _ (State.setExchange_setExchange _ r _ _).symm
  · rintro clear rfl
    rw [exec_editProfile_of_clear taken authority (p := 0) (slotOf_eq_some rfl) clear, clearSlot_of_zero]
  · cases named : slotOf slot with
    | none => exact exec_editProfile_of_outOfRange taken authority named
    | some p =>
      rw [exec_editProfile_of_edit taken authority named edit, editSlot_of_illFormed (editOf_eq_none_iff.mpr bad)]
  intro r slot image p e s taken authority named edit read pin
  rw [exec_editProfile_of_edit taken authority (slotOf_eq_some named) edit]
  refine ⟨fun adult noPin => ?_, fun seats => ?_, fun hasPin seats => ?_⟩
  · rw [editSlot_of_adultWithoutPin read adult noPin]
  · rw [editSlot_of_seats read seats]
  · obtain ⟨table, maps, household, failures, lockouts, windows⟩ := s.profiles.edited_spec p e
    refine ⟨s.profiles.edited p e, ?_, table, maps, household, fun keep => ?_,
      fun changed => ?_, windows⟩
    · rw [editSlot_accepted read hasPin seats, State.profileEdited_eq]
    · rw [failures, lockouts, if_pos keep, if_pos keep]
      exact ⟨rfl, rfl⟩
    · rw [failures, lockouts, if_neg changed, if_neg changed]
      exact ⟨rfl, rfl⟩

/-- Settles O12: the four cases of a clear. -/
theorem clearProfileEmptiesTheSlot : Obligations.ClearProfileEmptiesTheSlot := by
  intro r slot p s taken authority named
  rw [exec_clearProfile_of_named taken authority (slotOf_eq_some named)]
  refine ⟨?_, fun other empty => ?_, fun other kept seated => ?_, fun other kept free => ?_⟩
  · rintro rfl
    rw [clearSlot_of_zero]
  · rw [clearSlot_of_empty other empty]
  · rw [clearSlot_of_seated other kept (State.seated_iff.mpr seated)]
  · have unseated : s.seated p = false :=
      Bool.eq_false_iff.mpr fun seated => (State.seated_iff.mp seated).elim fun n held => free n held
    refine ⟨s.profiles.emptied p, ?_, rfl, rfl, rfl, rfl, rfl, fun q => ProfileUnit.closeOpenedBy_window _ p q⟩
    rw [clearSlot_accepted other kept unseated, State.emptySlot_eq]


/-! ### Maps and the household (R23, R24) -/

/-- A list of 32 entries written over a map replaces it. -/
theorem mapOf_get (old : SchemeMap) (es : List (Option (Fin 16))) (i : Fin 32) : (mapOf old es)[i] = es.getD i.val old[i] := by
  have cell := foldPut_get (fun (i : Fin 32) (x : Option (Fin 16)) => es.getD i.val x) (List.finRange 32)
    (List.nodup_finRange 32) old i
  rw [if_pos (List.mem_finRange i)] at cell
  exact cell

theorem toList_mapOf (old : SchemeMap) {es : List (Option (Fin 16))} (whole : es.length = 32) :
    (mapOf old es).toList = es := by
  refine List.ext_getElem (by simp [whole]) fun i inMap inList => ?_
  have small : i < 32 := by simpa using inMap
  have cell := mapOf_get old es ⟨i, small⟩
  rw [List.getD_eq_getElem _ _ inList] at cell
  rw [Vector.getElem_toList]
  exact cell

section Replace

variable {r : Role} {s : State} {scheme : Byte} {entries : List Byte} {a l : Half}

theorem exec_setSchemeMap (r : Role) (scheme : Byte) (entries : List Byte) (s : State) :
    exec (.setSchemeMap r scheme entries) s = execSetSchemeMap r scheme entries s := rfl

theorem exec_setSchemeMap_of_wellFormed (taken : s.handed r (.setSchemeMap r scheme entries) = true)
    (authority : s.authority r ≠ none) {n : Fin 4} (named : screenOf scheme = some n) {es : List (Option (Fin 16))}
    (read : mapEntriesOf entries = some es) :
    exec (.setSchemeMap r scheme entries) s = .next ((s.replaceMap n es).place r (.ok [])) := by
  rw [exec_setSchemeMap, execSetSchemeMap, onRequest_authorised taken authority (result := (s.replaceMap n es, .ok []))]
  intro opener
  simp only [named, read]

theorem exec_setSchemeMap_of_illFormed (taken : s.handed r (.setSchemeMap r scheme entries) = true)
    (authority : s.authority r ≠ none) (bad : screenOf scheme = none ∨ mapEntriesOf entries = none) :
    exec (.setSchemeMap r scheme entries) s = .next (s.place r (.bare .badValue)) := by
  rw [exec_setSchemeMap, execSetSchemeMap, onRequest_authorised taken authority (result := (s, .bare .badValue))]
  intro opener
  split
  next named read => simp [named, read] at bad
  next => rfl

theorem State.replaceMap_eq (s : State) (n : Fin 4) (es : List (Option (Fin 16))) :
    s.replaceMap n es = (s.withProfiles { s.profiles with
        maps := put s.profiles.maps n (mapOf s.profiles.maps[n] es) }).sendAll
      [.profileChangedMetering .all, .profileChanged .all, .dirtyMark .profile false,
        .notice .profile .authority .every 0] := by
  simp [State.replaceMap, State.send_eq, State.markDirty_eq, State.raise_eq]

theorem exec_setHousehold (r : Role) (a l : Half) (s : State) :
    exec (.setHousehold r a l) s = execSetHousehold r a l s := rfl

end Replace

/-- Settles O13: the requests by what they do with operands in and out of range. -/
theorem mapsAndHouseholdAreReplacedWhole : Obligations.MapsAndHouseholdAreReplacedWhole := by
  refine ⟨?_, ?_, fun r a l s taken authority => ⟨fun inRange => ?_, fun outOfRange => ?_⟩⟩
  · intro r scheme entries n es s taken authority named whole read
    refine ⟨mapOf s.profiles.maps[n] es, ?_, toList_mapOf _ ?_⟩
    · rw [exec_setSchemeMap_of_wellFormed taken authority (screenOf_eq_some named) read, State.replaceMap_eq]
    · rw [mapEntriesOf_eq] at read
      exact (length_of_mapM read).trans whole
  · intro r scheme entries s taken authority bad
    exact exec_setSchemeMap_of_illFormed taken authority (bad.imp_left screenOf_eq_none)
  · rw [exec_setHousehold, execSetHousehold, onRequest_authorised taken authority fun _ => if_pos inRange]
    simp [State.markDirty_eq, State.raise_eq]
  · rw [exec_setHousehold, execSetHousehold, onRequest_authorised taken authority fun _ => if_neg outOfRange]
    rfl

/-! ### Lockouts and windows end (R10, R13, R14, R22) -/

theorem onOccasion_due {c : Bool} (due : c = true) (s : State) (act : State → State) :
    onOccasion c s act = .next (act s) := by
  rw [onOccasion, if_pos due]

theorem exec_lockoutExpiry (p : Slot) (s : State) : exec (.lockoutExpiry p) s = execLockoutExpiry p s := rfl

theorem exec_windowExpiry (r : Role) (s : State) : exec (.windowExpiry r) s = execWindowExpiry r s := rfl

theorem exec_standbyEntryReport (s : State) : exec .standbyEntryReport s = execStandbyEntryReport s := rfl

theorem exec_endAuthority (r : Role) (s : State) : exec (.endAuthority r) s = execEndAuthority r s := rfl

theorem exec_readAuthority (r : Role) (s : State) : exec (.readAuthority r) s = execReadAuthority r s := rfl

theorem State.closeWindow_of_open {s : State} {r : Role} (opened : s.profiles.windows.get r ≠ none) :
    s.closeWindow r = (s.withProfiles { s.profiles with windows := s.profiles.windows.set r none }).sendAll
      [.notice .profile .authority .every 0] := by
  rw [State.closeWindow, State.raiseIf_eq, if_pos (Option.isSome_iff_ne_none.mpr opened)]

theorem PerRole.set_get {α : Type} (v : PerRole α) (r : Role) : v.set r (v.get r) = v := by cases r <;> rfl

theorem State.closeWindow_of_closed {s : State} {r : Role} (closed : s.profiles.windows.get r = none) :
    s.closeWindow r = s := by
  have same : s.profiles.windows.set r none = s.profiles.windows := by rw [← closed, PerRole.set_get]
  rw [State.closeWindow, same, State.raiseIf_eq, closed]
  exact State.sendAll_nil s

/-- Settles O14: each expiry, the standby entry, the two requests. -/
theorem lockoutsAndWindowsEnd : Obligations.LockoutsAndWindowsEnd := by
  refine ⟨fun p s due => ?_, fun r w s held zero => ?_, fun rest s taken => ?_, fun r s =>
    ⟨fun taken => ⟨fun closed => ?_, fun opened => ?_⟩, fun taken => ⟨fun closed => ?_, fun w held => ?_⟩⟩⟩
  · rw [exec_lockoutExpiry, execLockoutExpiry, onOccasion_due (by simp [due]), State.raise_eq]
    rfl
  · rw [exec_windowExpiry, execWindowExpiry, onOccasion_due (by simp [held, zero]),
      State.closeWindow_of_open (by simp [held])]
  · rw [exec_standbyEntryReport, execStandbyEntryReport, onMessage_taken taken, State.raiseIf_eq]
    rfl
  · rw [exec_endAuthority, execEndAuthority, onRequest_handed taken, State.closeWindow_of_closed closed]
  · rw [exec_endAuthority, execEndAuthority, onRequest_handed taken, State.closeWindow_of_open opened]
  · rw [exec_readAuthority, execReadAuthority, onRequest_handed taken, reading, closed]
    rfl
  · rw [exec_readAuthority, execReadAuthority, onRequest_handed taken, reading, held]
    rfl

/-! ### The authority check (R15) -/

section Authority

variable {r : Role} {s : State}

theorem State.authority_of_window {w : Window} (held : s.profiles.windows.get r = some w) :
    s.authority r = some (some w.opener) := by
  rw [State.authority, held]

theorem ProfileUnit.noAdult_iff (u : ProfileUnit) : u.noAdult = true ↔ ∀ p : Slot, isAdult u.table[p] = false := by
  simp [ProfileUnit.noAdult]

theorem State.authority_of_noAdult (closed : s.profiles.windows.get r = none) (noAdult : s.profiles.noAdult = true) :
    s.authority r = some none := by
  simp only [State.authority, closed, noAdult, if_true]

theorem State.authority_of_adult (closed : s.profiles.windows.get r = none) (adult : s.profiles.noAdult = false) :
    s.authority r = none := by
  simp only [State.authority, closed, adult, Bool.false_eq_true, if_false]

end Authority

theorem exec_factoryClear (r : Role) (s : State) : exec (.factoryClear r) s = execFactoryClear r s := rfl

theorem exec_factoryClear_unauthorised {r : Role} {s : State} (taken : s.handed r (.factoryClear r) = true)
    (authority : s.authority r = none) : exec (.factoryClear r) s = .next (s.place r (.bare .noAuthority)) := by
  simp only [exec_factoryClear, execFactoryClear, onResetRequest, taken, if_true, authority]

theorem exec_setClock (r : Role) (time : RawTime) (weekday : Byte) (s : State) :
    exec (.setClock r time weekday) s = execSetClock r time weekday s := rfl

/-- Settles O8: the check by the window and the table, each protected request by its refusal. -/
theorem protectedRequestsNeedAuthority : Obligations.ProtectedRequestsNeedAuthority := by
  refine ⟨fun r s => ⟨fun w => State.authority_of_window, fun closed none => ?_, fun closed some => ?_⟩, ?_, ?_⟩
  · exact State.authority_of_noAdult closed (s.profiles.noAdult_iff.mpr none)
  · obtain ⟨p, adult⟩ := some
    refine State.authority_of_adult closed (Bool.eq_false_iff.mpr fun none => ?_)
    rw [s.profiles.noAdult_iff.mp none p] at adult
    cases adult
  · intro r slot minutes scheme kind target id e entries kinds authority lockout endTime s i protectedOnes taken absent
    simp only [List.mem_cons, List.not_mem_nil, or_false] at protectedOnes
    rcases protectedOnes with rfl | rfl | rfl | rfl | rfl | rfl | rfl | rfl | rfl | rfl
    case inr.inr.inr.inr.inr.inr.inr.inr.inr => exact exec_factoryClear_unauthorised taken absent
    all_goals
      unfold exec
      exact onRequest_unauthorised taken absent _
  · intro r time weekday s taken absent running far
    have jump : setIsProtected s.metering time.day.toNat time.second.toNat = true := by
      rw [setIsProtected, running, Bool.true_and, decide_eq_true_eq]
      omega
    rw [exec_setClock, execSetClock, onRequest_handed taken, if_pos jump, underAuthority_refuses absent]

/-! ### What every step keeps of the Profile Unit (R2, R8) -/

/-- R2, R8, of the unit by itself. -/
def ProfileUnit.sound (u : ProfileUnit) : Prop :=
  tableValid u.table = true ∧ ∀ p : Slot, u.failures[p] ≤ 5 ∧ (u.lockouts[p].isSome = true ↔ u.failures[p] = 5)

def State.profilesSound (s : State) : Prop := s.profiles.sound

theorem State.profilesSound_iff (s : State) : s.profilesSound ↔ s.tableSound ∧ s.lockoutsSound := Iff.rfl

theorem tableValid_iff {table : Vector Profile 8} :
    tableValid table = true ↔ (∀ p : Slot, profileValid table[p] = true) ∧ table[(0 : Slot)] ≠ .empty := by
  rw [tableValid, Bool.and_eq_true, bne_iff_ne, Vector.all_eq_true]
  exact and_congr_left fun _ => ⟨fun all p => all p.val p.isLt, fun all i inside => all ⟨i, inside⟩⟩

theorem tableValid_put {table : Vector Profile 8} (valid : tableValid table = true) {p : Slot} {q : Profile}
    (record : profileValid q = true) (first : p = 0 → q ≠ .empty) : tableValid (put table p q) = true := by
  obtain ⟨all, owner⟩ := tableValid_iff.mp valid
  refine tableValid_iff.mpr ⟨fun i => ?_, ?_⟩
  · rw [put_get]
    split
    · exact record
    · exact all i
  · rw [put_get]
    split
    next same => exact first same
    next => exact owner

/-! ### The record that an edit writes is valid -/

theorem labelOf_valid {l k : List Byte} (read : labelOf l = some k) :
    k.length ≤ l.length ∧ k.all (fun b => decide (0x20 ≤ b.toNat ∧ b.toNat ≤ 0x7E)) = true := by
  induction l generalizing k with
  | nil => cases read; exact ⟨Nat.le_refl _, rfl⟩
  | cons b l ih =>
    unfold labelOf at read
    split at read
    next =>
      split at read
      · cases read; exact ⟨Nat.zero_le _, rfl⟩
      · cases read
    next =>
      split at read
      next printable =>
        obtain ⟨m, rest, rfl⟩ := Option.map_eq_some_iff.mp read
        obtain ⟨length, all⟩ := ih rest
        refine ⟨Nat.succ_le_succ length, ?_⟩
        rw [List.all_cons, all, Bool.and_true]
        simpa using printable
      · cases read

theorem pinOf_valid {p : RawPin} {ds : List (Fin 10)} (read : pinOf p = some ds) : pinValid (some ds) = true := by
  unfold pinOf at read
  split at read
  next inside =>
    rw [digitsOf_eq] at read
    have length := length_of_mapM read
    rw [List.length_take] at length
    have halves : (pinHalves p).length = 6 := rfl
    simp only [pinValid, Option.all_some, decide_eq_true_eq]
    omega
  next => cases read

theorem windowOf_valid {w : RawWindow} {x : CurfewWindow} (read : windowOf w = some x) : windowValid x = true := by
  unfold windowOf at read
  split at read
  next good =>
    obtain ⟨start, stop, differ⟩ := good
    obtain ⟨a, -, rfl⟩ := Option.map_eq_some_iff.mp read
    simp only [windowValid, decide_eq_true_eq]
    exact ⟨start, stop, fun same => differ (BitVec.eq_of_toNat_eq same)⟩
  next => cases read

theorem childPartOf_valid {g : EditImage} {k : ChildPart} (read : childPartOf g = some k) : childValid k = true := by
  unfold childPartOf at read
  split at read
  next good =>
    obtain ⟨school, free, cap, -, lead, grace, count⟩ := good
    obtain ⟨ws, windows, rfl⟩ := Option.map_eq_some_iff.mp read
    rw [windowsOf_eq] at windows
    have length := length_of_mapM windows
    rw [List.length_take] at length
    rw [childValid, Bool.and_eq_true, decide_eq_true_eq]
    refine ⟨⟨school, free, cap, lead, grace, by simp only; omega⟩, ?_⟩
    rw [List.all_eq_true]
    intro x member
    obtain ⟨w, -, from_w⟩ := forall_of_mapM windows member
    exact windowOf_valid from_w
  next => cases read

theorem commonPartOf_valid {g : EditImage} {c : CommonPart} (read : commonPartOf g = some c)
    {pin : Option (List (Fin 10))} (hPin : pinValid pin = true) : commonValid { c with pin := pin } = true := by
  unfold commonPartOf at read
  split at read
  next l _ _ _ label _ _ _ =>
    split at read
    next seats =>
      cases read
      obtain ⟨length, all⟩ := labelOf_valid label
      have short : l.length ≤ 12 := length.trans (List.length_take_le 12 g.label)
      simp only [commonValid, labelValid, hPin, all, short, seats, decide_true, Bool.and_self, and_self]
    next => cases read
  next => cases read

theorem pinChoiceOf_fresh {p : RawPin} {ds : List (Fin 10)} (read : pinChoiceOf p = some (.fresh ds)) :
    pinValid (some ds) = true := by
  unfold pinChoiceOf at read
  split at read
  · cases read
  · split at read
    · cases read
    · obtain ⟨m, digits, same⟩ := Option.map_eq_some_iff.mp read
      cases same
      exact pinOf_valid digits

theorem pinHeld_valid {q : Profile} (valid : profileValid q = true) : pinValid (pinHeld q) = true := by
  cases q with
  | empty => rfl
  | child c k =>
    obtain ⟨common, -⟩ := Bool.and_eq_true_iff.mp valid
    exact (Bool.and_eq_true_iff.mp (Bool.and_eq_true_iff.mp common).1).2
  | adult c =>
    obtain ⟨common, -⟩ := Bool.and_eq_true_iff.mp valid
    exact (Bool.and_eq_true_iff.mp (Bool.and_eq_true_iff.mp common).1).2

/-- R18: the record of an accepted edit is valid, and not EMPTY. -/
theorem profileWritten_valid {g : EditImage} {e : Edit} (read : editOf g = some e) {old : Profile}
    (valid : profileValid old = true) (hasPin : e.child = none → pinResulting e.choice old ≠ none) :
    profileValid (profileWritten e (pinResulting e.choice old)) = true ∧
    profileWritten e (pinResulting e.choice old) ≠ .empty := by
  have parts : commonPartOf g = some e.common ∧ pinChoiceOf g.pin = some e.choice ∧
      ∀ k, e.child = some k → childPartOf g = some k := by
    unfold editOf at read
    split at read
    next common choice =>
      split at read
      next =>
        obtain ⟨k, child, rfl⟩ := Option.map_eq_some_iff.mp read
        exact ⟨common, choice, fun _ same => child.trans same⟩
      next =>
        split at read
        · cases read
          exact ⟨common, choice, fun _ none => by cases none⟩
        · cases read
    next => cases read
  obtain ⟨common, choice, child⟩ := parts
  have pin : pinValid (pinResulting e.choice old) = true := by
    cases chosen : e.choice with
    | keep => exact pinHeld_valid valid
    | remove => rfl
    | fresh ds => exact pinChoiceOf_fresh (choice.trans (congrArg some chosen))
  unfold profileWritten
  split
  next k held =>
    refine ⟨?_, Profile.noConfusion⟩
    rw [profileValid, commonPartOf_valid common pin, childPartOf_valid (child k held)]
    rfl
  next adult =>
    refine ⟨?_, Profile.noConfusion⟩
    rw [profileValid, commonPartOf_valid common pin, Bool.true_and]
    exact Option.isSome_iff_ne_none.mpr (hasPin adult)

section Kept

variable {u : ProfileUnit}

/-- An update that keeps the table and the two vectors of R8. -/
theorem ProfileUnit.sound_congr {v : ProfileUnit} (sound : u.sound) (table : v.table = u.table)
    (failures : v.failures = u.failures) (lockouts : v.lockouts = u.lockouts) : v.sound := by
  obtain ⟨valid, each⟩ := sound
  exact ⟨by rwa [table], by rwa [failures, lockouts]⟩

/-- R8 for one slot's counter and timer replaced. -/
theorem ProfileUnit.sound_put (sound : u.sound) (p : Slot) {n : Nat} {t : Option Nat} (small : n ≤ 5)
    (locks : t.isSome = true ↔ n = 5) :
    ({ u with failures := put u.failures p n, lockouts := put u.lockouts p t } : ProfileUnit).sound := by
  obtain ⟨valid, each⟩ := sound
  refine ⟨valid, fun q => ?_⟩
  by_cases same : p = q
  · subst same
    simpa using ⟨small, locks⟩
  · simpa [put_other _ _ same] using each q

theorem ProfileUnit.release_sound (sound : u.sound) (p : Slot) : (u.release p).sound :=
  ProfileUnit.sound_put sound p (Nat.zero_le 5) (by simp)

theorem ProfileUnit.closeOpenedBy_sound (sound : u.sound) (p : Slot) : (u.closeOpenedBy p).sound := sound

theorem ProfileUnit.pinCheck_sound (sound : u.sound) (p : Slot) (pin : Option (List (Fin 10))) :
    (u.pinCheck p pin).1.sound := by
  unfold ProfileUnit.pinCheck
  split
  next => exact sound
  next free =>
    have unlocked : u.lockouts[p] = none := by simpa using free
    split
    next => exact sound
    next =>
      split_ifs with right early
      · have kept := ProfileUnit.sound_put sound p (n := 0) (t := u.lockouts[p]) (Nat.zero_le 5) (by simp [unlocked])
        rwa [put_get_self] at kept
      · have kept := ProfileUnit.sound_put sound p (n := u.failures[p] + 1) (t := u.lockouts[p]) early.le
          (by rw [unlocked]; exact iff_of_false Bool.false_ne_true (Nat.ne_of_lt early))
        rwa [put_get_self] at kept
      · exact ProfileUnit.sound_put sound p (Nat.le_refl 5) (by simp)

theorem ProfileUnit.timersFall_sound (sound : u.sound) : u.timersFall.sound := by
  obtain ⟨valid, each⟩ := sound
  refine ⟨valid, fun p => ?_⟩
  have cell := foldPut_get (fun (_ : Slot) (t : Option Nat) => timerFalls t) slots slots_nodup u.lockouts p
  rw [if_pos (mem_slots p)] at cell
  have fallen : u.timersFall.lockouts[p] = timerFalls u.lockouts[p] := cell
  rw [fallen, timerFalls, Option.isSome_map]
  exact each p

theorem ProfileUnit.loadBegins_sound (sound : u.sound) : u.loadBegins.sound := by
  refine ⟨sound.1, fun p => ?_⟩
  simp [ProfileUnit.loadBegins]

theorem ProfileUnit.emptied_sound (sound : u.sound) {p : Slot} (other : p ≠ 0) : (u.emptied p).sound := by
  have table : tableValid (put u.table p .empty) = true := tableValid_put sound.1 rfl fun first => absurd first other
  have kept : ({ u with table := put u.table p .empty } : ProfileUnit).sound := ⟨table, sound.2⟩
  exact ProfileUnit.closeOpenedBy_sound (ProfileUnit.release_sound kept p) p

theorem ProfileUnit.edited_sound (sound : u.sound) {p : Slot} {g : EditImage} {e : Edit} (read : editOf g = some e)
    (hasPin : e.child = none → pinResulting e.choice u.table[p] ≠ none) : (u.edited p e).sound := by
  obtain ⟨valid, filled⟩ := profileWritten_valid read ((tableValid_iff.mp sound.1).1 p) hasPin
  have written : ({ u with table := put u.table p (profileWritten e (pinResulting e.choice u.table[p])) } :
      ProfileUnit).sound := ⟨tableValid_put sound.1 valid fun _ => filled, sound.2⟩
  unfold ProfileUnit.edited
  dsimp only
  split_ifs
  · exact ProfileUnit.closeOpenedBy_sound written p
  · exact ProfileUnit.closeOpenedBy_sound (ProfileUnit.release_sound written p) p
  · exact written
  · exact ProfileUnit.release_sound written p

end Kept

section Acts

variable {s : State}

theorem editSlot_profilesSound (sound : s.profilesSound) (p : Slot) (image : EditImage) :
    (editSlot p image s).1.profilesSound := by
  unfold editSlot
  split
  · exact sound
  next e read =>
    split_ifs with missing
    · exact sound
    · exact sound
    · exact ProfileUnit.edited_sound sound read fun adult none => missing ⟨adult, none⟩

theorem clearSlot_profilesSound (sound : s.profilesSound) (p : Slot) : (clearSlot p s).1.profilesSound := by
  unfold clearSlot
  split_ifs with zero
  · exact sound
  · exact sound
  · exact sound
  · exact ProfileUnit.emptied_sound sound zero

theorem State.pinCheck_profilesSound (sound : s.profilesSound) (p : Slot) (pin : Option (List (Fin 10))) :
    (s.pinCheck p pin).1.profilesSound := by
  rw [State.pinCheck, State.raiseIf_eq]
  exact ProfileUnit.pinCheck_sound sound p pin

theorem verified_profilesSound {r : Role} {p : Slot} {c : State × PinOutcome} (sound : c.1.profilesSound) :
    (verified r p c).1.profilesSound := by
  unfold verified
  split
  · exact sound
  · exact sound
  · split
    · exact sound
    · exact sound

theorem State.closeWindow_profilesSound (sound : s.profilesSound) (r : Role) : (s.closeWindow r).profilesSound := by
  rw [State.closeWindow, State.raiseIf_eq]
  exact sound

theorem seatProfile_profilesSound (sound : s.profilesSound) (n : ScreenNo) (p : Slot) (pin : Option (List (Fin 10))) :
    (seatProfile n p pin s).1.profilesSound := by
  have reseats : ∀ t : State, t.profilesSound → (seatChecked n p t).1.profilesSound := by
    intro t sound
    have kept : (seatChecked n p t).1.profiles = t.profiles :=
      (seatChecked_changesOnly (bs := [.screen]) (s := t) (by simp) n p).2 .profile (by simp)
    rwa [State.profilesSound, kept]
  have checks := State.pinCheck_profilesSound sound p pin
  unfold seatProfile refuse
  split_ifs
  · exact sound
  · exact sound
  · exact reseats s sound
  · split
    next checked => rw [checked] at checks; exact reseats _ checks
    next checked => rw [checked] at checks; exact checks
    next checked => rw [checked] at checks; exact checks

theorem judged_valid (i : Option Image) : contentValid (judged i).1 = true := by
  cases i with
  | none => exact contentValid_factory (Nat.zero_lt_succ _)
  | some i =>
    unfold judged
    dsimp only
    split
    next valid => exact (Bool.and_eq_true_iff.mp valid).2
    next => exact contentValid_factory (Nat.zero_lt_succ _)

theorem tableValid_of_contentValid {c : Content} (valid : contentValid c = true) : tableValid c.table = true :=
  (Bool.and_eq_true_iff.mp (Bool.and_eq_true_iff.mp (Bool.and_eq_true_iff.mp valid).1).1).2

theorem State.loadEnds_profiles (s : State) (c : Content) (lost : Bool) (pins : BitVec 4) :
    (s.loadEnds c lost pins).profiles = s.profiles.loaded c := by
  rw [State.loadEnds, State.raiseIf_eq]
  rfl

theorem State.readsImage_profiles (s : State) : s.readsImage.profiles = s.profiles := by
  unfold State.readsImage
  split <;> rfl

end Acts

/-- R36, R28: a SECOND_TICK uses up a tick that is due, or lets a reference second pass, and may take the tick. -/
theorem secondTick_keeps {P : State → Prop} {s t : State} (ref : ∀ x, P (s.withRef x)) (second : P s.referenceSecond)
    (tick : ∀ u : State, P u → P u.takeTick) (holds : P s) (next : execSecondTick s = .next t) : P t := by
  refine occasion_keeps holds (fun _ => ?_) next
  dsimp only
  split_ifs
  · exact tick _ (ref _)
  · exact tick _ second
  · exact second

theorem State.profilesSound_place (s : State) (r : Role) (a : Answer) (sound : s.profilesSound) :
    (s.place r a).profilesSound := sound

theorem exec_keeps_profilesSound {c : Instr} {s t : State} (own : changedBlocks c = [.profile]) (sound : s.profilesSound)
    (next : exec c s = .next t) : t.profilesSound := by
  cases c <;> simp [changedBlocks, everyBlock] at own <;> unfold exec at next
  case editProfile r slot image =>
    refine request_keeps (State.profilesSound_place · r) sound ?_ next
    refine underAuthority_keeps (P := State.profilesSound) sound fun _ => ?_
    split
    · exact sound
    · split
      · exact clearSlot_profilesSound sound _
      · exact editSlot_profilesSound sound _ _
  case clearProfile r slot =>
    refine request_keeps (State.profilesSound_place · r) sound ?_ next
    refine underAuthority_keeps (P := State.profilesSound) sound fun _ => ?_
    split
    · exact sound
    · exact clearSlot_profilesSound sound _
  case verifyPin r slot pin =>
    refine request_keeps (State.profilesSound_place · r) sound ?_ next
    split
    · split_ifs
      · exact sound
      · exact sound
      · exact verified_profilesSound (State.pinCheck_profilesSound sound _ _)
    · exact sound
  case endAuthority r =>
    refine request_keeps (State.profilesSound_place · r) sound ?_ next
    exact State.closeWindow_profilesSound sound r
  case setSchemeMap r scheme entries =>
    refine request_keeps (State.profilesSound_place · r) sound ?_ next
    refine underAuthority_keeps (P := State.profilesSound) sound fun _ => ?_
    split
    · rw [State.replaceMap_eq]
      exact sound
    · exact sound
  case setHousehold r authority lockout =>
    refine request_keeps (State.profilesSound_place · r) sound ?_ next
    refine underAuthority_keeps (P := State.profilesSound) sound fun _ => ?_
    split
    · exact sound
    · exact sound
  case lockoutExpiry p =>
    refine occasion_keeps sound (fun _ => ?_) next
    exact ProfileUnit.release_sound sound p
  case windowExpiry r =>
    refine occasion_keeps sound (fun _ => ?_) next
    exact State.closeWindow_profilesSound sound r
  case standbyEntryReport =>
    refine message_keeps (fun _ => sound) sound (fun u h => ?_) next
    rw [State.raiseIf_eq]
    exact h

/-- What a step keeps of the Profile Unit. -/
theorem step_keeps_profilesSound {s t : State} (sound : s.profilesSound) (stepped : step s = .next t) :
    t.profilesSound := by
  refine step_keeps (bs := [.profile]) ?_ ?_ ?_ sound stepped
  · intro s t same sound
    have kept : t.profiles = s.profiles := same .profile (by simp)
    rwa [State.profilesSound, kept]
  · intro s sound
    unfold State.period
    split_ifs
    · exact sound
    · exact ProfileUnit.timersFall_sound sound
    · exact sound
  intro c s t touched sound next
  by_cases own : changedBlocks c = [.profile]
  · exact exec_keeps_profilesSound own sound next
  cases c <;> simp [changedBlocks, everyBlock] at touched own <;> unfold exec at next
  case seat r n slot pin =>
    refine request_keeps (State.profilesSound_place · r) sound ?_ next
    unfold onScreen
    split
    · exact sound
    · split_ifs
      · exact sound
      · split
        · exact seatProfile_profilesSound sound _ _ _
        · exact sound
      · exact sound
  case secondTick =>
    refine secondTick_keeps (fun _ => sound) (ProfileUnit.timersFall_sound sound) (fun u h => ?_) sound next
    have kept : u.takeTick.profiles = u.profiles :=
      (State.takeTick_changesOnly (bs := [.metering]) (s := u) (by simp)).2 .profile (by simp)
    rwa [State.profilesSound, kept]
  case loadEnd pins =>
    refine occasion_keeps sound (fun _ => ?_) next
    rw [State.profilesSound, State.loadEnds_profiles, State.readsImage_profiles]
    exact ⟨tableValid_of_contentValid (judged_valid _), sound.2⟩
  case loadBegin straps | resetNRelease straps =>
    refine occasion_keeps sound (fun _ => ?_) next
    exact ProfileUnit.loadBegins_sound sound
  case powerOn | resetNAssert | powerLoss => cases next; exact ProfileUnit.loadBegins_sound sound

/-- Settles O53. -/
theorem everyStepKeepsTheProfilesSound : Obligations.EveryStepKeepsTheProfilesSound := fun _ _ table lockouts stepped =>
  step_keeps_profilesSound ⟨table, lockouts⟩ stepped

end Sys2Proof.Machine
end

section
/-! PROOFS. What every step keeps of the port, the notices and the store (07 to 09). The theorem at its end settles O59. -/

namespace Sys2Proof.Machine

/-! ### The port's record (R143, R157, R160, R162) -/

/-- R157: each counter of a role is 0..255. -/
def PortCounts.sound (c : PortCounts) : Prop :=
  c.check ≤ 255 ∧ c.truncated ≤ 255 ∧ c.timeout ≤ 255 ∧ c.bus ≤ 255 ∧ c.overlong ≤ 255

namespace ManagementPort

variable {u : ManagementPort} {r : Role}

/-- A frame is assembled only while its role is being written to; a silent port has no transaction. -/
def framed (u : ManagementPort) : Prop :=
  (∀ r : Role, (u.frames.get r).isSome = true → u.bus = .write r) ∧ (u.silent = true → busRole u.bus = none)

def frameless (u : ManagementPort) : Prop := ∀ r : Role, u.frames.get r = none

def counted (u : ManagementPort) : Prop := ∀ r : Role, (u.counts.get r).sound

/-- A request is handed to its owner. -/
def hands (u : ManagementPort) (r : Role) (i : Instr) : Prop := u.exchanges.get r = .inFlight (some i)

theorem framed.frameless_of_idle (framed : u.framed) (idle : ∀ r : Role, u.bus ≠ .write r) : u.frameless := by
  intro r
  cases frame : u.frames.get r with
  | none => rfl
  | some f => exact absurd (framed.1 r (by rw [frame]; rfl)) (idle r)

theorem framed.frameless_setFrame (framed : u.framed) (writing : u.bus = .write r) : (u.setFrame r none).frameless := by
  intro q
  by_cases same : r = q
  · subst same
    exact PerRole.get_set_self _ _ _
  · refine (PerRole.get_set_other _ _ same).trans ?_
    cases frame : u.frames.get q with
    | none => rfl
    | some f =>
      have other := framed.1 q (by rw [frame]; rfl)
      rw [writing] at other
      cases other
      exact absurd rfl same

/-- R162: a transaction that is abandoned leaves no frame. -/
theorem framed.frameless_of_role (framed : u.framed) (role : busRole u.bus = some r) : (u.setFrame r none).frameless := by
  cases bus : u.bus with
  | write q =>
    rw [bus] at role
    cases role
    exact framed.frameless_setFrame bus
  | read q =>
    have empty := framed.frameless_of_idle (fun p => by rw [bus]; exact BusState.noConfusion)
    intro p
    by_cases same : r = p
    · subst same
      exact PerRole.get_set_self _ _ _
    · exact (PerRole.get_set_other _ _ same).trans (empty p)
  | free | address | ignore => rw [bus] at role; cases role

theorem frameless.framed (empty : u.frameless) (quiet : u.silent = true → busRole u.bus = none) : u.framed :=
  ⟨fun r held => by rw [empty r] at held; exact Bool.noConfusion held, quiet⟩

theorem abandon_framed (framed : u.framed) : u.abandon.framed ∧ busRole u.abandon.bus = none := by
  unfold abandon
  split
  next r role =>
    have empty : ((u.setFrame r none).goTo .ignore false).frameless := framed.frameless_of_role role
    exact ⟨empty.framed fun _ => rfl, rfl⟩
  next idle => exact ⟨framed, idle⟩

theorem abandon_spec (u : ManagementPort) : ∃ frames bus acked sending, u.abandon =
    { u with frames := frames, bus := bus, acked := acked, sending := sending } := by
  unfold abandon
  split
  · exact ⟨_, _, _, _, rfl⟩
  · exact ⟨u.frames, u.bus, u.acked, u.sending, rfl⟩

theorem fallSilent_framed (framed : u.framed) : u.fallSilent.framed :=
  ⟨(abandon_framed framed).1.1, fun _ => (abandon_framed framed).2⟩

theorem count_counted (counted : u.counted) (r : Role) {f : PortCounts → PortCounts} (sound : ∀ c, c.sound → (f c).sound) :
    (u.count r f).counted := by
  intro q
  by_cases same : r = q
  · subst same
    refine (congrArg PortCounts.sound (PerRole.get_set_self _ _ _)).mpr (sound _ (counted r))
  · exact (congrArg PortCounts.sound (PerRole.get_set_other _ _ same)).mpr (counted q)

end ManagementPort

theorem portCountUp_le (n : Nat) : portCountUp n ≤ 255 := Nat.min_le_right _ _

theorem addCheck_sound (c : PortCounts) (h : c.sound) : (addCheck c).sound := ⟨portCountUp_le _, h.2⟩

theorem addTruncated_sound (c : PortCounts) : c.sound → (addTruncated c).sound := fun ⟨h, _, rest⟩ =>
  ⟨h, portCountUp_le _, rest⟩

theorem addTimeout_sound (c : PortCounts) : c.sound → (addTimeout c).sound := fun ⟨h0, h1, _, rest⟩ =>
  ⟨h0, h1, portCountUp_le _, rest⟩

theorem addBus_sound (c : PortCounts) : c.sound → (addBus c).sound := fun ⟨h0, h1, h2, _, rest⟩ =>
  ⟨h0, h1, h2, portCountUp_le _, rest⟩

theorem addOverlong_sound (c : PortCounts) : c.sound → (addOverlong c).sound := fun ⟨h0, h1, h2, h3, _⟩ =>
  ⟨h0, h1, h2, h3, portCountUp_le _⟩

/-- The port's record is replaced by one that keeps what a port keeps, and messages are sent. -/
def State.portActs (s t : State) : Prop :=
  ∃ (v : ManagementPort) (ms : List Instr), t = (s.withPort v).sendAll ms ∧
    (s.port.framed → v.framed ∧
      (s.port.silent = true → v.silent = true ∧ ∀ r i, v.hands r i → s.port.hands r i)) ∧
    (s.port.counted → v.counted)

section PortActs

variable {s t : State} {r : Role} {f : Frame}

theorem State.portActs_refl (s : State) : s.portActs s :=
  ⟨s.port, [], (State.sendAll_nil s).symm, fun framed => ⟨framed, fun silent => ⟨silent, fun _ _ h => h⟩⟩, fun h => h⟩

/-- A transaction that is under way shows that the port is not silent. -/
theorem ManagementPort.framed.loud {u : ManagementPort} (framed : u.framed) (role : busRole u.bus = some r) :
    u.silent ≠ true := fun silent => by rw [framed.2 silent] at role; cases role

/-- R150, R157: a port event counts a fault besides. -/
theorem State.portActs_event (acts : s.portActs t) (r : Role) {f : PortCounts → PortCounts}
    (sound : ∀ c, c.sound → (f c).sound) : s.portActs (t.portEvent r f) := by
  obtain ⟨v, ms, rfl, framed, counted⟩ := acts
  refine ⟨v.count r f, ms ++ [.notice .port .port (.only r) 0], ?_, framed, fun h =>
    ManagementPort.count_counted (counted h) r sound⟩
  rw [State.portEvent, State.raisePort_eq, ← State.sendAll_sendAll]
  rfl

/-- The port moves to a bus state without a transaction, its frames discarded. -/
theorem State.portActs_of_frameless {v : ManagementPort} {b : BusState} {acked : Bool}
    (frameless : s.port.framed → v.frameless) (idle : busRole b = none) (silent : v.silent = s.port.silent)
    (exchanges : v.exchanges = s.port.exchanges) (counts : v.counts = s.port.counts) :
    s.portActs (s.withPort (v.goTo b acked)) := by
  refine ⟨v.goTo b acked, [], (State.sendAll_nil _).symm, fun framed => ⟨?_, fun quiet => ⟨?_, fun r i handed => ?_⟩⟩,
    fun counted r => ?_⟩
  · exact ManagementPort.frameless.framed (u := v.goTo b acked) (frameless framed) fun _ => idle
  · exact silent.trans quiet
  · have same : (v.goTo b acked).exchanges = s.port.exchanges := exchanges
    rwa [ManagementPort.hands, same] at handed
  · have same : (v.goTo b acked).counts = s.port.counts := counts
    rw [same]
    exact counted r

/-- R149: a START or STOP ends the transaction under way, whatever it counts. -/
theorem State.endTransaction_acts (s : State) (withinByte : Bool) {b : BusState} (idle : busRole b = none) :
    s.portActs ((s.endTransaction withinByte).onPort fun u => u.goTo b false) := by
  have event : ∀ (v : ManagementPort) (r : Role) (f : PortCounts → PortCounts), (∀ c, c.sound → (f c).sound) →
      s.portActs (s.withPort (v.goTo b false)) →
      s.portActs (((s.withPort v).portEvent r f).onPort fun u => u.goTo b false) :=
    fun v r f sound acts => State.portActs_event acts r sound
  unfold State.endTransaction
  split
  next r bus =>
    have emptied : s.portActs (s.withPort ((s.port.setFrame r none).goTo b false)) :=
      State.portActs_of_frameless (fun framed => framed.frameless_setFrame bus) idle rfl rfl rfl
    dsimp only
    split_ifs
    · exact event _ r addBus addBus_sound emptied
    · exact event _ r addTruncated addTruncated_sound emptied
    · exact emptied
  next r bus =>
    have left : s.portActs (s.withPort (s.port.goTo b false)) :=
      State.portActs_of_frameless (fun framed => framed.frameless_of_idle fun p => by rw [bus]; exact BusState.noConfusion)
        idle rfl rfl rfl
    split
    · exact event s.port r addBus addBus_sound left
    · exact left
  all_goals
    next bus =>
      exact State.portActs_of_frameless
        (fun framed => framed.frameless_of_idle fun p => by rw [bus]; exact BusState.noConfusion) idle rfl rfl rfl

theorem ManagementPort.awaiting_eq_some {u : ManagementPort} {p : Phase} (awaits : u.awaiting p = some (r, f)) :
    u.bus = .write r ∧ u.frames.get r = some f ∧ f.phase = p := by
  unfold ManagementPort.awaiting at awaits
  split at awaits
  next q bus =>
    split at awaits
    next g frame =>
      split at awaits
      next phase => cases awaits; exact ⟨bus, frame, phase⟩
      next => cases awaits
    next => cases awaits
  next => cases awaits

theorem State.notTheirs_acts (s : State) : s.portActs (s.onPort ManagementPort.notTheirs) := by
  unfold State.onPort ManagementPort.notTheirs
  split
  · exact ⟨_, [], (State.sendAll_nil _).symm, fun framed => ⟨framed, fun silent => ⟨silent, fun _ _ h => h⟩⟩, fun h => h⟩
  · exact s.portActs_refl

/-- A byte of a frame under way, whether the part keeps it or refuses it. -/
theorem State.keepFrame_acts (writing : s.port.bus = .write r) (g : Frame) : s.portActs (s.keepFrame r g) := by
  refine ⟨_, [], (State.sendAll_nil _).symm, fun framed => ⟨⟨fun q held => ?_, framed.2⟩, fun silent => ?_⟩, fun h => h⟩
  · by_cases same : r = q
    · rw [← same]
      exact writing
    · refine framed.1 q ?_
      rwa [← (PerRole.get_set_other s.port.frames (some g) same)]
  · exact absurd silent (framed.loud (r := r) (by rw [writing]; rfl))

theorem State.refuseFrame_acts (writing : s.port.bus = .write r) : s.portActs (s.refuseFrame r) :=
  State.portActs_of_frameless (fun framed => framed.frameless_setFrame writing) rfl rfl rfl rfl

/-- R147: the exchange of the role written to is set. -/
theorem State.portActs_setExchange (acts : s.portActs t) (role : busRole s.port.bus = some r) (e : Exchange) :
    s.portActs (t.setExchange r e) := by
  obtain ⟨v, ms, rfl, framed, counted⟩ := acts
  exact ⟨{ v with exchanges := v.exchanges.set r e }, ms, rfl,
    fun h => ⟨(framed h).1, fun silent => absurd silent (h.loud role)⟩, counted⟩

theorem frameByte_acts {p : Phase} {act : Role → Frame → State}
    (acted : ∀ r f, s.port.bus = .write r → s.portActs (act r f)) (next : onFrameByte p s act = .next t) :
    s.portActs t := by
  cases next
  split
  next r f awaits => exact acted r f (ManagementPort.awaiting_eq_some awaits).1
  next => exact s.notTheirs_acts

theorem ManagementPort.takeAddress_acts (s : State) (b : Byte) (addressed : s.port.bus = .address) :
    s.portActs (s.withPort (s.port.takeAddress b)) := by
  have empty : s.port.framed → s.port.frameless := fun framed => framed.frameless_of_idle fun p => by
    rw [addressed]
    exact BusState.noConfusion
  unfold ManagementPort.takeAddress
  split
  next => exact State.portActs_of_frameless empty rfl rfl rfl rfl
  next r named =>
    have loud : s.port.silent ≠ true := fun silent => by rw [silent, if_pos rfl] at named; cases named
    split
    next =>
      refine ⟨_, [], (State.sendAll_nil _).symm, fun framed => ⟨?_, fun silent => absurd silent loud⟩, fun h => h⟩
      exact ManagementPort.frameless.framed (u := s.port.goTo (.read r) true) (empty framed) fun silent =>
        absurd silent loud
    next =>
      refine ⟨_, [], (State.sendAll_nil _).symm, fun framed => ⟨⟨fun q held => ?_, fun silent => absurd silent loud⟩,
        fun silent => absurd silent loud⟩, fun h => h⟩
      by_cases same : r = q
      · rw [← same]
        rfl
      · have none : s.port.frames.get q = none := empty framed q
        have other : (s.port.frames.set r (some (.fresh b))).get q = s.port.frames.get q := PerRole.get_set_other _ _ same
        have held' : ((s.port.frames.set r (some (.fresh b))).get q).isSome = true := held
        rw [other, none] at held'
        cases held'

theorem ManagementPort.sendByte_spec (u : ManagementPort) (r : Role) (f : Sending) :
    ∃ sending sent exchanges, u.sendByte r f =
      { u with sending := sending, sent := sent, exchanges := exchanges } := by
  unfold ManagementPort.sendByte
  split
  · exact ⟨_, _, u.exchanges, rfl⟩
  · exact ⟨_, _, _, rfl⟩
  · exact ⟨_, _, u.exchanges, rfl⟩

theorem responseByte_acts (reading : s.port.bus = .read r) (masterAcks : Bool) (f : Sending) :
    s.portActs (s.withPort ((s.port.sendByte r f).afterByte masterAcks)) := by
  obtain ⟨sending, sent, exchanges, bytes⟩ := s.port.sendByte_spec r f
  have role : busRole s.port.bus = some r := by rw [reading]; rfl
  rw [bytes, ManagementPort.afterByte]
  split
  · exact ⟨_, [], (State.sendAll_nil _).symm, fun framed => ⟨framed, fun silent => absurd silent (framed.loud role)⟩,
      fun h => h⟩
  · refine ⟨_, [], (State.sendAll_nil _).symm, fun framed => ⟨?_, fun silent => absurd silent (framed.loud role)⟩,
      fun h => h⟩
    have empty : s.port.frameless := framed.frameless_of_idle fun p => by rw [reading]; exact BusState.noConfusion
    exact ManagementPort.frameless.framed (u := { s.port with
      sending := none, sent := sent, exchanges := exchanges, bus := .ignore, acked := false }) empty fun _ => rfl

theorem State.fallSilent_acts (s : State) : s.portActs (s.onPort ManagementPort.fallSilent) := by
  obtain ⟨frames, bus, acked, sending, abandoned⟩ := s.port.abandon_spec
  refine ⟨s.port.fallSilent, [], (State.sendAll_nil _).symm, fun framed =>
    ⟨ManagementPort.fallSilent_framed framed, fun _ => ⟨rfl, fun r i handed => ?_⟩⟩, fun counted r => ?_⟩
  · rw [ManagementPort.hands, ManagementPort.fallSilent, abandoned] at handed
    exact handed
  · rw [ManagementPort.fallSilent, abandoned]
    exact counted r

/-- A request whose exchange is set without a new hand-over. -/
theorem State.portActs_answer (acts : s.portActs t) (r : Role) {e : Exchange} (answer : ∀ i, e ≠ .inFlight (some i)) :
    s.portActs (t.setExchange r e) := by
  obtain ⟨v, ms, rfl, framed, counted⟩ := acts
  refine ⟨{ v with exchanges := v.exchanges.set r e }, ms, rfl, fun h => ⟨(framed h).1, fun silent => ?_⟩, counted⟩
  obtain ⟨quiet, hands⟩ := (framed h).2 silent
  refine ⟨quiet, fun q i handed => ?_⟩
  by_cases same : r = q
  · rw [ManagementPort.hands, ← same, PerRole.get_set_self] at handed
    exact absurd handed (answer i)
  · rw [ManagementPort.hands, PerRole.get_set_other _ _ same] at handed
    exact hands q i handed

/-- Every event of the bus, and each of the port's own requests, replaces the port's record. -/
theorem exec_portActs {c : Instr} (own : changedBlocks c = [.port]) (next : exec c s = .next t) : s.portActs t := by
  cases c <;> simp [changedBlocks, everyBlock] at own <;> unfold exec at next
  case startCondition within =>
    exact occasion_keeps s.portActs_refl (fun _ => s.endTransaction_acts within rfl) next
  case stopCondition within =>
    exact occasion_keeps s.portActs_refl (fun _ => s.endTransaction_acts within rfl) next
  case addressByte b =>
    refine occasion_keeps s.portActs_refl (fun _ => ?_) next
    by_cases addressed : s.port.bus = .address
    · simpa [State.onPort, addressed] using ManagementPort.takeAddress_acts s b addressed
    · simpa [State.onPort, addressed] using s.notTheirs_acts
  case codeByte b =>
    refine frameByte_acts (fun r f bus => ?_) next
    split
    · exact State.refuseFrame_acts bus
    · exact State.keepFrame_acts bus _
  case lengthByte b =>
    refine frameByte_acts (fun r f bus => ?_) next
    split
    · exact State.portActs_event (State.refuseFrame_acts bus) r addOverlong_sound
    · exact State.keepFrame_acts bus _
  case bodyByte b => exact frameByte_acts (fun r f bus => State.keepFrame_acts bus _) next
  case checkByte b =>
    refine frameByte_acts (fun r f bus => ?_) next
    split
    next =>
      have taken : s.portActs (s.withPort ((s.port.setFrame r none).goTo .ignore true)) :=
        State.portActs_of_frameless (fun framed => framed.frameless_setFrame bus) rfl rfl rfl rfl
      have role : busRole s.port.bus = some r := by rw [bus]; rfl
      unfold State.acceptFrame
      split
      · exact State.portActs_setExchange taken role _
      · exact State.portActs_setExchange taken role _
    next => exact State.portActs_event (State.refuseFrame_acts bus) r addCheck_sound
  case responseByteSent acks =>
    cases next
    split
    next r bus => exact responseByte_acts bus acks _
    all_goals exact s.portActs_refl
  case transactionTimeout =>
    cases next
    split
    next r role =>
      exact State.portActs_event (State.portActs_of_frameless (fun framed => framed.frameless_of_role role) rfl rfl rfl rfl)
        r addTimeout_sound
    next => exact s.portActs_refl
  case readPortCounts r =>
    refine request_keeps (fun u a acts => State.portActs_answer acts r fun i => Exchange.noConfusion) s.portActs_refl ?_ next
    refine ⟨s.port.count r fun _ => .zero, [], (State.sendAll_nil _).symm, fun framed =>
      ⟨framed, fun silent => ⟨silent, fun _ _ h => h⟩⟩, fun counted => ManagementPort.count_counted counted r fun _ _ => ?_⟩
    simp [PortCounts.sound, PortCounts.zero]
  case reset r =>
    cases next
    split
    · refine State.portActs_answer ?_ r fun i same => by cases same
      obtain ⟨v, ms, acted, rest⟩ := s.fallSilent_acts
      exact ⟨v, ms ++ [.softReset], by rw [← State.sendAll_sendAll, ← acted]; rfl, rest⟩
    · exact s.portActs_refl

end PortActs

/-! ### The port through every step -/

theorem ManagementPort.silenced_framed (base : Nat) : (ManagementPort.silenced base).framed :=
  ManagementPort.frameless.framed (fun r => PerRole.get_same none r) fun _ => rfl

theorem State.portSound_iff (s : State) : s.portSound ↔ s.port.framed ∧
    (s.store.state = .loading → s.port.silent = true ∧ ∀ r i, ¬ s.port.hands r i) := by
  constructor
  · rintro ⟨frames, silent, quiet, hands⟩
    exact ⟨⟨frames, silent⟩, fun loading => ⟨quiet loading, hands loading⟩⟩
  · rintro ⟨⟨frames, silent⟩, loads⟩
    exact ⟨frames, silent, fun loading => (loads loading).1, fun loading => (loads loading).2⟩

section PortSound

variable {s t : State}

/-- The port may change its exchanges without a new hand-over, and the store may leave LOADING. -/
theorem State.portSound_of_same (sound : s.portSound) (port : s.sameAt t .port)
    (store : t.store.state = .loading → s.store.state = .loading) : t.portSound := by
  obtain ⟨framed, loads⟩ := s.portSound_iff.mp sound
  obtain ⟨same, hands⟩ := port
  refine t.portSound_iff.mpr ⟨?_, fun loading => ?_⟩
  · rw [same]
    exact framed
  · obtain ⟨silent, none⟩ := loads (store loading)
    refine ⟨?_, fun r i handed => none r i (hands r i handed)⟩
    rw [same]
    exact silent

theorem State.portActs.portSound (acts : s.portActs t) (sound : s.portSound) : t.portSound := by
  obtain ⟨v, ms, rfl, framed, -⟩ := acts
  obtain ⟨frames, loads⟩ := s.portSound_iff.mp sound
  obtain ⟨framed', quiet⟩ := framed frames
  refine (State.portSound_iff _).mpr ⟨framed', fun loading => ?_⟩
  obtain ⟨silent, none⟩ := loads loading
  obtain ⟨silent', hands⟩ := quiet silent
  exact ⟨silent', fun r i handed => none r i (hands r i handed)⟩

/-! ### The store's acts and LOADING -/

theorem State.commitIfDirty_loading (s : State) :
    s.commitIfDirty.store.state = .loading → s.store.state = .loading := by
  unfold State.commitIfDirty
  split
  · intro writing; cases writing
  · exact id

theorem State.takeDirtyMark_loading (s : State) :
    s.takeDirtyMark.store.state = .loading → s.store.state = .loading := by
  unfold State.takeDirtyMark
  dsimp only
  split
  · exact id
  · split
    · exact id
    · exact State.commitIfDirty_loading _
    · exact id

theorem State.takeMark_loading (s : State) (rollover : Bool) :
    (s.takeMark rollover).store.state = .loading → s.store.state = .loading := by
  intro loading
  have before := State.takeDirtyMark_loading _ loading
  cases rollover <;> exact before

theorem State.afterWrite_loading (s : State) : s.afterWrite.store.state = .loading → s.store.state = .loading := by
  unfold State.afterWrite State.commitIfSettled
  split
  · split
    · exact State.commitIfDirty_loading s
    · exact id
  · exact State.commitIfDirty_loading s
  · intro writing; cases writing
  · exact id
  · exact id

theorem State.endAttempt_loading (s : State) (verified : Bool) :
    (s.endAttempt verified).store.state = .loading → s.store.state = .loading := by
  unfold State.endAttempt
  split_ifs
  · intro loading; exact absurd (State.afterWrite_loading _ loading) StoreState.noConfusion
  · exact id
  · intro loading; exact absurd (State.afterWrite_loading _ loading) StoreState.noConfusion

theorem State.takeSoftReset_loading (s : State) :
    s.takeSoftReset.store.state = .loading → s.store.state = .loading := by
  unfold State.takeSoftReset
  dsimp only
  split
  · intro writing; cases writing
  · exact State.commitIfDirty_loading _

theorem State.takeFactoryClear_loading (s : State) :
    s.takeFactoryClear.store.state = .loading → s.store.state = .loading := by
  unfold State.takeFactoryClear
  dsimp only
  intro loading
  have state : (if s.store.resting then
      { s.store with settle := none, rolloverUnsaved := false, underWay := .factoryClear s.metering.accountDay .writing }.beginWrite
        (sealed (factoryContent s.metering.accountDay))
      else { s.store with settle := none, rolloverUnsaved := false, underWay := .factoryClear s.metering.accountDay .waiting }
      ).state = .loading := loading
  split at state
  · cases state
  · exact state

/-- The store does not come to be LOADING. -/
def State.entersNoLoad (s t : State) : Prop := t.store.state = .loading → s.store.state = .loading

/-- No store command begins a load. -/
theorem exec_entersNoLoad {c : Instr} (own : changedBlocks c = [.store]) (next : exec c s = .next t) :
    s.entersNoLoad t := by
  cases c <;> simp [changedBlocks, everyBlock] at own <;> unfold exec at next
  case dirtyMark source rollover =>
    refine message_keeps (P := s.entersNoLoad) (fun _ => id) id (fun u h => ?_) next
    exact fun loading => h (State.takeMark_loading u rollover loading)
  case accountActivity =>
    refine message_keeps (P := s.entersNoLoad) (fun _ => id) id (fun u h => ?_) next
    have marked := fun (v : State) (same : v.store.state = u.store.state) (loading : v.takeDirtyMark.store.state = .loading) =>
      h (same.symm.trans (State.takeDirtyMark_loading v loading))
    split_ifs
    · exact marked u rfl
    · exact h
    · exact marked _ rfl
  case snapshotTimerExpiry =>
    refine occasion_keeps (P := s.entersNoLoad) id (fun _ => ?_) next
    split
    · exact State.takeDirtyMark_loading _
    · exact id
  case settleExpiry =>
    refine occasion_keeps (P := s.entersNoLoad) id (fun _ => ?_) next
    exact State.commitIfDirty_loading _
  case writeAttemptEnd verified =>
    refine occasion_keeps (P := s.entersNoLoad) id (fun _ => ?_) next
    exact s.endAttempt_loading verified
  case softReset =>
    refine message_keeps (P := s.entersNoLoad) (fun _ => id) id (fun u h => ?_) next
    exact fun loading => h (State.takeSoftReset_loading u loading)

/-- A FACTORY_CLEAR is not there, is refused, or is accepted. -/
theorem factoryClear_cases {r : Role} (next : exec (.factoryClear r) s = .next t) :
    t = s ∨ (∃ a, t = s.place r a) ∨ t = s.takeFactoryClear.setExchange r (.inFlight none) := by
  rw [exec_factoryClear, execFactoryClear, onResetRequest] at next
  cases next
  split
  · cases authority : s.authority r with
    | none => exact .inr (.inl ⟨.bare .noAuthority, by simp only [authority]⟩)
    | some opener => exact .inr (.inr (by simp only [authority]))
  · exact .inl rfl

theorem State.loadEnds_port (s : State) (c : Content) (lost : Bool) (pins : BitVec 4) :
    (s.loadEnds c lost pins).port = { s.port with silent := false, bus := .ignore } := by
  rw [State.loadEnds, State.raiseIf_eq]
  rfl

theorem State.loadEnds_store (s : State) (c : Content) (lost : Bool) (pins : BitVec 4) :
    (s.loadEnds c lost pins).store = s.store.loaded lost := by
  rw [State.loadEnds, State.raiseIf_eq]
  rfl

theorem State.readsImage_port (s : State) : s.readsImage.port = s.port := by
  unfold State.readsImage
  split <;> rfl

theorem exec_keeps_portSound {c : Instr} (own : changedBlocks c ≠ [.port]) (other : changedBlocks c ≠ [.store])
    (touched : .port ∈ changedBlocks c ∨ .store ∈ changedBlocks c) (sound : s.portSound) (next : exec c s = .next t) :
    t.portSound := by
  cases c <;> simp [changedBlocks, everyBlock] at own other touched
  case factoryClear r =>
    rcases factoryClear_cases next with rfl | ⟨a, rfl⟩ | rfl
    · exact sound
    · exact (State.portActs_answer s.portActs_refl r (e := .held a) fun _ same => by cases same).portSound sound
    · refine (State.portActs_answer (State.portActs_refl _) r (e := .inFlight none) fun _ same => by cases same).portSound ?_
      obtain ⟨framed, loads⟩ := (State.portSound_iff _).mp (s.fallSilent_acts.portSound sound)
      exact (State.portSound_iff _).mpr ⟨framed, fun loading => loads (State.takeFactoryClear_loading s loading)⟩
  case secondTick =>
    obtain ⟨u, next', -, blocks⟩ := exec_leadsTo .secondTick s
    cases next.symm.trans next'
    refine State.portSound_of_same sound (blocks .port (by simp [changedBlocks])) ?_
    unfold exec at next
    refine secondTick_keeps (P := s.entersNoLoad) (fun _ => id) id (fun u h => ?_) id next
    have kept : u.takeTick.store = u.store :=
      (State.takeTick_changesOnly (bs := [.metering]) (s := u) (by simp)).2 .store (by simp)
    rwa [State.entersNoLoad, kept]
  case loadEnd pins =>
    unfold exec at next
    refine occasion_keeps sound (fun due => ?_) next
    have loading : s.store.state = .loading := by simpa [State.loading] using (Bool.and_eq_true_iff.mp due).2
    obtain ⟨framed, loads⟩ := s.portSound_iff.mp sound
    have idle := framed.2 (loads loading).1
    refine (State.portSound_iff _).mpr ⟨?_, fun again => ?_⟩
    · rw [State.loadEnds_port, State.readsImage_port]
      refine ManagementPort.frameless.framed (u := { s.port with silent := false, bus := .ignore }) ?_ fun _ => rfl
      exact framed.frameless_of_idle fun r bus => by rw [bus] at idle; cases idle
    · rw [State.loadEnds_store] at again
      cases again
  case loadBegin straps | resetNRelease straps =>
    unfold exec at next
    refine occasion_keeps sound (fun _ => ?_) next
    exact (State.portSound_iff _).mpr ⟨ManagementPort.silenced_framed _, fun _ => ⟨rfl, fun r i handed => by
      cases r <;> cases handed⟩⟩
  case powerOn | resetNAssert | powerLoss =>
    unfold exec at next
    cases next
    exact (State.portSound_iff _).mpr ⟨ManagementPort.silenced_framed _, fun _ => ⟨rfl, fun r i handed => by
      cases r <;> cases handed⟩⟩

theorem step_keeps_portSound (sound : s.portSound) (stepped : step s = .next t) : t.portSound := by
  refine step_keeps (bs := [.port, .store]) ?_ ?_ ?_ sound stepped
  · intro s t same sound
    have store : t.store = s.store := same .store (by simp)
    exact State.portSound_of_same sound (same .port (by simp)) fun loading => by rwa [← store]
  · intro s sound
    refine State.portSound_of_same sound (s.period_changesOnly.2 .port (by simp)) ?_
    unfold State.period
    split_ifs
    · exact id
    · exact id
    · exact id
  intro c s t touched sound next
  by_cases own : changedBlocks c = [.port]
  · exact (exec_portActs own next).portSound sound
  by_cases other : changedBlocks c = [.store]
  · obtain ⟨u, next', -, blocks⟩ := exec_leadsTo c s
    cases next.symm.trans next'
    exact State.portSound_of_same sound (blocks .port (by simp [other])) (exec_entersNoLoad other next)
  · exact exec_keeps_portSound own other (by simpa using touched) sound next

/-! ### The port counters through every step (R157) -/

theorem State.portCountsSound_iff (s : State) : s.portCountsSound ↔ s.port.counted := Iff.rfl

theorem ManagementPort.silenced_counted (base : Nat) : (ManagementPort.silenced base).counted := by
  intro r
  cases r <;> simp [ManagementPort.silenced, PerRole.same, PerRole.get, PortCounts.sound, PortCounts.zero]

theorem step_keeps_portCountsSound (sound : s.portCountsSound) (stepped : step s = .next t) : t.portCountsSound := by
  refine step_keeps_timeless (bs := [.port]) ?_ (by simp) ?_ sound stepped
  · intro s t same sound
    obtain ⟨port, -⟩ : s.sameAt t .port := same .port (by simp)
    rw [State.portCountsSound_iff, port]
    exact sound
  intro c s t touched sound next
  by_cases own : changedBlocks c = [.port]
  · obtain ⟨v, ms, rfl, -, counted⟩ := exec_portActs own next
    exact counted sound
  cases c <;> simp [changedBlocks, everyBlock] at touched own <;> unfold exec at next
  case factoryClear r =>
    rcases factoryClear_cases next with rfl | ⟨a, rfl⟩ | rfl
    · exact sound
    · exact sound
    · obtain ⟨v, ms, acted, -, counted⟩ := s.fallSilent_acts
      have silent : s.port.fallSilent = v := congrArg State.port acted
      have kept : s.port.fallSilent.counted := by
        rw [silent]
        exact counted sound
      exact kept
  case loadEnd pins =>
    refine occasion_keeps sound (fun _ => ?_) next
    rw [State.portCountsSound_iff, State.loadEnds_port, State.readsImage_port]
    exact sound
  case loadBegin straps | resetNRelease straps =>
    refine occasion_keeps sound (fun _ => ?_) next
    exact ManagementPort.silenced_counted _
  case powerOn | resetNAssert | powerLoss => cases next; exact ManagementPort.silenced_counted _

/-! ### Notices through every step (R164) -/

/-- R164, of the Signal Unit by itself. -/
def SignalUnit.noticed (u : SignalUnit) : Prop :=
  ∀ r : Role, u.changed.get r ≠ 0 → u.notices.get r &&& categoryBit .screen ≠ 0

theorem State.noticesSound_iff (s : State) : s.noticesSound ↔ s.signal.noticed := Iff.rfl

theorem and_ne_zero_of_or {w : Nat} {a b c : BitVec w} (h : a &&& c ≠ 0) : (a ||| b) &&& c ≠ 0 := by
  intro zero
  refine h (BitVec.eq_of_getLsbD_eq fun i inside => ?_)
  have bit : ((a ||| b) &&& c).getLsbD i = (0#w).getLsbD i := by rw [zero]; rfl
  rw [BitVec.getLsbD_and, BitVec.getLsbD_or, BitVec.getLsbD_zero, Bool.and_eq_false_iff, Bool.or_eq_false_iff] at bit
  rw [BitVec.getLsbD_and, BitVec.ofNat_eq_ofNat, BitVec.getLsbD_zero, Bool.and_eq_false_iff]
  exact bit.imp_left And.left

theorem SignalUnit.noticeFor_noticed {u : SignalUnit} (sound : u.noticed) (category : Category) (screens : ScreenSet)
    (r : Role) : (u.noticeFor category screens r).noticed := by
  intro q holds
  by_cases same : r = q
  · subst same
    have notices : (u.noticeFor category screens r).notices.get r = u.notices.get r ||| categoryBit category :=
      PerRole.get_set_self _ _ _
    rw [notices]
    by_cases screen : category = .screen
    · rw [screen, BitVec.or_comm]
      exact and_ne_zero_of_or (by decide)
    · have changed : (u.noticeFor category screens r).changed = u.changed := if_neg screen
      rw [changed] at holds
      exact and_ne_zero_of_or (sound r holds)
  · have notices : (u.noticeFor category screens r).notices.get q = u.notices.get q := PerRole.get_set_other _ _ same
    have changed : (u.noticeFor category screens r).changed.get q = u.changed.get q := by
      unfold SignalUnit.noticeFor
      dsimp only
      split
      · exact PerRole.get_set_other _ _ same
      · rfl
    rw [notices]
    rw [changed] at holds
    exact sound q holds

theorem SignalUnit.take_noticed {u : SignalUnit} (sound : u.noticed) (category : Category) (roles : Concerned)
    (screens : ScreenSet) : (u.take category roles screens).noticed := by
  have each : ∀ (l : List Role) (v : SignalUnit), v.noticed →
      (l.foldl (fun v r => if concerns roles r then v.noticeFor category screens r else v) v).noticed := by
    intro l
    induction l with
    | nil => exact fun v h => h
    | cons r l ih =>
      intro v h
      refine ih _ ?_
      dsimp only
      split
      · exact SignalUnit.noticeFor_noticed h category screens r
      · exact h
  exact each allRoles u sound

theorem State.reportStandby_noticed {s : State} (sound : s.signal.noticed) : s.reportStandby.signal.noticed := by
  rw [State.reportStandby_eq]
  exact sound

theorem State.takeLevel_noticed {s : State} (sound : s.signal.noticed) (i : Fin 4) (high : Bool) :
    (s.takeLevel i high).signal.noticed := by
  refine State.reportStandby_noticed ?_
  split
  · rw [State.markFor_eq]
    exact sound
  · exact sound

theorem State.loadEnds_signal (s : State) (c : Content) (lost : Bool) (pins : BitVec 4) :
    (s.loadEnds c lost pins).signal = s.signal.loaded c pins := by
  rw [State.loadEnds, State.raiseIf_eq]
  rfl

theorem State.readsImage_signal (s : State) : s.readsImage.signal = s.signal := by
  unfold State.readsImage
  split <;> rfl

theorem SignalUnit.loadBegins_noticed (u : SignalUnit) : u.loadBegins.noticed := by
  intro r holds
  exact absurd (PerRole.get_same 0 r) holds

theorem step_keeps_noticesSound (sound : s.noticesSound) (stepped : step s = .next t) : t.noticesSound := by
  refine step_keeps_timeless (bs := [.signal]) ?_ (by simp) ?_ sound stepped
  · intro s t same sound
    have signal : t.signal = s.signal := same .signal (by simp)
    rwa [State.noticesSound_iff, signal]
  intro c s t touched sound next
  cases c <;> simp [changedBlocks, everyBlock] at touched <;> unfold exec at next
  case notice source category roles screens =>
    refine message_keeps (fun _ => sound) sound (fun u h => ?_) next
    exact SignalUnit.take_noticed h category roles screens
  case getNotices r =>
    refine request_keeps (fun u a h => ?_) sound ?_ next
    · exact h
    · intro q holds
      by_cases same : r = q
      · subst same
        exact absurd (PerRole.get_set_self _ _ _) holds
      · have notices : (s.signal.notices.set r 0).get q = s.signal.notices.get q := PerRole.get_set_other _ _ same
        have changed : (s.signal.changed.set r 0).get q = s.signal.changed.get q := PerRole.get_set_other _ _ same
        exact fun zero => sound q (changed ▸ holds) (notices ▸ zero)
  case setNoticeMask r mask =>
    refine request_keeps (fun u a h => ?_) sound ?_ next
    · exact h
    · split
      · exact sound
      · exact sound
  case setLineFunction r line function screen polarity =>
    refine request_keeps (fun u a h => ?_) sound ?_ next
    · exact h
    · split
      · exact State.reportStandby_noticed sound
      · exact sound
  case levelChange i high =>
    refine occasion_keeps sound (fun _ => ?_) next
    exact State.takeLevel_noticed sound i high
  case loadEnd pins =>
    refine occasion_keeps sound (fun _ => ?_) next
    rw [State.noticesSound_iff, State.loadEnds_signal, State.readsImage_signal]
    exact sound
  case loadBegin straps | resetNRelease straps =>
    refine occasion_keeps sound (fun _ => ?_) next
    exact SignalUnit.loadBegins_noticed _
  case powerOn | resetNAssert | powerLoss => cases next; exact SignalUnit.loadBegins_noticed _

/-! ### The store through every step (R175, R185) -/

/-- R185: what a write that failed twice leaves of a factory image. -/
def ProfileStore.leavesFactory (u : ProfileStore) : Prop :=
  ∀ i : Image, u.image = .factoryFailed i → ∃ d : Nat, i = sealed (factoryContent d)

/-- R175, R185, of the store by itself. -/
def ProfileStore.sound (u : ProfileStore) : Prop :=
  (u.snapshot.isSome = true ↔ u.state = .writing) ∧ (u.attempt.isSome = true ↔ u.state = .writing) ∧
  (u.state = .loading → u.settle = none) ∧
  (∀ d : Nat, u.underWay = .factoryClear d .writing →
    u.state = .writing ∧ u.snapshot = some (sealed (factoryContent d))) ∧ u.leavesFactory

/-- The store between the end of a write and what follows it. -/
def ProfileStore.ended (u : ProfileStore) : Prop :=
  u.resting = true ∧ u.snapshot = none ∧ u.attempt = none ∧ u.leavesFactory

theorem State.storeSound_iff (s : State) : s.storeSound ↔ s.store.sound := Iff.rfl

section StoreSound

variable {u v : ProfileStore}

theorem ProfileStore.resting_iff : u.resting = true ↔ u.state = .idle ∨ u.state = .failed := by
  simp [ProfileStore.resting]

/-- An update of flags, and of timers outside LOADING. -/
theorem ProfileStore.sound_congr (sound : u.sound) (state : v.state = u.state) (snapshot : v.snapshot = u.snapshot)
    (attempt : v.attempt = u.attempt) (settle : u.state = .loading → u.settle = none → v.settle = none)
    (underWay : ∀ d, v.underWay = .factoryClear d .writing → u.underWay = .factoryClear d .writing)
    (image : v.image = u.image) : v.sound := by
  obtain ⟨snap, att, still, factory, left⟩ := sound
  refine ⟨by rwa [snapshot, state], by rwa [attempt, state], fun loading => ?_, fun d writing => ?_, ?_⟩
  · rw [state] at loading
    exact settle loading (still loading)
  · rw [state, snapshot]
    exact factory d (underWay d writing)
  · rwa [ProfileStore.leavesFactory, image]

theorem ProfileStore.ended.sound (ended : u.ended) (other : ∀ d, u.underWay ≠ .factoryClear d .writing) : u.sound := by
  obtain ⟨resting, snapshot, attempt, left⟩ := ended
  have notWriting : u.state ≠ .writing := by
    rcases ProfileStore.resting_iff.mp resting with h | h <;> (rw [h]; exact StoreState.noConfusion)
  have notLoading : u.state ≠ .loading := by
    rcases ProfileStore.resting_iff.mp resting with h | h <;> (rw [h]; exact StoreState.noConfusion)
  exact ⟨by simp [snapshot, notWriting], by simp [attempt, notWriting], fun h => absurd h notLoading,
    fun d h => absurd h (other d), left⟩

/-- R178: an image is written; the write of a FACTORY_CLEAR writes the factory image. -/
theorem ProfileStore.beginWrite_sound {i : Image}
    (factory : ∀ d, u.underWay = .factoryClear d .writing → i = sealed (factoryContent d)) : (u.beginWrite i).sound := by
  refine ⟨by simp [ProfileStore.beginWrite], by simp [ProfileStore.beginWrite], fun h => StoreState.noConfusion h,
    fun d writing => ⟨rfl, congrArg some (factory d writing)⟩, fun j h => Nonvolatile.noConfusion h⟩

/-- A resting store is not writing a factory image. -/
theorem ProfileStore.sound.notFactory (sound : u.sound) (resting : u.resting = true) (d : Nat) :
    u.underWay ≠ .factoryClear d .writing := by
  intro writing
  obtain ⟨-, -, -, factory, -⟩ := sound
  rcases ProfileStore.resting_iff.mp resting with h | h <;> (rw [(factory d writing).1] at h; cases h)

theorem ProfileStore.writeSucceeds_ended (sound : u.sound) : u.writeSucceeds.ended := by
  obtain ⟨-, -, -, -, left⟩ := sound
  refine ⟨rfl, rfl, rfl, ?_⟩
  intro i image
  unfold ProfileStore.writeSucceeds at image
  dsimp only at image
  split at image
  · cases image
  · exact left i image

theorem ProfileStore.writeFails_ended (sound : u.sound) : u.writeFails.ended := by
  obtain ⟨-, -, -, factory, left⟩ := sound
  refine ⟨rfl, rfl, rfl, ?_⟩
  intro i image
  have kept : u.imageLeft = .factoryFailed i := image
  unfold ProfileStore.imageLeft at kept
  split at kept
  next d j underWay snapshot =>
    cases kept
    exact ⟨d, Option.some.inj (snapshot.symm.trans (factory d underWay).2)⟩
  next => exact left i kept

theorem ProfileStore.loadBegins_sound (sound : u.sound) (hard : Bool) : (u.loadBegins hard).sound := by
  obtain ⟨-, -, -, -, left⟩ := sound
  exact ⟨by simp [ProfileStore.loadBegins], by simp [ProfileStore.loadBegins], fun _ => rfl,
    fun d writing => UnderWay.noConfusion writing, left⟩

theorem ProfileStore.loaded_sound (sound : u.sound) (loading : u.state = .loading) (lost : Bool) :
    (u.loaded lost).sound := by
  obtain ⟨snapshot, attempt, -, factory, left⟩ := sound
  refine ⟨?_, ?_, fun h => StoreState.noConfusion h, fun d writing => ?_, left⟩
  · refine iff_of_false ?_ StoreState.noConfusion
    exact fun held => by rw [snapshot.mp held] at loading; cases loading
  · refine iff_of_false ?_ StoreState.noConfusion
    exact fun held => by rw [attempt.mp held] at loading; cases loading
  · rw [(factory d writing).1] at loading
    cases loading

end StoreSound

theorem State.commitIfDirty_storeSound (sound : s.storeSound) : s.commitIfDirty.storeSound := by
  unfold State.commitIfDirty
  split
  next due =>
    have resting := (Bool.and_eq_true_iff.mp due).1
    exact ProfileStore.beginWrite_sound fun d writing => absurd writing (ProfileStore.sound.notFactory sound resting d)
  next => exact sound

theorem State.takeDirtyMark_storeSound (sound : s.storeSound) : s.takeDirtyMark.storeSound := by
  have marked : ∀ settle : Option Nat, (s.store.state = .loading → settle = none) →
      (s.withStore { s.store with dirty := true, settle := settle }).storeSound := fun settle still =>
    ProfileStore.sound_congr sound rfl rfl rfl (fun loading _ => still loading) (fun _ h => h) rfl
  have same : (s.withStore { s.store with dirty := true }).storeSound := marked s.store.settle sound.2.2.1
  unfold State.takeDirtyMark
  dsimp only
  split
  next => exact same
  next awake =>
    split
    · exact marked (some 2) fun loading => absurd loading awake
    · exact State.commitIfDirty_storeSound same
    · exact same

theorem State.afterWrite_storeSound (ended : s.store.ended) : s.afterWrite.storeSound := by
  unfold State.afterWrite State.commitIfSettled
  split
  next nothing =>
    have sound : s.storeSound := ended.sound fun d h => by rw [nothing] at h; cases h
    split
    · exact State.commitIfDirty_storeSound sound
    · exact sound
  next reset => exact State.commitIfDirty_storeSound (ended.sound fun d h => by rw [reset] at h; cases h)
  next day waiting =>
    refine ProfileStore.beginWrite_sound fun d writing => ?_
    cases writing
    rfl
  next day writing =>
    exact ProfileStore.ended.sound (u := { s.store with underWay := .factoryClear day .written }) ended
      (fun d h => by cases h)
  next day written => exact ended.sound fun d h => by rw [written] at h; cases h

theorem State.endAttempt_storeSound (sound : s.storeSound) (verified : Bool) : (s.endAttempt verified).storeSound := by
  obtain ⟨-, attempt, -, -, -⟩ := id sound
  unfold State.endAttempt
  split_ifs with succeeded first
  · exact State.afterWrite_storeSound (s := s.withStore s.store.writeSucceeds) (ProfileStore.writeSucceeds_ended sound)
  · obtain ⟨snap, att, still, factory, left⟩ := sound
    have writing : s.store.state = .writing := attempt.mp (by rw [first]; rfl)
    exact ⟨snap, iff_of_true rfl writing, still, factory, left⟩
  · exact State.afterWrite_storeSound (s := (s.withStore s.store.writeFails).raise .store .store)
      (ProfileStore.writeFails_ended sound)

theorem State.takeSoftReset_storeSound (sound : s.storeSound) : s.takeSoftReset.storeSound := by
  have told : (s.withStore { s.store with underWay := .reset, settle := none }).storeSound :=
    ProfileStore.sound_congr sound rfl rfl rfl (fun _ _ => rfl) (fun d h => by cases h) rfl
  unfold State.takeSoftReset
  dsimp only
  split
  · exact ProfileStore.beginWrite_sound fun d h => by cases h
  · exact State.commitIfDirty_storeSound told

theorem State.takeFactoryClear_storeSound (sound : s.storeSound) : s.takeFactoryClear.storeSound := by
  have told : ProfileStore.sound { s.store with
      settle := none, rolloverUnsaved := false, underWay := .factoryClear s.metering.accountDay .waiting } :=
    ProfileStore.sound_congr sound rfl rfl rfl (fun _ _ => rfl) (fun d h => by cases h) rfl
  have written : ({ s.store with
      settle := none, rolloverUnsaved := false, underWay := .factoryClear s.metering.accountDay .writing }.beginWrite
        (sealed (factoryContent s.metering.accountDay))).sound :=
    ProfileStore.beginWrite_sound fun d h => by cases h; rfl
  rw [State.storeSound_iff]
  show ProfileStore.sound (ite _ _ _)
  split_ifs
  · exact written
  · exact told

theorem imageAfterReading_leaves {v : Nonvolatile} {n : Nat} {i : Image} (read : imageAfterReading v n = .factoryFailed i) :
    v = .factoryFailed i := by
  unfold imageAfterReading at read
  split at read
  · split at read
    · split at read <;> cases read
    · cases read
  · exact read

theorem State.readsImage_storeSound (sound : s.storeSound) :
    s.readsImage.storeSound ∧ s.readsImage.store.state = s.store.state := by
  obtain ⟨snap, att, still, factory, left⟩ := id sound
  unfold State.readsImage
  split
  · exact ⟨⟨snap, att, still, factory, fun i image => left i (imageAfterReading_leaves image)⟩, rfl⟩
  · exact ⟨sound, rfl⟩

theorem exec_keeps_storeSound {c : Instr} (own : changedBlocks c = [.store]) (sound : s.storeSound)
    (next : exec c s = .next t) : t.storeSound := by
  cases c <;> simp [changedBlocks, everyBlock] at own <;> unfold exec at next
  case dirtyMark source rollover =>
    refine message_keeps (fun _ => sound) sound (fun u h => ?_) next
    refine State.takeDirtyMark_storeSound ?_
    split
    · exact h
    · exact h
  case accountActivity =>
    refine message_keeps (fun _ => sound) sound (fun u h => ?_) next
    split_ifs
    · exact State.takeDirtyMark_storeSound h
    · exact h
    · exact State.takeDirtyMark_storeSound (s := u.withStore { u.store with snapshotTimer := some 60 }) h
  case snapshotTimerExpiry =>
    refine occasion_keeps sound (fun _ => ?_) next
    split
    · exact State.takeDirtyMark_storeSound (s := s.withStore { s.store with activity := false, snapshotTimer := some 60 })
        sound
    · exact sound
  case settleExpiry =>
    refine occasion_keeps sound (fun _ => ?_) next
    refine State.commitIfDirty_storeSound (s := s.withStore { s.store with settle := none }) ?_
    exact ProfileStore.sound_congr sound rfl rfl rfl (fun _ _ => rfl) (fun _ h => h) rfl
  case writeAttemptEnd verified =>
    refine occasion_keeps sound (fun _ => ?_) next
    exact State.endAttempt_storeSound sound verified
  case softReset =>
    refine message_keeps (fun _ => sound) sound (fun u h => ?_) next
    exact State.takeSoftReset_storeSound h

theorem ProfileStore.timersFall_sound {u : ProfileStore} (sound : u.sound) : u.timersFall.sound :=
  ProfileStore.sound_congr sound rfl rfl rfl (fun _ none => by rw [ProfileStore.timersFall, none]; rfl) (fun _ h => h) rfl

theorem step_keeps_storeSound (sound : s.storeSound) (stepped : step s = .next t) : t.storeSound := by
  refine step_keeps (bs := [.store]) ?_ ?_ ?_ sound stepped
  · intro s t same sound
    have store : t.store = s.store := same .store (by simp)
    rwa [State.storeSound_iff, store]
  · intro s sound
    unfold State.period
    split_ifs
    · exact sound
    · exact ProfileStore.timersFall_sound sound
    · exact sound
  intro c s t touched sound next
  by_cases own : changedBlocks c = [.store]
  · exact exec_keeps_storeSound own sound next
  cases c <;> simp [changedBlocks, everyBlock] at touched own
  case factoryClear r =>
    rcases factoryClear_cases next with rfl | ⟨a, rfl⟩ | rfl
    · exact sound
    · exact sound
    · exact State.takeFactoryClear_storeSound sound
  case secondTick =>
    refine secondTick_keeps (fun _ => sound) (ProfileStore.timersFall_sound sound) (fun u h => ?_) sound next
    have kept : u.takeTick.store = u.store :=
      (State.takeTick_changesOnly (bs := [.metering]) (s := u) (by simp)).2 .store (by simp)
    rwa [State.storeSound_iff, kept]
  case loadEnd pins =>
    unfold exec at next
    refine occasion_keeps sound (fun due => ?_) next
    have loading : s.store.state = .loading := by simpa [State.loading] using (Bool.and_eq_true_iff.mp due).2
    obtain ⟨sound', state⟩ := State.readsImage_storeSound sound
    rw [State.storeSound_iff, State.loadEnds_store]
    exact ProfileStore.loaded_sound sound' (state.trans loading) _
  case loadBegin straps | resetNRelease straps =>
    unfold exec at next
    refine occasion_keeps sound (fun _ => ?_) next
    exact ProfileStore.loadBegins_sound sound _
  case powerOn | resetNAssert | powerLoss =>
    unfold exec at next
    cases next
    exact ProfileStore.loadBegins_sound sound _

end PortSound

/-- Settles O59: the port, its counters, the notices and the store are each kept by every step. -/
theorem everyStepKeepsPortNoticesAndStoreSound : Obligations.EveryStepKeepsPortNoticesAndStoreSound :=
  fun _ _ port counts notices store stepped => ⟨step_keeps_portSound port stepped,
    step_keeps_portCountsSound counts stepped, step_keeps_noticesSound notices stepped, step_keeps_storeSound store stepped⟩

end Sys2Proof.Machine
end

section
/-! PROOFS. Seats and seat limits (R76). The theorem at its end settles O56. -/

namespace Sys2Proof.Machine

/-! ### Counting live seats -/

theorem State.liveSeats_eq_card (s : State) (p : Slot) : s.liveSeats p =
    (Finset.univ.filter fun n : ScreenNo => s.screens.cells[n].live = true ∧ s.screens.cells[n].seat = p).card := by
  rw [State.liveSeats, ← List.toFinset_card_of_nodup (screenNumbers_nodup.filter _)]
  congr 1
  ext n
  simp

/-- The live seats of p grow only by screens that come to be live with p. -/
theorem State.liveSeats_le {s t : State} {p : Slot}
    (each : ∀ n : ScreenNo, t.screens.cells[n].live = true → t.screens.cells[n].seat = p →
      s.screens.cells[n].live = true ∧ s.screens.cells[n].seat = p) : t.liveSeats p ≤ s.liveSeats p := by
  rw [State.liveSeats_eq_card, State.liveSeats_eq_card]
  refine Finset.card_le_card fun n member => ?_
  simp only [Finset.mem_filter, Finset.mem_univ, true_and] at member ⊢
  exact each n member.1 member.2

/-- One screen more adds at most one live seat. -/
theorem State.liveSeats_le_succ {s t : State} {p : Slot} (n : ScreenNo)
    (others : ∀ m : ScreenNo, n ≠ m → t.screens.cells[m] = s.screens.cells[m]) : t.liveSeats p ≤ s.liveSeats p + 1 := by
  rw [State.liveSeats_eq_card, State.liveSeats_eq_card]
  refine (Finset.card_le_card fun m member => ?_).trans (Finset.card_insert_le n _)
  simp only [Finset.mem_insert, Finset.mem_filter, Finset.mem_univ, true_and] at member ⊢
  by_cases same : n = m
  · exact .inl same.symm
  · rw [others m same] at member
    exact .inr member

theorem State.liveSeats_of_dark {s : State} (dark : ∀ n : ScreenNo, s.screens.cells[n].state = .dark) (p : Slot) :
    s.liveSeats p = 0 := by
  rw [State.liveSeats_eq_card, Finset.card_eq_zero, Finset.filter_eq_empty_iff]
  exact fun n _ live => Screen.not_live_of_dark (dark n) live.1

/-! ### Records that keep their seat or give it up -/

/-- The seat is kept and the screen does not become live, or the screen is dark with seat 0. -/
def Screen.easesTo (x y : Screen) : Prop :=
  (y.seat = x.seat ∧ (y.live = true → x.live = true)) ∨ (y.seat = 0 ∧ y.state = .dark)

theorem Screen.easesTo_refl (x : Screen) : x.easesTo x := .inl ⟨rfl, id⟩

section Eases

variable {x y : Screen}

theorem applied_seat (fromOpen : Bool) (p : Profile) (x : Screen) (j : Judgement) :
    (applied fromOpen p x j).seat = x.seat := by
  unfold applied closeFor stayClosing
  cases j with
  | admitted winding => rfl
  | refused r => rfl
  | expired r =>
    dsimp only
    split_ifs
    · rfl
    · rfl
    · split
      · split <;> rfl
      · rfl
    · rfl

theorem State.testedScreen_seat (s : State) (n : ScreenNo) (fromOpen noPass : Bool) :
    (s.testedScreen n fromOpen noPass).seat = s.screens.cells[n].seat := by
  obtain ⟨e, k, o, read⟩ := s.contentRead_eq n noPass
  rw [State.testedScreen, applied_seat, read]

theorem darkOf_seat (x : Screen) : (darkOf x).seat = x.seat := by
  unfold darkOf darkenedScreen endedScreen
  split <;> rfl

/-- Only a SEAT or a TUNE gives a screen a seat or makes it live. -/
theorem State.screenMove_eases {s : State} {n : ScreenNo} {tunes : Prop} (other : ¬ tunes) (move : s.screenMove tunes n y) :
    s.screens.cells[n].easesTo y := by
  have stays : s.screens.cells[n].state ≠ .dark → ∀ fromOpen noPass, s.screens.cells[n].easesTo
      (chargedScreen s.profiles.table (s.testedScreen n fromOpen noPass)) := fun live fromOpen noPass =>
    .inl ⟨s.testedScreen_seat n fromOpen noPass, fun _ => (Screen.live_iff _).mpr live⟩
  cases move with
  | same => exact Screen.easesTo_refl _
  | retested live => exact stays live _ _
  | waitEnds waiting => exact stays (by rw [waiting]; exact ScreenState.noConfusion) _ _
  | closes closing =>
    exact .inl ⟨rfl, fun _ => (Screen.live_iff _).mpr (by rw [closing]; exact ScreenState.noConfusion)⟩
  | darkens => exact .inl ⟨darkOf_seat _, fun live => absurd (darkOf_state _) ((Screen.live_iff _).mp live)⟩
  | standsBy => exact .inr ⟨rfl, darkOf_state s.screens.cells[n]⟩
  | configured dark kind wait => exact .inl ⟨rfl, id⟩
  | reseated may | reseatTested may | tunedWaiting may | tuned may => exact absurd may other

end Eases

/-! ### Seats within their limits -/

section Seats

variable {s t : State}

theorem State.tableSound_iff (s : State) : s.tableSound ↔ tableValid s.profiles.table = true := Iff.rfl

theorem State.tableSound.owner (table : s.tableSound) : s.profiles.table[(0 : Slot)] ≠ .empty := (tableValid_iff.mp table).2

theorem State.seatsSound_of_eased (table : s.tableSound) (sound : s.seatsSound) (same : t.profiles.table = s.profiles.table)
    (eased : ∀ n : ScreenNo, s.screens.cells[n].easesTo t.screens.cells[n]) : t.seatsSound := by
  obtain ⟨filled, limits⟩ := sound
  refine ⟨fun n => ?_, fun p c common => ?_⟩
  · simp only [same]
    rcases eased n with ⟨seat, -⟩ | ⟨zero, -⟩
    · simp only [seat]
      exact filled n
    · simp only [zero]
      exact table.owner
  · rw [same] at common
    refine (State.liveSeats_le fun n live seat => ?_).trans (limits p c common)
    rcases eased n with ⟨kept, stays⟩ | ⟨-, dark⟩
    · exact ⟨stays live, kept.symm.trans seat⟩
    · exact absurd dark ((Screen.live_iff _).mp live)

/-- The seats depend on the table and the records alone. -/
theorem State.seatsSound_congr (sound : s.seatsSound) (table : t.profiles.table = s.profiles.table)
    (screens : t.screens = s.screens) : t.seatsSound := by
  obtain ⟨filled, limits⟩ := sound
  have seats : ∀ p, t.liveSeats p = s.liveSeats p := fun p => by rw [State.liveSeats, State.liveSeats, screens]
  exact ⟨fun n => by simp only [table, screens]; exact filled n, fun p c common => by
    rw [seats]; rw [table] at common; exact limits p c common⟩

theorem State.sendAll_seatsSound (sound : s.seatsSound) (ms : List Instr) : (s.sendAll ms).seatsSound :=
  State.seatsSound_congr sound rfl rfl

theorem State.place_seatsSound (r : Role) (u : State) (a : Answer) (sound : u.seatsSound) : (u.place r a).seatsSound :=
  State.seatsSound_congr sound rfl rfl

theorem State.seatsSound_of_unseated (table : t.tableSound)
    (unseated : ∀ n : ScreenNo, t.screens.cells[n].state = .dark ∧ t.screens.cells[n].seat = 0) : t.seatsSound := by
  refine ⟨fun n => ?_, fun p c _ => ?_⟩
  · simp only [(unseated n).2]
    exact table.owner
  · rw [State.liveSeats_of_dark fun n => (unseated n).1]
    exact Nat.zero_le _

theorem State.seatFree_iff {p : Slot} : s.seatFree p = true ↔
    ∃ c, commonOf s.profiles.table[p] = some c ∧ s.liveSeats p < c.seatLimit := by
  unfold State.seatFree
  cases commonOf s.profiles.table[p] with
  | none => simp
  | some c => simp

/-- R76: a record may be replaced by one with a seat that is not EMPTY, when it was live with that seat or a seat is free. -/
theorem State.setScreen_seatsSound (sound : s.seatsSound) (n : ScreenNo) {x : Screen}
    (filled : s.profiles.table[x.seat] ≠ .empty)
    (room : x.live = true → (s.screens.cells[n].live = true ∧ s.screens.cells[n].seat = x.seat) ∨ s.seatFree x.seat = true) :
    (s.setScreen n x).seatsSound := by
  obtain ⟨seats, limits⟩ := sound
  have own : (s.setScreen n x).screens.cells[n] = x := put_self _ _ _
  have others : ∀ m : ScreenNo, n ≠ m → (s.setScreen n x).screens.cells[m] = s.screens.cells[m] :=
    fun m other => put_other _ _ other
  refine ⟨fun m => ?_, fun p c common => ?_⟩
  · by_cases same : n = m
    · subst same
      simp only [own]
      exact filled
    · simp only [others m same]
      exact seats m
  · have held : commonOf s.profiles.table[p] = some c := common
    by_cases fresh : s.seatFree p = true
    · obtain ⟨d, common', free⟩ := State.seatFree_iff.mp fresh
      cases held.symm.trans common'
      exact (State.liveSeats_le_succ n others).trans free
    · refine (State.liveSeats_le fun m live seat => ?_).trans (limits p c held)
      by_cases same : n = m
      · subst same
        rw [own] at live seat
        subst seat
        exact (room live).resolve_right fresh
      · rw [others m same] at live seat
        exact ⟨live, seat⟩

theorem State.screenAct_seatsSound {act : State → State} (acted : (act s).seatsSound) : (s.screenAct act).seatsSound := by
  unfold State.screenAct State.tellChanges
  split
  · exact acted
  · exact acted

/-! ### SEAT and TUNE -/

theorem State.reseat_spec (s : State) (n : ScreenNo) (p : Slot) : ∃ x ms, s.reseat n p = (s.setScreen n x).sendAll ms ∧
    x.seat = p ∧ (x.live = true → s.screens.cells[n].live = true) := by
  rw [State.reseat_eq]
  split
  next resting =>
    rw [State.sendAll_settleCharge]
    exact ⟨_, _, rfl, rfl, id⟩
  next started =>
    rw [State.sendAll_test]
    refine ⟨_, _, rfl, ?_, fun _ => (Screen.live_iff _).mpr (not_or.mp started).1⟩
    refine (State.testedScreen_seat _ _ _ _).trans ?_
    rw [State.setScreen_cells, put_self]
    rfl

theorem leftScreen_seat (x : Screen) : (leftScreen x).seat = x.seat := by
  unfold leftScreen
  split <;> rfl

theorem State.tuneTo_spec (s : State) (n : ScreenNo) (service : Half) (d : Option Descriptor) :
    ∃ x ms, s.tuneTo n service d = (s.setScreen n x).sendAll ms ∧ x.seat = s.screens.cells[n].seat := by
  rw [State.tuneTo_eq]
  split
  · rw [State.sendAll_settleCharge]
    exact ⟨_, _, rfl, leftScreen_seat _⟩
  · rw [State.sendAll_test]
    refine ⟨_, _, rfl, (State.testedScreen_seat _ _ _ _).trans ?_⟩
    rw [State.setScreen_cells, put_self]
    exact leftScreen_seat _

theorem State.reseat_seatsSound (sound : s.seatsSound) (n : ScreenNo) {p : Slot} (filled : s.profiles.table[p] ≠ .empty)
    (free : s.screens.cells[n].live = true → s.seatFree p = true) : (s.reseat n p).seatsSound := by
  obtain ⟨x, ms, reseated, seat, stays⟩ := s.reseat_spec n p
  rw [reseated]
  refine State.sendAll_seatsSound (State.setScreen_seatsSound sound n (by simpa only [seat] using filled) fun live => ?_) ms
  rw [seat]
  exact .inr (free (stays live))

theorem State.tuneTo_seatsSound (sound : s.seatsSound) (n : ScreenNo) (service : Half) (d : Option Descriptor)
    (free : ¬ s.screens.cells[n].live = true → s.seatFree s.screens.cells[n].seat = true) :
    (s.tuneTo n service d).seatsSound := by
  obtain ⟨x, ms, tuned, seat⟩ := s.tuneTo_spec n service d
  rw [tuned]
  refine State.sendAll_seatsSound (State.setScreen_seatsSound sound n (by simpa only [seat] using sound.1 n) fun _ => ?_) ms
  rw [seat]
  by_cases live : s.screens.cells[n].live = true
  · exact .inl ⟨live, rfl⟩
  · exact .inr (free live)

theorem seatChecked_seatsSound (sound : s.seatsSound) (n : ScreenNo) {p : Slot} (filled : s.profiles.table[p] ≠ .empty) :
    (seatChecked n p s).1.seatsSound := by
  unfold seatChecked refuse
  split
  next => exact sound
  next free =>
    have reseated := State.reseat_seatsSound sound n filled (by simpa using free)
    have act : (s.screenAct fun s => s.reseat n p).seatsSound := State.screenAct_seatsSound reseated
    exact act

theorem seatProfile_seatsSound (sound : s.seatsSound) (n : ScreenNo) (p : Slot) (pin : Option (List (Fin 10))) :
    (seatProfile n p pin s).1.seatsSound := by
  obtain ⟨⟨table, -⟩, screens⟩ := s.pinCheck_context p pin
  have checks := State.seatsSound_congr sound table screens
  unfold seatProfile refuse
  split_ifs with empty
  · exact sound
  · exact sound
  · exact seatChecked_seatsSound sound n empty
  · split
    next u checked =>
      rw [checked] at checks table
      exact seatChecked_seatsSound checks n (by rw [table]; exact empty)
    next checked => rw [checked] at checks; exact checks
    next checked => rw [checked] at checks; exact checks

theorem tuneChecked_seatsSound (sound : s.seatsSound) (n : ScreenNo) (service : Half) (d : Option Descriptor) :
    (tuneChecked n service d s).1.seatsSound := by
  unfold tuneChecked tuneAnswer refuse
  dsimp only
  split_ifs with same full
  · exact sound
  · exact sound
  · have tuned := State.tuneTo_seatsSound sound n service d (by simpa using full)
    have act : (s.screenAct fun s => s.tuneTo n service d).seatsSound := State.screenAct_seatsSound tuned
    exact act

/-- R76: SEAT and TUNE look for a free seat before they make a screen live with a profile. -/
theorem exec_tunes_seatsSound {c : Instr} (tunes : tunesScreen c) (sound : s.seatsSound) (next : exec c s = .next t) :
    t.seatsSound := by
  cases c <;> try exact tunes.elim
  case seat r n slot pin =>
    unfold exec at next
    refine request_keeps (State.place_seatsSound r) sound ?_ next
    unfold onScreen refuse
    split
    · exact sound
    · split_ifs
      · exact sound
      · split
        · exact seatProfile_seatsSound sound _ _ _
        · exact sound
      · exact sound
  case tune r n service d =>
    unfold exec at next
    refine request_keeps (State.place_seatsSound r) sound ?_ next
    unfold onScreen refuse
    split
    · exact sound
    · split_ifs
      · exact sound
      · split
        · exact tuneChecked_seatsSound sound _ _ _
        · exact sound
      · exact sound

end Seats

/-! ### What a step may do to the profile table -/

/-- The tables that an accepted edit or clear leaves (R17 to R19). -/
inductive State.tableChange (s : State) : Vector Profile 8 → Prop
  | edited (p : Slot) (q : Profile) (valid : profileValid q = true) (filled : q ≠ .empty)
      (limit : ∀ c, commonOf q = some c → s.liveSeats p ≤ c.seatLimit) : s.tableChange (put s.profiles.table p q)
  | emptied (p : Slot) (other : p ≠ 0) (free : s.seated p = false) : s.tableChange (put s.profiles.table p .empty)

/-- The profile table stays, is changed in one slot, or is the one that a load read. -/
def State.tableLeads (s t : State) : Prop :=
  t.profiles.table = s.profiles.table ∨ (t.screens = s.screens ∧ s.tableChange t.profiles.table) ∨
  (s.store.state = .loading ∧ t.tableSound ∧ ∃ c level, t.screens = s.screens.loaded c level)

section Table

variable {s t : State}

theorem State.tableLeads_place (s : State) (r : Role) (u : State) (a : Answer) (leads : s.tableLeads u) :
    s.tableLeads (u.place r a) := leads

theorem commonOf_profileWritten (e : Edit) (pin : Option (List (Fin 10))) :
    commonOf (profileWritten e pin) = some { e.common with pin := pin } := by
  unfold profileWritten
  split <;> rfl

theorem editSlot_tableLeads (table : s.tableSound) (p : Slot) (image : EditImage) :
    s.tableLeads (editSlot p image s).1 := by
  unfold editSlot
  split
  · exact .inl rfl
  next e read =>
    split_ifs with missing seats
    · exact .inl rfl
    · exact .inl rfl
    · obtain ⟨written, -⟩ := s.profiles.edited_spec p e
      obtain ⟨valid, filled⟩ := profileWritten_valid read ((tableValid_iff.mp table).1 p)
        fun adult none => missing ⟨adult, none⟩
      refine .inr (.inl ⟨rfl, ?_⟩)
      show s.tableChange (s.profiles.edited p e).table
      rw [written]
      refine .edited p _ valid filled fun c common => ?_
      rw [commonOf_profileWritten] at common
      cases common
      exact Nat.not_lt.mp seats

theorem clearSlot_tableLeads (s : State) (p : Slot) : s.tableLeads (clearSlot p s).1 := by
  unfold clearSlot
  split_ifs with zero empty seated
  · exact .inl rfl
  · exact .inl rfl
  · exact .inl rfl
  · exact .inr (.inl ⟨rfl, .emptied p zero (Bool.eq_false_iff.mpr seated)⟩)

theorem seatProfile_table (s : State) (n : ScreenNo) (p : Slot) (pin : Option (List (Fin 10))) :
    (seatProfile n p pin s).1.profiles.table = s.profiles.table := (seatProfile_moves trivial s n p pin).1.1

theorem verified_table (r : Role) (p : Slot) (c : State × PinOutcome) :
    (verified r p c).1.profiles.table = c.1.profiles.table := by
  unfold verified
  split
  · rfl
  · rfl
  · split <;> rfl

theorem State.closeWindow_table (s : State) (r : Role) : (s.closeWindow r).profiles.table = s.profiles.table := by
  rw [State.closeWindow, State.raiseIf_eq]
  rfl

/-- The commands of the Profile Unit by what they do to the table. -/
theorem exec_tableLeads_own {c : Instr} (own : changedBlocks c = [.profile]) (table : s.tableSound)
    (next : exec c s = .next t) : s.tableLeads t := by
  have stays : s.tableLeads s := .inl rfl
  cases c <;> simp [changedBlocks, everyBlock] at own <;> unfold exec at next
  case editProfile r slot image =>
    refine request_keeps (s.tableLeads_place r) stays ?_ next
    refine underAuthority_keeps (P := s.tableLeads) stays fun _ => ?_
    split
    · exact stays
    · split
      · exact clearSlot_tableLeads s _
      · exact editSlot_tableLeads table _ _
  case clearProfile r slot =>
    refine request_keeps (s.tableLeads_place r) stays ?_ next
    refine underAuthority_keeps (P := s.tableLeads) stays fun _ => ?_
    split
    · exact stays
    · exact clearSlot_tableLeads s _
  case verifyPin r slot pin =>
    refine request_keeps (s.tableLeads_place r) stays ?_ next
    split
    · split_ifs
      · exact stays
      · exact stays
      · exact .inl ((verified_table _ _ _).trans (s.pinCheck_context _ _).1.1)
    · exact stays
  case endAuthority r =>
    refine request_keeps (s.tableLeads_place r) stays ?_ next
    exact .inl (s.closeWindow_table r)
  case setSchemeMap r scheme entries =>
    refine request_keeps (s.tableLeads_place r) stays ?_ next
    refine underAuthority_keeps (P := s.tableLeads) stays fun _ => ?_
    split
    · rw [State.replaceMap_eq]
      exact .inl rfl
    · exact stays
  case setHousehold r authority lockout =>
    refine request_keeps (s.tableLeads_place r) stays ?_ next
    refine underAuthority_keeps (P := s.tableLeads) stays fun _ => ?_
    split
    · exact .inl rfl
    · exact stays
  case lockoutExpiry p => exact occasion_keeps stays (fun _ => .inl rfl) next
  case windowExpiry r => exact occasion_keeps stays (fun _ => .inl (s.closeWindow_table r)) next
  case standbyEntryReport =>
    refine message_keeps (P := s.tableLeads) (fun _ => stays) stays (fun u h => ?_) next
    rw [State.raiseIf_eq]
    exact h

theorem exec_tableLeads (c : Instr) (table : s.tableSound) (next : exec c s = .next t) : s.tableLeads t := by
  have stays : s.tableLeads s := .inl rfl
  by_cases own : changedBlocks c = [.profile]
  · exact exec_tableLeads_own own table next
  by_cases others : .profile ∉ changedBlocks c
  · obtain ⟨u, next', -, blocks⟩ := exec_leadsTo c s
    cases next.symm.trans next'
    have profiles : t.profiles = s.profiles := blocks .profile others
    exact .inl (by rw [profiles])
  cases c <;> simp [changedBlocks, everyBlock] at own others <;> unfold exec at next
  case seat r n slot pin =>
    refine request_keeps (s.tableLeads_place r) stays ?_ next
    unfold onScreen
    split
    · exact stays
    · split_ifs
      · exact stays
      · split
        · exact .inl (seatProfile_table _ _ _ _)
        · exact stays
      · exact stays
  case secondTick =>
    refine .inl (secondTick_keeps (P := fun u => u.profiles.table = s.profiles.table) (fun _ => rfl) rfl (fun u h => ?_)
      rfl next)
    have kept : u.takeTick.profiles = u.profiles :=
      (State.takeTick_changesOnly (bs := [.metering]) (s := u) (by simp)).2 .profile (by simp)
    rw [kept, h]
  case loadEnd pins =>
    refine occasion_keeps stays (fun due => .inr (.inr ⟨?_, ?_, ?_⟩)) next
    · simpa [State.loading] using (Bool.and_eq_true_iff.mp due).2
    · rw [State.tableSound_iff, State.loadEnds_profiles]
      exact tableValid_of_contentValid (judged_valid _)
    · exact ⟨_, _, (State.loadEnds_screens _ _ _ _).trans (by rw [State.readsImage_screens])⟩
  case loadBegin straps | resetNRelease straps => exact occasion_keeps stays (fun _ => .inl rfl) next
  case powerOn | resetNAssert | powerLoss => cases next; exact .inl rfl

theorem State.period_table (s : State) : s.period.profiles.table = s.profiles.table := by
  unfold State.period
  split_ifs <;> rfl

theorem step_tableLeads (table : s.tableSound) (stepped : step s = .next t) : s.tableLeads t := by
  unfold step at stepped
  split at stepped
  next => cases stepped; exact .inl s.period_table
  next c rest _ =>
    rcases exec_tableLeads (s := s.withPending rest) c table stepped with same | ⟨screens, change⟩ | load
    · exact .inl same
    · refine .inr (.inl ⟨screens, ?_⟩)
      generalize t.profiles.table = after at change
      cases change with
      | edited p q valid filled limit => exact .edited p q valid filled limit
      | emptied p other free => exact .emptied p other free
    · exact .inr (.inr load)

theorem State.tableChange_valid {table : Vector Profile 8} (sound : s.tableSound) (change : s.tableChange table) :
    tableValid table = true := by
  cases change with
  | edited p q valid filled => exact tableValid_put sound valid fun _ => filled
  | emptied p other => exact tableValid_put sound rfl fun zero => absurd zero other

theorem step_keeps_tableSound (sound : s.tableSound) (stepped : step s = .next t) : t.tableSound := by
  rcases step_tableLeads sound stepped with same | ⟨-, change⟩ | ⟨-, valid, -⟩
  · rwa [State.tableSound_iff, same]
  · exact State.tableChange_valid sound change
  · exact valid

/-- R17 to R19: an edit looks for too many live seats, and a clear for a seat. -/
theorem State.tableChange_seatsSound (sound : s.seatsSound) (screens : t.screens = s.screens)
    (change : s.tableChange t.profiles.table) : t.seatsSound := by
  obtain ⟨seats, limits⟩ := sound
  have live : ∀ p, t.liveSeats p = s.liveSeats p := fun p => by rw [State.liveSeats, State.liveSeats, screens]
  have slot : ∀ p : Slot, ∃ q : Profile, q = t.profiles.table[p] ∧
      (∀ n : ScreenNo, s.screens.cells[n].seat = p → q ≠ .empty) ∧
      ∀ c, commonOf q = some c → s.liveSeats p ≤ c.seatLimit := by
    intro p
    refine ⟨_, rfl, ?_⟩
    generalize t.profiles.table = after at change
    have kept : (∀ n : ScreenNo, s.screens.cells[n].seat = p → s.profiles.table[p] ≠ .empty) ∧
        ∀ c, commonOf s.profiles.table[p] = some c → s.liveSeats p ≤ c.seatLimit :=
      ⟨fun n seat => seat ▸ seats n, limits p⟩
    cases change with
    | edited o q valid filled limit =>
      rw [put_get]
      split
      next same => exact ⟨fun _ _ => filled, same ▸ limit⟩
      next => exact kept
    | emptied o other free =>
      rw [put_get]
      split
      next same =>
        refine ⟨fun n seat => ?_, fun c common => by cases common⟩
        rw [State.seated_iff.mpr ⟨n, seat.trans same.symm⟩] at free
        cases free
      next => exact kept
  refine ⟨fun n => ?_, fun p c common => ?_⟩
  · obtain ⟨q, at_seat, filled, -⟩ := slot s.screens.cells[n].seat
    simp only [screens]
    rw [← at_seat]
    exact filled n rfl
  · obtain ⟨q, at_slot, -, limit⟩ := slot p
    rw [live]
    exact limit c (by rw [at_slot]; exact common)

end Table

/-! ### Loads and seats (R87, R162) -/

section Loads

variable {s t : State}

theorem ScreenController.loaded_cell (x : ScreenController) (c : Content) (level : Bool) (n : ScreenNo) :
    (x.loaded c level).cells[n] = { x.cells[n] with kind := c.screens[n].kind, guideWait := c.screens[n].guideWait } := by
  simp [ScreenController.loaded]

theorem ScreenController.loadBegins_cell (x : ScreenController) (n : ScreenNo) :
    x.loadBegins.cells[n] = .dark x.cells[n].kind x.cells[n].guideWait := by
  simp [ScreenController.loadBegins]

/-- Every step that neither seats nor tunes leaves each screen its seat or darkens it. -/
theorem step_eases (stepped : step s = .next t) : (∃ c rest, s.pending = c :: rest ∧ tunesScreen c ∧ s.sameContext t) ∨
    ∀ n : ScreenNo, s.screens.cells[n].easesTo t.screens.cells[n] := by
  rcases step_screens stepped with ⟨c, rest, queued, moved⟩ | same | fall | load | ⟨c, level, ended⟩
  · by_cases tunes : tunesScreen c
    · exact .inl ⟨c, rest, queued, tunes, moved.1⟩
    · exact .inr fun n => State.screenMove_eases tunes (moved.2 n)
  · exact .inr fun n => by rw [same]; exact Screen.easesTo_refl _
  · exact .inr fun n => by rw [fall, ScreenController.timersFall_cell]; exact .inl ⟨rfl, id⟩
  · exact .inr fun n => by rw [load, ScreenController.loadBegins_cell]; exact .inr ⟨rfl, rfl⟩
  · exact .inr fun n => by rw [ended, ScreenController.loaded_cell]; exact .inl ⟨rfl, id⟩

theorem step_of_queued {c : Instr} {rest : List Instr} (queued : s.pending = c :: rest) :
    step s = exec c (s.withPending rest) := by
  unfold step
  rw [queued]

/-- R181: what comes to be LOADING begins a load, and its screens with it. -/
theorem exec_loading {c : Instr} (next : exec c s = .next t) (loading : t.store.state = .loading) :
    s.store.state = .loading ∨ t.screens = s.screens.loadBegins := by
  by_cases own : changedBlocks c = [.store]
  · exact .inl (exec_entersNoLoad own next loading)
  by_cases others : .store ∉ changedBlocks c
  · obtain ⟨u, next', -, blocks⟩ := exec_leadsTo c s
    cases next.symm.trans next'
    have store : t.store = s.store := blocks .store others
    exact .inl (by rwa [store] at loading)
  cases c <;> simp [changedBlocks, everyBlock] at own others
  case factoryClear r =>
    rcases factoryClear_cases next with rfl | ⟨a, rfl⟩ | rfl
    · exact .inl loading
    · exact .inl loading
    · exact .inl (State.takeFactoryClear_loading s loading)
  case secondTick =>
    unfold exec at next
    have kept : s.entersNoLoad t := by
      refine secondTick_keeps (P := s.entersNoLoad) (fun _ => id) id (fun u h => ?_) id next
      have store : u.takeTick.store = u.store :=
        (State.takeTick_changesOnly (bs := [.metering]) (s := u) (by simp)).2 .store (by simp)
      rwa [State.entersNoLoad, store]
    exact .inl (kept loading)
  case loadEnd pins =>
    unfold exec at next
    cases next
    split at loading
    · rw [State.loadEnds_store] at loading
      cases loading
    · exact .inl loading
  case loadBegin straps | resetNRelease straps =>
    unfold exec at next
    cases next
    split at loading
    next due => rw [if_pos due]; exact .inr rfl
    next => exact .inl loading
  case powerOn | resetNAssert | powerLoss => unfold exec at next; cases next; exact .inr rfl

theorem State.period_loading (s : State) (loading : s.period.store.state = .loading) : s.store.state = .loading := by
  unfold State.period at loading
  split_ifs at loading <;> exact loading

theorem step_loading (stepped : step s = .next t) (loading : t.store.state = .loading) :
    s.store.state = .loading ∨ t.screens = s.screens.loadBegins := by
  unfold step at stepped
  split at stepped
  next => cases stepped; exact .inl (s.period_loading loading)
  next c rest _ => exact exec_loading (s := s.withPending rest) stepped loading

theorem tunesScreen_request {c : Instr} (tunes : tunesScreen c) : ∃ r, c.requester = some r := by
  cases c with
  | seat r | tune r => exact ⟨r, rfl⟩
  | _ => exact tunes.elim

/-- R162: no request is taken while LOADING. -/
theorem exec_request_loading {c : Instr} {r : Role} (request : c.requester = some r) (port : s.portSound)
    (loading : s.store.state = .loading) : exec c s = .next s := by
  refine exec_of_notHanded request (Bool.eq_false_iff.mpr fun handed => ?_)
  obtain ⟨-, -, -, none⟩ := port
  exact none loading r c (by simpa [State.handed] using handed)

theorem step_keeps_loadDark (port : s.portSound) (dark : s.loadDark) (stepped : step s = .next t) : t.loadDark := by
  intro loading n
  rcases step_loading stepped loading with before | load
  · rcases step_eases stepped with ⟨c, rest, queued, tunes, -⟩ | eased
    · obtain ⟨r, request⟩ := tunesScreen_request tunes
      rw [step_of_queued queued, exec_request_loading (s := s.withPending rest) request port before] at stepped
      cases stepped
      exact dark before n
    · obtain ⟨state, zero⟩ := dark before n
      rcases eased n with ⟨seat, live⟩ | ⟨seat, state'⟩
      · refine ⟨?_, seat.trans zero⟩
        by_contra other
        exact Screen.not_live_of_dark state (live ((Screen.live_iff _).mpr other))
      · exact ⟨state', seat⟩
  · rw [load, ScreenController.loadBegins_cell]
    exact ⟨rfl, rfl⟩

theorem step_keeps_seatsSound (table : s.tableSound) (dark : s.loadDark) (seats : s.seatsSound)
    (stepped : step s = .next t) : t.seatsSound := by
  rcases step_tableLeads table stepped with same | ⟨screens, change⟩ | ⟨loading, valid, c, level, ended⟩
  · rcases step_eases stepped with ⟨c, rest, queued, tunes, -⟩ | eased
    · rw [step_of_queued queued] at stepped
      exact exec_tunes_seatsSound (s := s.withPending rest) tunes seats stepped
    · exact State.seatsSound_of_eased table seats same eased
  · exact State.tableChange_seatsSound seats screens change
  · refine State.seatsSound_of_unseated valid fun n => ?_
    rw [ended, ScreenController.loaded_cell]
    exact dark loading n

end Loads

/-- Settles O56: the table, the port, the dark screens of a load and the seats, in this order, each resting on those before. -/
theorem everyStepKeepsSeatsWithinLimits : Obligations.EveryStepKeepsSeatsWithinLimits := by
  rintro s t ⟨table, port, dark, seats⟩ stepped
  exact ⟨step_keeps_tableSound table stepped, step_keeps_portSound port stepped, step_keeps_loadDark port dark stepped,
    step_keeps_seatsSound table dark seats stepped⟩

end Sys2Proof.Machine
end

section
/-! PROOFS. What every step keeps of the clock and the accounts (R27, R28, R31, R32). The theorem at its end settles O54. -/

namespace Sys2Proof.Machine

/-- R27, R31, R32 of the unit by itself. -/
def MeteringUnit.sound (u : MeteringUnit) : Prop :=
  (u.day < 65536 ∧ u.second < 86400 ∧ u.accountDay < 65536 ∧ -128 ≤ u.trim ∧ u.trim ≤ 127) ∧
  ∀ (p : Slot) (a : Account), u.accounts[p] = some a → accountSound a

/-- R28: the second under way. -/
def Reference.sound (x : Reference) : Prop := 32640 ≤ x.length ∧ x.length ≤ 32895 ∧ x.phase < x.length

def State.timeSound (s : State) : Prop := s.metering.sound ∧ s.ref.sound

theorem State.timeSound_iff (s : State) : s.timeSound ↔ s.clockSound ∧ s.accountsSound := by
  constructor
  · rintro ⟨⟨⟨day, second, accountDay, low, high⟩, accounts⟩, short, long, phase⟩
    exact ⟨⟨day, second, accountDay, low, high, short, long, phase⟩, accounts⟩
  · rintro ⟨⟨day, second, accountDay, low, high, short, long, phase⟩, accounts⟩
    exact ⟨⟨⟨day, second, accountDay, low, high⟩, accounts⟩, short, long, phase⟩

/-! ### Each act on an account -/

section Account

variable {a : Account} {u : MeteringUnit} {p : Slot} {l : PassList}

theorem chargeAccount_sound (sound : accountSound a) : accountSound (chargeAccount u p a) := sound

theorem overrunAccount_sound (sound : accountSound a) : accountSound (overrunAccount u p a) :=
  ⟨sound.1, Nat.min_le_right _ _, sound.2.2⟩

theorem warnAccount_sound (sound : accountSound a) : accountSound (warnAccount u p a).1 := by
  unfold warnAccount
  split
  · exact sound
  · exact sound

theorem reassess_sound (sound : accountSound a) (k : DayKind) (n : Nat) (w : Bool) :
    accountSound (reassess p k n w a).1 := by
  rw [reassess_fst]
  exact sound

theorem reassessFrom_sound (before : MeteringUnit) (sound : accountSound a) : accountSound (reassessFrom before u p a).1 := by
  unfold reassessFrom
  split
  · exact reassess_sound sound _ _ _
  · exact reassess_sound sound _ _ _

theorem evaluateAccount_sound (sound : accountSound a) : accountSound (evaluateAccount l u p a).1 := sound

theorem warnAccountCurfew_sound (sound : accountSound a) : accountSound (warnAccountCurfew l u p a).1 := by
  unfold warnAccountCurfew
  split
  · obtain ⟨bonus, overrun, flags⟩ := sound
    refine ⟨bonus, overrun, ?_⟩
    simp only [List.length_zipWith, flags, Nat.min_self]
  · exact sound

theorem emptied_sound (sound : accountSound a) : accountSound (emptied a) :=
  ⟨Nat.zero_le _, Nat.zero_le _, (List.length_map _).trans sound.2.2⟩

theorem freshAccount_sound (k : ChildPart) : accountSound (freshAccount k) :=
  ⟨Nat.zero_le _, Nat.zero_le _, List.length_map _⟩

/-- R34: every window of the new terms has a flag. -/
theorem keptFlags_length (ws : List CurfewWindow) (fs : List Bool) (xs : List CurfewWindow) :
    (keptFlags ws fs xs).length = xs.length := by
  induction ws generalizing fs xs with
  | nil => cases fs <;> exact List.length_map _
  | cons w ws ih =>
    cases fs with
    | nil => exact List.length_map _
    | cons f fs =>
      cases xs with
      | nil => rfl
      | cons x xs => exact congrArg (· + 1) (ih fs xs)

theorem keptAccount_sound (sound : accountSound a) (k : ChildPart) : accountSound (keptAccount k a) :=
  ⟨Nat.min_le_right _ _, sound.2.1, keptFlags_length _ _ _⟩

theorem bonus_sound (sound : accountSound a) (minutes : Nat) :
    accountSound { a with bonus := a.bonus + bonusGrant a minutes } := by
  obtain ⟨bonus, overrun, flags⟩ := sound
  refine ⟨?_, overrun, flags⟩
  have capped : bonusGrant a minutes ≤ a.terms.bonusCap * 60 - a.bonus := Nat.min_le_right _ _
  show a.bonus + bonusGrant a minutes ≤ a.terms.bonusCap * 60
  omega

/-- R182, R183: an account of a valid image. -/
theorem accountLoaded_sound {q : Profile} {x : Option StoredAccount} (valid : accountValid q x = true)
    (loaded : accountLoaded q x = some a) : accountSound a := by
  unfold accountLoaded at loaded
  split at loaded
  next k b child =>
    cases loaded
    simp only [accountValid, child, decide_eq_true_eq] at valid
    obtain ⟨bonus, -, overrun, flags⟩ := valid
    exact ⟨bonus, overrun, flags⟩
  next => cases loaded

end Account

/-! ### Each act on the unit -/

/-- The unit of an act is sound. -/
def Metered.sound (m : Metered) : Prop := m.unit.sound

theorem Metered.sound_mk {u : MeteringUnit} (sound : u.sound) (ms : List Instr) : Metered.sound ⟨u, ms⟩ := sound

theorem Metered.sound.unit {m : Metered} (sound : m.sound) : m.unit.sound := sound

section Unit

variable {u v : MeteringUnit} {l : PassList}

/-- Another plan, override, kind of yesterday, weekday or run of the clock. -/
theorem MeteringUnit.sound_congr (sound : u.sound) (day : v.day = u.day) (second : v.second = u.second)
    (accountDay : v.accountDay = u.accountDay) (trim : v.trim = u.trim) (accounts : v.accounts = u.accounts) : v.sound := by
  obtain ⟨clock, each⟩ := sound
  exact ⟨by rwa [day, second, accountDay, trim], by rwa [accounts]⟩

theorem MeteringUnit.sound_put (sound : u.sound) (p : Slot) {x : Option Account} (new : ∀ a, x = some a → accountSound a) :
    ({ u with accounts := put u.accounts p x } : MeteringUnit).sound := by
  obtain ⟨clock, each⟩ := sound
  refine ⟨clock, fun q a held => ?_⟩
  have cell := put_get u.accounts p q x
  rw [show (put u.accounts p x)[q] = some a from held] at cell
  split at cell
  · exact new a cell.symm
  · exact each q a cell.symm

/-- An act on single accounts that keeps each of them. -/
theorem MeteringUnit.perAccount_sound {f : MeteringUnit → Slot → Account → Account × List Instr}
    (each : ∀ v p a, accountSound a → accountSound (f v p a).1) (sound : u.sound) (ps : List Slot) :
    (u.perAccount ps f).sound := by
  unfold MeteringUnit.perAccount
  suffices all : ∀ m : Metered, m.sound → (ps.foldl (fun m p =>
      match m.unit.accounts[p] with
      | none => m
      | some a =>
        let r := f m.unit p a
        { unit := { m.unit with accounts := put m.unit.accounts p (some r.1) }, sent := m.sent ++ r.2 }) m).sound from
    all _ sound
  induction ps with
  | nil => exact fun m held => held
  | cons p ps ih =>
    intro m held
    rw [List.foldl_cons]
    refine ih _ ?_
    cases account : m.unit.accounts[p] with
    | none => exact held
    | some a =>
      refine MeteringUnit.sound_put held.unit p fun b same => ?_
      cases same
      exact each _ _ _ (held.2 p a account)

theorem MeteringUnit.mapAccounts_sound {f : MeteringUnit → Slot → Account → Account}
    (each : ∀ v p a, accountSound a → accountSound (f v p a)) (sound : u.sound) : (u.mapAccounts f).sound := by
  unfold MeteringUnit.mapAccounts
  exact (MeteringUnit.perAccount_sound (f := fun v p a => (f v p a, [])) each sound slots).unit

theorem reassessAll_sound (before : MeteringUnit) (sound : u.sound) : (reassessAll before u).sound := by
  rw [reassessAll_eq]
  exact MeteringUnit.perAccount_sound (fun _ _ _ h => reassessFrom_sound before h) sound slots

theorem evaluateCurfew_sound (sound : u.sound) (ps : List Slot) : (evaluateCurfew l ps u).sound := by
  unfold evaluateCurfew
  split
  · exact MeteringUnit.perAccount_sound (fun _ _ _ h => evaluateAccount_sound h) sound ps
  · exact sound

theorem dayKindChange_sound (before : MeteringUnit) (sound : u.sound) : (dayKindChange l before u).sound := by
  unfold dayKindChange
  dsimp only
  split
  · exact sound
  · exact Metered.sound_mk (evaluateCurfew_sound (reassessAll_sound before sound).unit slots).unit _

theorem MeteringUnit.startDay_sound (sound : u.sound) {day : Nat} (range : day < 65536) : (u.startDay day).sound := by
  obtain ⟨⟨d, second, -, trim⟩, each⟩ := sound
  refine MeteringUnit.mapAccounts_sound (fun _ _ _ h => emptied_sound h) ?_
  exact ⟨⟨d, second, range, trim⟩, each⟩

theorem rolloverAtTick_sound (sound : u.sound) : (rolloverAtTick u).sound := by
  obtain ⟨⟨-, -, accountDay, trim⟩, each⟩ := sound
  have range : (u.day + 1) % cycleDays < 65536 := Nat.mod_lt _ (by decide)
  have moved : MeteringUnit.sound { u with
      day := (u.day + 1) % cycleDays, weekday := u.weekday + 1, second := 0, yesterday := u.today, override := none } :=
    ⟨⟨range, Nat.zero_lt_succ _, accountDay, trim⟩, each⟩
  unfold rolloverAtTick
  dsimp only
  exact Metered.sound_mk (reassessAll_sound u (MeteringUnit.startDay_sound moved range)).unit _

theorem advance_sound (sound : u.sound) : (advance u).sound := by
  unfold advance
  split
  · exact rolloverAtTick_sound sound
  next early =>
    obtain ⟨⟨day, second, rest⟩, each⟩ := sound
    exact ⟨⟨day, by simp only; omega, rest⟩, each⟩

theorem tickAccounts_sound (sound : u.sound) : (tickAccounts u).sound := by
  have charged := MeteringUnit.mapAccounts_sound (f := chargeAccount) (fun _ _ _ h => chargeAccount_sound h) sound
  have overrun := MeteringUnit.mapAccounts_sound (f := overrunAccount) (fun _ _ _ h => overrunAccount_sound h) charged
  unfold tickAccounts
  dsimp only
  exact Metered.sound_mk (MeteringUnit.perAccount_sound (fun _ _ _ h => warnAccount_sound h) overrun slots).unit _

theorem giveCurfewWarnings_sound (sound : u.sound) : (giveCurfewWarnings l u).sound := by
  unfold giveCurfewWarnings
  exact MeteringUnit.perAccount_sound (fun _ _ _ h => warnAccountCurfew_sound h) sound slots

theorem minuteWork_sound (sound : u.sound) : (minuteWork l u).sound := by
  unfold minuteWork
  dsimp only
  exact Metered.sound_mk (giveCurfewWarnings_sound (evaluateCurfew_sound sound slots).unit).unit _

theorem tickUnit_sound (sound : u.sound) : (tickUnit l u).sound := by
  have ticked := tickAccounts_sound (advance_sound sound).unit
  unfold tickUnit
  dsimp only
  by_cases boundary : (tickAccounts (advance u).unit).unit.second % 60 = 0
  · rw [if_pos boundary]
    exact Metered.sound_mk (minuteWork_sound (l := l) ticked.unit).unit _
  · rw [if_neg boundary]
    dsimp only
    exact Metered.sound_mk ticked.unit _

theorem setDay_sound (sound : u.sound) {day second : Nat} (dayRange : day < 65536) (secondRange : second < 86400)
    (weekday : Fin 7) : (setDay u day second weekday).sound := by
  obtain ⟨⟨-, -, accountDay, trim⟩, each⟩ := sound
  have placed : ∀ (override : Option DayKind) (yesterday : DayKind), MeteringUnit.sound { u with
      day := day, second := second, weekday := weekday, override := override, yesterday := yesterday } :=
    fun _ _ => ⟨⟨dayRange, secondRange, accountDay, trim⟩, each⟩
  unfold setDay
  dsimp only
  split
  · exact placed _ _
  · split
    · exact MeteringUnit.startDay_sound (placed _ _) dayRange
    · exact placed _ _

theorem MeteringUnit.running_sound (sound : u.sound) (running : Bool) :
    MeteringUnit.sound { u with running := running } := sound

theorem setUnit_sound (sound : u.sound) {day second : Nat} (dayRange : day < 65536) (secondRange : second < 86400)
    (weekday : Fin 7) : (setUnit l u day second weekday).sound := by
  have moved := (reassessAll_sound u (setDay_sound sound dayRange secondRange weekday)).unit
  unfold setUnit
  dsimp only
  exact Metered.sound_mk (minuteWork_sound (MeteringUnit.running_sound moved true)).unit _

theorem takenAccount_sound (sound : u.sound) (table : Vector Profile 8) (p : Slot) {a : Account}
    (taken : (takenAccount l table u p).1 = some a) : accountSound a := by
  unfold takenAccount at taken
  split at taken
  · cases taken
  next k _ =>
    have reassessed : accountSound (match u.accounts[p] with
        | none => reassess p u.today 0 false (freshAccount k)
        | some a => reassess p u.today (a.remaining u.today) a.warned (keptAccount k a)).1 := by
      split
      · exact reassess_sound (freshAccount_sound k) _ _ _
      next b held => exact reassess_sound (keptAccount_sound (sound.2 p b held) k) _ _ _
    dsimp only at taken
    split at taken
    · cases taken
      exact evaluateAccount_sound reassessed
    · cases taken
      exact reassessed

theorem takeProfiles_sound (sound : u.sound) (table : Vector Profile 8) (ps : List Slot) :
    (takeProfiles l table ps u).sound := by
  unfold takeProfiles
  suffices all : ∀ m : Metered, m.sound → (ps.foldl (fun m p =>
      let r := takeProfile l table m.unit p
      { unit := r.unit, sent := m.sent ++ r.sent }) m).sound from all _ sound
  induction ps with
  | nil => exact fun m held => held
  | cons p ps ih =>
    intro m held
    rw [List.foldl_cons]
    refine ih _ ?_
    simp only [takeProfile_spec]
    exact MeteringUnit.sound_put held.unit p fun a taken => takenAccount_sound held table p taken

theorem MeteringUnit.loadBegins_sound (sound : u.sound) : u.loadBegins.sound :=
  MeteringUnit.sound_congr sound rfl rfl rfl rfl rfl

theorem MeteringUnit.softLoadBegins_sound (sound : u.sound) : u.softLoadBegins.sound := by
  unfold MeteringUnit.softLoadBegins loadDayKindChange
  exact (dayKindChange_sound u (MeteringUnit.loadBegins_sound sound)).unit

theorem MeteringUnit.curfewsOut_sound (sound : u.sound) : u.curfewsOut.sound := by
  obtain ⟨clock, each⟩ := sound
  refine ⟨clock, fun p a held => ?_⟩
  obtain ⟨b, before, rfl⟩ : ∃ b, u.accounts[p] = some b ∧ { b with curfew := .outside } = a := by
    simpa [MeteringUnit.curfewsOut, Option.map_eq_some_iff] using held
  exact each p b before

theorem MeteringUnit.hardLoadBegins_sound (sound : u.sound) : u.hardLoadBegins.sound := by
  obtain ⟨⟨day, -, accountDay, -⟩, each⟩ := sound
  unfold MeteringUnit.hardLoadBegins loadDayKindChange
  refine MeteringUnit.curfewsOut_sound (Metered.sound.unit (dayKindChange_sound u ?_))
  exact ⟨⟨day, Nat.zero_lt_succ _, accountDay, (by decide : (-128 : Int) ≤ 0 ∧ (0 : Int) ≤ 127)⟩, each⟩

theorem MeteringUnit.loaded_sound (sound : u.sound) {c : Content} (valid : contentValid c = true) (hard : Bool) :
    (u.loaded c hard).sound := by
  obtain ⟨⟨day, second, -, trim⟩, -⟩ := sound
  unfold contentValid at valid
  simp only [Bool.and_eq_true, decide_eq_true_eq, List.all_eq_true] at valid
  obtain ⟨⟨⟨⟨-, -, -, -, accountDay⟩, -⟩, accounts⟩, -⟩ := valid
  refine ⟨⟨?_, second, accountDay, trim⟩, fun p a held => ?_⟩
  · cases hard
    · exact day
    · exact accountDay
  · refine accountLoaded_sound (accounts p (mem_slots p)) ?_
    simpa [MeteringUnit.loaded] using held

theorem MeteringUnit.rolledOver_sound (sound : u.sound) (unsaved : Bool) : (u.rolledOver unsaved).sound := by
  unfold MeteringUnit.rolledOver
  split
  · exact MeteringUnit.startDay_sound sound sound.1.1
  · exact sound

theorem MeteringUnit.reassessed_sound (sound : u.sound) : u.reassessed.sound := by
  unfold MeteringUnit.reassessed
  exact (reassessAll_sound u sound).unit

theorem MeteringUnit.curfewsSet_sound (sound : u.sound) (l : PassList) : (u.curfewsSet l).sound := by
  unfold MeteringUnit.curfewsSet
  exact (evaluateCurfew_sound sound slots).unit

end Unit

/-! ### The steps -/

section Steps

variable {s t : State}

theorem State.timeSound_place (r : Role) (u : State) (a : Answer) (sound : u.timeSound) : (u.place r a).timeSound := sound

theorem State.metered_timeSound {m : Metered} (ref : s.ref.sound) (sound : m.sound) (time : Bool) :
    (s.metered m time).timeSound := by
  rw [State.metered, State.raiseIf_eq]
  exact ⟨sound, ref⟩

theorem State.markDirtyIf_timeSound (sound : s.timeSound) (c : Bool) (b : Block) : (s.markDirtyIf c b).timeSound := by
  rw [State.markDirtyIf_eq]
  exact sound

theorem State.sendAll_timeSound (sound : s.timeSound) (ms : List Instr) : (s.sendAll ms).timeSound := sound

theorem State.referenceSecond_timeSound (sound : s.timeSound) : s.referenceSecond.timeSound := by
  obtain ⟨unit, -⟩ := sound
  obtain ⟨⟨-, -, -, low, high⟩, -⟩ := id unit
  refine ⟨unit, ?_, ?_, ?_⟩
  · show 32640 ≤ (32768 + s.metering.trim).toNat
    omega
  · show (32768 + s.metering.trim).toNat ≤ 32895
    omega
  · show 0 < (32768 + s.metering.trim).toNat
    omega

theorem State.takeTick_timeSound (sound : s.timeSound) : s.takeTick.timeSound := by
  have acted : (s.metered (tickUnit s.passes s.metering) false).timeSound :=
    State.metered_timeSound sound.2 (tickUnit_sound sound.1) false
  unfold State.takeTick
  simp only [State.send_eq]
  split_ifs
  all_goals simp only [State.sendAll_sendAll, State.sendAll_timeSound, acted]

theorem State.acceptSet_timeSound (sound : s.timeSound) {day second : Nat} (dayRange : day < 65536)
    (secondRange : second < 86400) (weekday : Fin 7) : (s.acceptSet day second weekday).timeSound := by
  have unit := setUnit_sound (l := s.passes) sound.1 dayRange secondRange weekday
  unfold State.acceptSet
  dsimp only
  split
  · rw [State.send_eq]
    exact State.sendAll_timeSound (State.metered_timeSound sound.2 (Metered.sound_mk unit.unit _) true) _
  · exact State.markDirtyIf_timeSound (State.metered_timeSound sound.2 (Metered.sound_mk unit.unit _) true) _ _

theorem setClockInRange_timeSound (sound : s.timeSound) (time : RawTime) (weekday : Byte) :
    (setClockInRange time weekday s).1.timeSound := by
  unfold setClockInRange
  split
  · split
    next inRange => exact State.acceptSet_timeSound sound time.day.isLt inRange _
    next => exact sound
  · exact sound

theorem State.acceptBonus_timeSound (sound : s.timeSound) {p : Slot} {a : Account} (held : s.metering.accounts[p] = some a)
    (minutes : Nat) : (s.acceptBonus p a (bonusGrant a minutes)).1.timeSound := by
  have granted := reassess_sound (p := p) (bonus_sound (sound.1.2 p a held) minutes) s.metering.today
    (a.remaining s.metering.today) a.warned
  have unit := MeteringUnit.sound_put sound.1 p (x := some _) fun b same => Option.some.inj same ▸ granted
  unfold State.acceptBonus
  dsimp only
  rw [State.markDirty_eq]
  exact State.sendAll_timeSound (State.metered_timeSound sound.2 (Metered.sound_mk unit _) true) _

theorem State.changeDayKind_timeSound {after : MeteringUnit} (ref : s.ref.sound) (sound : after.sound) :
    (s.changeDayKind after).timeSound := State.metered_timeSound ref (dayKindChange_sound s.metering sound) true

theorem State.acceptOverride_timeSound (sound : s.timeSound) (k : Option DayKind) : (s.acceptOverride k).1.timeSound := by
  refine State.markDirtyIf_timeSound (State.changeDayKind_timeSound sound.2 ?_) _ _
  exact MeteringUnit.sound_congr sound.1 rfl rfl rfl rfl rfl

theorem exec_keeps_timeSound {c : Instr} (own : changedBlocks c = [.metering]) (sound : s.timeSound)
    (next : exec c s = .next t) : t.timeSound := by
  cases c <;> simp [changedBlocks, everyBlock] at own <;> unfold exec at next
  case setClock r time weekday =>
    refine request_keeps (State.timeSound_place r) sound ?_ next
    have set := setClockInRange_timeSound sound time weekday
    split
    · exact underAuthority_keeps (P := State.timeSound) sound fun _ => set
    · exact set
  case setTrim r trim =>
    refine request_keeps (State.timeSound_place r) sound ?_ next
    split
    next inRange =>
      obtain ⟨⟨⟨day, second, accountDay, -⟩, each⟩, ref⟩ := sound
      exact ⟨⟨⟨day, second, accountDay, inRange⟩, each⟩, ref⟩
    next => exact sound
  case grantBonus r slot minutes =>
    refine request_keeps (State.timeSound_place r) sound ?_ next
    refine underAuthority_keeps (P := State.timeSound) sound fun _ => ?_
    split
    · exact sound
    · split
      · split
        · exact sound
        next a held =>
          split
          · exact State.acceptBonus_timeSound sound held _
          · exact sound
      · exact sound
  case setWeekPlan r kinds =>
    refine request_keeps (State.timeSound_place r) sound ?_ next
    refine underAuthority_keeps (P := State.timeSound) sound fun _ => ?_
    split
    · exact sound
    next ks _ =>
      have planned : ({ s.metering with plan := planOf s.metering.plan ks } : MeteringUnit).sound :=
        MeteringUnit.sound_congr sound.1 rfl rfl rfl rfl rfl
      rw [State.markDirty_eq]
      exact State.sendAll_timeSound (State.changeDayKind_timeSound sound.2 planned) _
  case setTodayKind r kind =>
    refine request_keeps (State.timeSound_place r) sound ?_ next
    refine underAuthority_keeps (P := State.timeSound) sound fun _ => ?_
    split
    · exact State.acceptOverride_timeSound sound none
    · split
      · exact State.acceptOverride_timeSound sound _
      · exact sound
  case profileChangedMetering which =>
    refine message_keeps (P := State.timeSound) (fun _ => sound) sound (fun u h => ?_) next
    exact State.markDirtyIf_timeSound (State.metered_timeSound h.2 (takeProfiles_sound h.1 _ _) false) _ _
  case charge n p kind =>
    refine message_keeps (P := State.timeSound) (fun _ => sound) sound (fun u h => ?_) next
    exact ⟨MeteringUnit.sound_congr h.1 rfl rfl rfl rfl rfl, h.2⟩
  case curfewPassChange id p =>
    refine message_keeps (P := State.timeSound) (fun _ => sound) sound (fun u h => ?_) next
    exact State.metered_timeSound h.2 (evaluateCurfew_sound h.1 [p]) false

theorem State.loadEnds_metering (s : State) (c : Content) (lost : Bool) (pins : BitVec 4) :
    (s.loadEnds c lost pins).metering =
      (((s.metering.loaded c s.store.hardLoad).rolledOver s.store.rolloverUnsaved).reassessed).curfewsSet s.passes := by
  rw [State.loadEnds, State.raiseIf_eq]
  dsimp only
  rw [State.sendAll_metering, State.withPort_metering, State.withStore_metering, State.withScreens_metering,
    State.withSignal_metering, State.withMetering_metering]

theorem State.loadEnds_ref (s : State) (c : Content) (lost : Bool) (pins : BitVec 4) :
    (s.loadEnds c lost pins).ref = s.ref := by
  simp [State.loadEnds, State.raiseIf_eq]

theorem State.loadEnds_timeSound (sound : s.timeSound) {c : Content} (valid : contentValid c = true) (lost : Bool)
    (pins : BitVec 4) : (s.loadEnds c lost pins).timeSound := by
  refine ⟨?_, ?_⟩
  · rw [State.loadEnds_metering]
    exact MeteringUnit.curfewsSet_sound (MeteringUnit.reassessed_sound (MeteringUnit.rolledOver_sound
      (MeteringUnit.loaded_sound sound.1 valid _) _)) _
  · rw [State.loadEnds_ref]
    exact sound.2

theorem State.softLoadBegins_clock (s : State) (straps : BitVec 2) :
    (s.softLoadBegins straps).metering = s.metering.softLoadBegins ∧ (s.softLoadBegins straps).ref = s.ref := by
  simp [State.softLoadBegins, State.loadBegins]

theorem State.hardLoadBegins_clock (s : State) (base : Nat) :
    (s.hardLoadBegins base).metering = s.metering.hardLoadBegins ∧
    (s.hardLoadBegins base).ref = { phase := 0, length := 32768, ticksDue := 0 } := by
  simp [State.hardLoadBegins, State.loadBegins]

theorem State.softLoadBegins_timeSound (sound : s.timeSound) (straps : BitVec 2) : (s.softLoadBegins straps).timeSound := by
  obtain ⟨metering, ref⟩ := s.softLoadBegins_clock straps
  rw [State.timeSound, metering, ref]
  exact ⟨MeteringUnit.softLoadBegins_sound sound.1, sound.2⟩

theorem State.hardLoadBegins_timeSound (sound : s.timeSound) (base : Nat) : (s.hardLoadBegins base).timeSound := by
  obtain ⟨metering, ref⟩ := s.hardLoadBegins_clock base
  rw [State.timeSound, metering, ref]
  exact ⟨MeteringUnit.hardLoadBegins_sound sound.1, by decide, by decide, by decide⟩

theorem State.withPower_timeSound (sound : s.timeSound) (power : Bool) : (s.withPower power).timeSound := sound

theorem State.withResetHeld_timeSound (sound : s.timeSound) (held : Bool) : (s.withResetHeld held).timeSound := sound

theorem State.readsImage_timeSound (sound : s.timeSound) : s.readsImage.timeSound := by
  unfold State.readsImage
  split
  · exact sound
  · exact sound

theorem State.tickFallsDue_timeSound (sound : s.timeSound) : s.tickFallsDue.timeSound := sound

theorem State.period_timeSound (sound : s.timeSound) : s.period.timeSound := by
  unfold State.period
  split_ifs with awake early
  · exact ⟨sound.1, sound.2.1, sound.2.2.1, early⟩
  · exact State.tickFallsDue_timeSound (State.referenceSecond_timeSound sound)
  · exact sound

theorem step_keeps_timeSound (sound : s.timeSound) (stepped : step s = .next t) : t.timeSound := by
  refine step_keeps (bs := [.metering]) ?_ (fun _ h => State.period_timeSound h) ?_ sound stepped
  · intro s t same sound
    obtain ⟨metering, ref⟩ : t.metering = s.metering ∧ t.ref = s.ref := same .metering (by simp)
    exact ⟨by rw [metering]; exact sound.1, by rw [ref]; exact sound.2⟩
  intro c s t touched sound next
  by_cases own : changedBlocks c = [.metering]
  · exact exec_keeps_timeSound own sound next
  cases c <;> simp [changedBlocks, everyBlock] at touched own <;> unfold exec at next
  case secondTick =>
    refine occasion_keeps sound (fun _ => ?_) next
    dsimp only
    split_ifs
    · exact State.takeTick_timeSound (s := s.withRef { s.ref with ticksDue := s.ref.ticksDue - 1 }) sound
    · exact State.takeTick_timeSound (State.referenceSecond_timeSound sound)
    · exact State.referenceSecond_timeSound sound
  case loadEnd pins =>
    refine occasion_keeps sound (fun _ => ?_) next
    exact State.loadEnds_timeSound (State.readsImage_timeSound sound) (judged_valid _) _ _
  case loadBegin straps =>
    refine occasion_keeps sound (fun _ => ?_) next
    exact State.softLoadBegins_timeSound sound _
  case resetNRelease straps =>
    refine occasion_keeps sound (fun _ => ?_) next
    exact State.withResetHeld_timeSound (State.hardLoadBegins_timeSound sound _) false
  case resetNAssert => cases next; exact State.withResetHeld_timeSound (State.hardLoadBegins_timeSound sound _) true
  case powerOn straps => cases next; exact State.withPower_timeSound (State.hardLoadBegins_timeSound sound _) true
  case powerLoss => cases next; exact State.withPower_timeSound (State.hardLoadBegins_timeSound sound _) false

end Steps

/-- Settles O54. -/
theorem everyStepKeepsTheClockAndAccountsSound : Obligations.EveryStepKeepsTheClockAndAccountsSound :=
  fun s t clock accounts stepped =>
    t.timeSound_iff.mp (step_keeps_timeSound (s.timeSound_iff.mpr ⟨clock, accounts⟩) stepped)

end Sys2Proof.Machine
end

section
/-! PROOFS. The machine right after reset, and the passing of a reference period. The theorems settle O2 and O60. -/

namespace Sys2Proof.Machine

/-! ### Right after reset -/

theorem State.reset_dark (n : ScreenNo) : State.reset.screens.cells[n].state = .dark ∧ State.reset.screens.cells[n].seat = 0 := by
  revert n
  decide

theorem State.reset_port : State.reset.port = .silenced 0x30 := rfl

theorem State.reset_seatingSound : State.reset.seatingSound := by
  have table : State.reset.tableSound := tableValid_of_contentValid (contentValid_factory (day := 0) (by decide))
  refine ⟨table, (State.portSound_iff _).mpr ?_, fun _ => State.reset_dark, State.seatsSound_of_unseated table State.reset_dark⟩
  rw [State.reset_port]
  exact ⟨ManagementPort.silenced_framed _, fun _ => ⟨rfl, fun r i handed => by cases r <;> cases handed⟩⟩

theorem State.reset_accountsSound : State.reset.accountsSound := by
  intro p a held
  have zero : State.reset.metering.accounts[p] = if 0 = p then some _ else (Vector.replicate 8 none)[p] := put_get _ _ _ _
  rw [zero] at held
  split at held
  · cases held
    exact ⟨Nat.zero_le _, Nat.zero_le _, rfl⟩
  · simp at held

theorem State.reset_cacheSound : State.reset.cacheSound := by
  refine ⟨by decide, fun i j a b held _ _ => ?_⟩
  have empty : State.reset.cache.directory[i] = none := Vector.getElem_replicate _
  rw [empty] at held
  cases held

theorem State.reset_noticesSound : State.reset.noticesSound := by
  intro r holds
  exact absurd (PerRole.get_same 0 r) holds

theorem State.reset_storeSound : State.reset.storeSound := by
  refine ⟨by decide, by decide, fun _ => rfl, fun d writing => ?_, fun i image => ?_⟩
  · cases writing
  · cases image

/-- Settles O60, each invariant by itself. -/
theorem resetMeetsEveryInvariant : Obligations.ResetMeetsEveryInvariant := by
  refine ⟨State.reset_seatingSound, ?lockouts, ?clock, State.reset_accountsSound, ?screens, ?passes, ?receiver, ?counts,
    State.reset_cacheSound, ?ports, State.reset_noticesSound, State.reset_storeSound⟩
  case lockouts => unfold State.lockoutsSound; decide
  case clock => unfold State.clockSound; decide
  case screens => unfold State.screensSound screenSound; decide
  case passes => unfold State.passesSound; decide
  case receiver => unfold State.receiverSound; decide
  case counts => unfold State.linkCountsSound; decide
  case ports =>
    rw [State.portCountsSound_iff, State.reset_port]
    exact ManagementPort.silenced_counted _

/-! ### A period of the reference (R28) -/

section Period

variable {s : State}

theorem step_of_empty (empty : s.pending = []) : step s = .next s.period := by
  unfold step
  rw [empty]

theorem State.period_of_asleep (asleep : s.awake = false) : s.period = s := by
  rw [State.period, asleep, if_neg Bool.false_ne_true]

theorem State.period_within (awake : s.awake = true) (within : s.ref.phase + 1 < s.ref.length) :
    s.period = s.withRef { s.ref with phase := s.ref.phase + 1 } := by
  rw [State.period, if_pos awake, if_pos within]

theorem State.period_ends (awake : s.awake = true) (ends : s.ref.length ≤ s.ref.phase + 1) :
    s.period = s.referenceSecond.tickFallsDue := by
  rw [State.period, if_pos awake, if_neg (Nat.not_lt.mpr ends)]

theorem ProfileUnit.timersFall_lockouts (u : ProfileUnit) (p : Slot) :
    u.timersFall.lockouts[p] = u.lockouts[p].map (· - 1) := by
  have cell := foldPut_get (fun (_ : Slot) (t : Option Nat) => timerFalls t) slots slots_nodup u.lockouts p
  rw [if_pos (mem_slots p)] at cell
  exact cell

theorem ProfileUnit.timersFall_windows (u : ProfileUnit) (r : Role) :
    u.timersFall.windows.get r = (u.windows.get r).map fun w => { w with seconds := w.seconds - 1 } := by
  cases r <;> rfl

theorem State.secondEnds_eq (s : State) : s.referenceSecond.tickFallsDue =
    (((s.withProfiles s.profiles.timersFall).withScreens s.screens.timersFall).withStore { s.store with
        settle := s.store.settle.map (· - 1), snapshotTimer := s.store.snapshotTimer.map (· - 1) }).withRef {
      phase := 0, length := (32768 + s.metering.trim).toNat
      ticksDue := s.ref.ticksDue + if s.metering.running then 1 else 0 } := by
  have due : (if s.metering.running then s.ref.ticksDue + 1 else s.ref.ticksDue) =
      s.ref.ticksDue + if s.metering.running then 1 else 0 := by
    split <;> rfl
  rw [← due]
  rfl

/-- Settles O2: asleep, within a second, at its end. -/
theorem emptyQueuePassesAPeriod : Obligations.EmptyQueuePassesAPeriod := by
  intro s empty
  rw [step_of_empty empty]
  refine ⟨fun asleep => ?_, fun awake within => ?_, fun awake ends => ?_⟩
  · rw [State.period_of_asleep asleep]
  · rw [State.period_within awake within]
  · refine ⟨s.profiles.timersFall, s.screens.timersFall, ?_, rfl, rfl, rfl, rfl, s.profiles.timersFall_lockouts,
      s.profiles.timersFall_windows, rfl, rfl, s.screens.timersFall_cell⟩
    rw [State.period_ends awake ends, State.secondEnds_eq]

end Period

end Sys2Proof.Machine
end

section
/-! PROOFS. Grants and removals of passes (04 R89 to R99). The theorems settle O32 and O33. -/

namespace Sys2Proof.Machine

/-! ### Expiries around the present (R90) -/

theorem halfSeconds_eq : halfSeconds = 2831155200 := by decide

theorem cycleSeconds_eq : cycleSeconds = 5662310400 := by decide

section Keys

variable {now e : SecondTime}

/-- A reached expiry stands before every expiry that lies ahead. -/
theorem expiryKey_of_reached (reached : secondsAhead e now < halfSeconds) : expiryKey now e < halfSeconds := by
  unfold expiryKey secondsAhead at *
  rw [halfSeconds_eq, cycleSeconds_eq] at *
  omega

/-- Expiries that lie ahead are ordered by their distance. -/
theorem expiryKey_of_ahead (ahead : halfSeconds ≤ secondsAhead e now) :
    expiryKey now e = secondsAhead now e + (halfSeconds - 1) ∧ halfSeconds ≤ expiryKey now e := by
  unfold expiryKey secondsAhead at *
  rw [halfSeconds_eq, cycleSeconds_eq] at *
  omega

end Keys

theorem expiryReached_eq_false {now : SecondTime} {p : Pass} :
    expiryReached now p = false ↔ halfSeconds ≤ secondsAhead p.expiry now := by
  simp [expiryReached]

/-! ### Where a pass is entered (R94) -/

/-- A pass is entered after the last held pass whose expiry is not later. -/
theorem insertPass_split (now : SecondTime) (x : Pass) (l : List Pass) :
    ∃ sooner later : List Pass, l = sooner ++ later ∧ insertPass now x l = sooner ++ x :: later ∧
      (∀ q ∈ later, expiryKey now x.expiry < expiryKey now q.expiry) ∧
      (∀ q : Pass, sooner.getLast? = some q → expiryKey now q.expiry ≤ expiryKey now x.expiry) := by
  induction l with
  | nil => exact ⟨[], [], rfl, rfl, by simp, by simp⟩
  | cons y ys ih =>
    unfold insertPass
    split
    next sooner =>
      obtain ⟨before, after, split, entered, later, last⟩ := ih
      refine ⟨y :: before, after, by rw [split]; rfl, by rw [entered]; rfl, later, fun q isLast => ?_⟩
      cases before with
      | nil =>
        cases isLast
        simp only [List.any_cons, Bool.or_eq_true, decide_eq_true_eq, List.any_eq_true] at sooner
        rcases sooner with here | ⟨z, inside, early⟩
        · exact here
        · rw [split] at inside
          exact absurd early (Nat.not_le.mpr (later z inside))
      | cons b bs => exact last q (by rwa [List.getLast?_cons_cons] at isLast)
    next none =>
      refine ⟨[], y :: ys, rfl, rfl, fun q inside => ?_, by simp⟩
      simp only [List.any_eq_true, decide_eq_true_eq, not_exists, not_and, Nat.not_le] at none
      exact none q inside

/-- R89: entering a pass keeps the list in expiry order. -/
theorem insertPass_inExpiryOrder {now : SecondTime} {x : Pass} {l : List Pass} (order : inExpiryOrder now l) :
    inExpiryOrder now (insertPass now x l) := by
  induction l with
  | nil => exact List.pairwise_singleton _ _
  | cons y ys ih =>
    obtain ⟨first, rest⟩ := List.pairwise_cons.mp order
    unfold insertPass
    split
    next sooner =>
      refine List.pairwise_cons.mpr ⟨fun q inside => ?_, ih rest⟩
      rcases mem_insertPass.mp inside with rfl | old
      · simp only [List.any_cons, Bool.or_eq_true, decide_eq_true_eq, List.any_eq_true] at sooner
        rcases sooner with here | ⟨z, later, early⟩
        · exact here
        · exact (first z later).trans early
      · exact first q old
    next none =>
      refine List.pairwise_cons.mpr ⟨fun q inside => ?_, order⟩
      simp only [List.any_eq_true, decide_eq_true_eq, not_exists, not_and, Nat.not_le] at none
      exact (none q inside).le

/-! ### Entering and replacing (R94, R89) -/

section Enter

variable {s : State} {scope : PassScope} {expiry : SecondTime} {granter : Option Slot}

theorem enterPass_replaces {old : Pass} (held : old ∈ s.passes.held) (same : old.scope = scope)
    (scopes : (s.passes.held.map fun p => p.scope).Nodup) :
    enterPass scope expiry granter s =
      ((s.withPasses { s.passes with
          held := insertPass s.now { id := old.id, scope := scope, expiry := expiry, granter := granter }
            (s.passes.held.filter fun q => q.scope ≠ scope) }).sendAll [.notice .passes .authority .every 0],
        .ok (grantBody { id := old.id, scope := scope, expiry := expiry, granter := granter } true)) := by
  have found : s.passes.held.find? (fun x => x.scope == scope) = some old := by
    cases search : s.passes.held.find? fun x => x.scope == scope with
    | none => exact absurd (List.find?_eq_none.mp search old held) (by simp [same])
    | some first =>
      have first_scope : first.scope = scope := by simpa using List.find?_some search
      rw [List.inj_on_of_nodup_map scopes (List.mem_of_find?_eq_some search) held (first_scope.trans same.symm)]
  have others : (s.passes.held.filter fun x => x.scope != scope) = s.passes.held.filter fun q => q.scope ≠ scope :=
    List.filter_congr fun q _ => by by_cases one : q.scope = scope <;> simp [one]
  unfold enterPass
  rw [found, others]
  dsimp only
  rw [State.raise_eq]

theorem find_scope_eq_none (absent : ∀ q ∈ s.passes.held, q.scope ≠ scope) :
    s.passes.held.find? (fun x => x.scope == scope) = none :=
  List.find?_eq_none.mpr fun q inside => by simpa using absent q inside

theorem enterPass_full (absent : ∀ q ∈ s.passes.held, q.scope ≠ scope) (full : 16 ≤ s.passes.held.length) :
    enterPass scope expiry granter s = (s, .bare .listFull) := by
  unfold enterPass
  rw [find_scope_eq_none absent]
  exact if_pos full

theorem enterPass_enters (absent : ∀ q ∈ s.passes.held, q.scope ≠ scope) (room : s.passes.held.length < 16) :
    enterPass scope expiry granter s =
      ((s.withPasses {
          held := insertPass s.now { id := s.passes.freeId, scope := scope, expiry := expiry, granter := granter }
            s.passes.held
          nextId := idAfter s.passes.freeId }).sendAll
          (announceAdded { id := s.passes.freeId, scope := scope, expiry := expiry, granter := granter } ++
            [.notice .passes .authority .every 0]),
        .ok (grantBody { id := s.passes.freeId, scope := scope, expiry := expiry, granter := granter } false)) := by
  have short : ¬ Config.passLimit ≤ s.passes.held.length := Nat.not_le.mpr room
  unfold enterPass
  rw [find_scope_eq_none absent]
  dsimp only
  rw [if_neg short, State.raise_eq, State.sendAll_sendAll]

end Enter

/-! ### GRANT_PASS (R91 to R93) -/

/-- R91 step 2. -/
theorem grantAsked_eq_none {kind target : Byte} {endTime : Option RawTime}
    (bad : ¬ ((kind = 0 ∧ endTime = none ∧ target.toNat < 4) ∨
      (kind = 1 ∧ target.toNat < 8 ∧ ∃ t : RawTime, endTime = some t ∧ t.second.toNat < 86400))) :
    grantAsked kind target endTime = none := by
  unfold grantAsked
  split_ifs with content curfew
  · cases endTime with
    | none =>
      have far : 4 ≤ target.toNat := Nat.not_lt.mp fun near => bad (.inl ⟨content, rfl, near⟩)
      simp only [screenOf_eq_none far, Option.map_none]
    | some t => rfl
  · split
    next t p slot =>
      refine if_neg fun inDay => bad (.inr ⟨curfew, ?_, t, rfl, inDay⟩)
      by_contra far
      rw [slotOf_eq_none (Nat.not_lt.mp far)] at slot
      cases slot
    next => rfl
  · rfl

theorem grantAsked_content {target : Byte} {m : ScreenNo} (named : target.toNat = m.val) :
    grantAsked 0 target none = some (.content m) := by
  rw [grantAsked, if_pos rfl, screenOf_eq_some named]
  rfl

theorem grantAsked_curfew {target : Byte} {t : RawTime} {p : Slot} (named : target.toNat = p.val)
    (inDay : t.second.toNat < 86400) :
    grantAsked 1 target (some t) = some (.curfew p { day := t.day.toNat, second := t.second.toNat }) := by
  rw [grantAsked, if_neg (by decide), if_pos rfl, slotOf_eq_some named]
  exact if_pos inDay

section Grant

variable {r : Role} {kind target : Byte} {endTime : Option RawTime} {opener : Option Slot} {s : State}

theorem exec_grantPass (r : Role) (kind target : Byte) (endTime : Option RawTime) (s : State) :
    exec (.grantPass r kind target endTime) s = execGrantPass r kind target endTime s := rfl

section Cases

variable (taken : s.handed r (.grantPass r kind target endTime) = true) (authority : s.authority r = some opener)
include taken authority

theorem exec_grantPass_of_illFormed (bad : grantAsked kind target endTime = none) :
    exec (.grantPass r kind target endTime) s = .next (s.place r (.bare .badValue)) := by
  rw [exec_grantPass, execGrantPass, onRequest_handed taken, underAuthority_granted authority, bad]
  rfl

theorem exec_grantPass_of_unset {asked : GrantAsked} (read : grantAsked kind target endTime = some asked)
    (unset : s.metering.running = false) :
    exec (.grantPass r kind target endTime) s = .next (s.place r (.bare .wrongState)) := by
  rw [exec_grantPass, execGrantPass, onRequest_handed taken, underAuthority_granted authority, read, unset]
  rfl

theorem exec_grantPass_of_content {m : ScreenNo} (read : grantAsked kind target endTime = some (.content m))
    (running : s.metering.running = true) : exec (.grantPass r kind target endTime) s =
      .next ((grantContent m opener s).1.place r (grantContent m opener s).2) := by
  rw [exec_grantPass, execGrantPass, onRequest_handed taken, underAuthority_granted authority, read, running]
  rfl

theorem exec_grantPass_of_curfew {p : Slot} {e : SecondTime} (read : grantAsked kind target endTime = some (.curfew p e))
    (running : s.metering.running = true) : exec (.grantPass r kind target endTime) s =
      .next ((grantCurfew p e opener s).1.place r (grantCurfew p e opener s).2) := by
  rw [exec_grantPass, execGrantPass, onRequest_handed taken, underAuthority_granted authority, read, running]
  rfl

end Cases

theorem grantContent_refused {m : ScreenNo} (resting : s.screens.cells[m].state = .dark ∨
      s.screens.cells[m].state = .waiting ∨ secondsAhead (contentExpiry s.now s.screens.cells[m]) s.now < halfSeconds) :
    grantContent m opener s = (s, .bare .wrongState) := by
  unfold grantContent
  dsimp only
  by_cases still : s.screens.cells[m].state = .dark ∨ s.screens.cells[m].state = .waiting
  · rw [if_pos still]
    rfl
  · rw [if_neg still]
    cases identityOf s.screens.cells[m] with
    | none => rfl
    | some c => exact if_pos ((or_assoc.mpr resting).resolve_left still)

theorem grantContent_enters {m : ScreenNo} {c : ContentId} (live : s.screens.cells[m].state ≠ .dark)
    (started : s.screens.cells[m].state ≠ .waiting) (identity : identityOf s.screens.cells[m] = some c)
    (ahead : halfSeconds ≤ secondsAhead (contentExpiry s.now s.screens.cells[m]) s.now) :
    grantContent m opener s = enterPass (.content m c) (contentExpiry s.now s.screens.cells[m]) opener s := by
  unfold grantContent
  dsimp only
  rw [if_neg (not_or.mpr ⟨live, started⟩), identity]
  exact if_neg (Nat.not_lt.mpr ahead)

theorem grantCurfew_of_noChild {p : Slot} {e : SecondTime} (child : childOf s.profiles.table[p] = none) :
    grantCurfew p e opener s = (s, .bare .notFound) := by
  rw [grantCurfew, child]
  rfl

theorem grantCurfew_of_range {p : Slot} {e : SecondTime} (child : childOf s.profiles.table[p] ≠ none)
    (range : secondsAhead s.now e < 1 ∨ 43200 < secondsAhead s.now e) :
    grantCurfew p e opener s = (s, .bare .badValue) := by
  rw [grantCurfew, if_neg (by simpa using child), if_neg (by omega)]
  rfl

theorem grantCurfew_enters {p : Slot} {e : SecondTime} (child : childOf s.profiles.table[p] ≠ none)
    (soon : 1 ≤ secondsAhead s.now e) (late : secondsAhead s.now e ≤ 43200) :
    grantCurfew p e opener s = enterPass (.curfew p) e opener s := by
  rw [grantCurfew, if_neg (by simpa using child), if_pos ⟨soon, late⟩]

end Grant

theorem slotNamed {b : Byte} (inRange : b.toNat < 8) : ∃ p : Slot, b.toNat = p.val := ⟨⟨b.toNat, inRange⟩, rfl⟩

theorem screenNamed {b : Byte} (inRange : b.toNat < 4) : ∃ m : ScreenNo, b.toNat = m.val := ⟨⟨b.toNat, inRange⟩, rfl⟩

/-- Settles O32: each refusal by its check, an accepted grant by the pass it enters or replaces. -/
theorem grantsEnterOrReplaceAPass : Obligations.GrantsEnterOrReplaceAPass := by
  refine ⟨fun now a b aheadA aheadB => ?keys, fun r kind target endTime opener s taken authority =>
    ⟨fun bad => ?bad, fun asked unset => ?unset, fun m running zero untimed named resting => ?content,
      fun p t running one timed inDay named => ⟨fun noChild => ?noChild, fun child range => ?range⟩,
      fun scope expiry running granted => ?granted⟩⟩
  case keys =>
    rw [(expiryKey_of_ahead aheadA).1, (expiryKey_of_ahead aheadB).1]
    exact Nat.add_lt_add_iff_right
  case bad => exact exec_grantPass_of_illFormed taken authority (grantAsked_eq_none bad)
  case unset =>
    rcases asked with ⟨rfl, rfl, near⟩ | ⟨rfl, near, t, rfl, inDay⟩
    · obtain ⟨m, named⟩ := screenNamed near
      exact exec_grantPass_of_unset taken authority (grantAsked_content named) unset
    · obtain ⟨p, named⟩ := slotNamed near
      exact exec_grantPass_of_unset taken authority (grantAsked_curfew named inDay) unset
  case content =>
    subst zero untimed
    rw [exec_grantPass_of_content taken authority (grantAsked_content named) running, grantContent_refused resting]
  case noChild =>
    subst one timed
    rw [exec_grantPass_of_curfew taken authority (grantAsked_curfew named inDay) running, grantCurfew_of_noChild noChild]
  case range =>
    subst one timed
    rw [exec_grantPass_of_curfew taken authority (grantAsked_curfew named inDay) running, grantCurfew_of_range child range]
  case granted =>
    have enters : exec (.grantPass r kind target endTime) s =
        .next ((enterPass scope expiry opener s).1.place r (enterPass scope expiry opener s).2) := by
      rcases granted with ⟨m, c, rfl, rfl, named, rfl, live, started, identity, rfl, ahead⟩ |
        ⟨p, t, rfl, rfl, inDay, named, rfl, child, rfl, soon, late⟩
      · rw [exec_grantPass_of_content taken authority (grantAsked_content named) running,
          grantContent_enters live started identity ahead]
      · rw [exec_grantPass_of_curfew taken authority (grantAsked_curfew named inDay) running,
          grantCurfew_enters child soon late]
    refine ⟨fun old held same scopes => ?_, fun absent full => ?_, fun absent room => ?_⟩
    · obtain ⟨sooner, later, split, entered, after, before⟩ := insertPass_split s.now
        { id := old.id, scope := scope, expiry := expiry, granter := opener } (s.passes.held.filter fun q => q.scope ≠ scope)
      refine ⟨_, by rw [enters, enterPass_replaces held same scopes], ⟨sooner, later, split, entered, after, before⟩,
        fun q => ?_, fun order => insertPass_inExpiryOrder (order.filter _)⟩
      rw [mem_insertPass, List.mem_filter, decide_eq_true_eq]
      refine or_congr_right (and_congr_right fun inside => not_congr ⟨fun sameScope => ?_, fun isOld => ?_⟩)
      · exact List.inj_on_of_nodup_map scopes inside held (sameScope.trans same.symm)
      · rw [isOld, same]
    · rw [enters, enterPass_full absent full]
    · obtain ⟨k, small, free, unused, used⟩ := PassList.freeId_spec (l := s.passes) (by omega)
      have range := s.passes.nthId_bounds k
      rw [← free] at range
      obtain ⟨sooner, later, split, entered, after, before⟩ := insertPass_split s.now
        { id := s.passes.freeId, scope := scope, expiry := expiry, granter := opener } s.passes.held
      exact ⟨s.passes.freeId, _, by rw [enters, enterPass_enters absent room]; rfl, range.1, range.2, unused,
        fun _ _ => ⟨k, small, free, used⟩, ⟨sooner, later, split, entered, after, before⟩, fun q => mem_insertPass,
        length_insertPass _ _ _, insertPass_inExpiryOrder⟩

/-! ### Removals (R95 to R99) -/

section Removals

variable {s : State}

/-- R95, R97, R98: the passes that leave are announced, and one notice is raised for them all. -/
theorem State.dropPasses_eq (s : State) (gone kept : List Pass) :
    s.dropPasses gone kept = (s.withPasses { s.passes with held := kept }).sendAll
      (gone.flatMap announceRemoved ++ if gone.isEmpty then [] else [.notice .passes .authority .every 0]) := by
  rw [State.dropPasses, State.raiseIf_eq, State.sendAll_sendAll]
  cases gone <;> rfl

theorem contentFor_iff {n : ScreenNo} {p : Pass} : contentFor n p = true ↔ ∃ c : ContentId, p.scope = .content n c := by
  unfold contentFor
  cases p.scope with
  | content m c => simp
  | curfew q => simp

theorem exec_revokePass (r : Role) (id : Byte) (s : State) : exec (.revokePass r id) s = execRevokePass r id s := rfl

theorem exec_dropScreen (n : ScreenNo) (s : State) : exec (.dropScreen n) s = execDropScreen n s := rfl

theorem exec_dropProfile (p : Slot) (s : State) : exec (.dropProfile p) s = execDropProfile p s := rfl

theorem exec_expiryCheck (s : State) : exec .expiryCheck s = execExpiryCheck s := rfl

theorem exec_passListClockSet (s : State) : exec .passListClockSet s = execPassListClockSet s := rfl

/-- R97: no other pass leaves than those the condition names. -/
theorem State.removeWhere_eq (s : State) {c : Pass → Bool} {d : Pass → Prop} [DecidablePred d]
    (names : ∀ p, c p = true ↔ d p) :
    s.removeWhere c = s.dropPasses (s.passes.held.filter fun p => d p) (s.passes.held.filter fun p => ¬ d p) := by
  have same : c = fun p => decide (d p) := funext fun p => Bool.eq_iff_iff.mpr ((names p).trans decide_eq_true_iff.symm)
  rw [State.removeWhere, same]
  simp only [decide_not]

end Removals

/-- R90: in expiry order, every pass behind one that is not reached is not reached. -/
theorem expiry_dropWhile_reached {now : SecondTime} {l : List Pass} (order : inExpiryOrder now l) {p : Pass}
    (inside : p ∈ l.dropWhile (expiryReached now)) : expiryReached now p = false := by
  induction l with
  | nil => cases inside
  | cons q l ih =>
    obtain ⟨first, rest⟩ := List.pairwise_cons.mp order
    rw [List.dropWhile_cons] at inside
    split at inside
    next => exact ih rest inside
    next ahead =>
      have unreached : expiryReached now q = false := Bool.eq_false_iff.mpr ahead
      rcases List.mem_cons.mp inside with rfl | later
      · exact unreached
      · have far := (expiryKey_of_ahead (expiryReached_eq_false.mp unreached)).2
        refine expiryReached_eq_false.mpr (Nat.not_lt.mp fun reached => ?_)
        exact absurd (far.trans (first p later)) (Nat.not_le.mpr (expiryKey_of_reached reached))

/-- Settles O33: each removal by the passes it names. -/
theorem removalsTakePassesOutAndTellOfThem : Obligations.RemovalsTakePassesOutAndTellOfThem := by
  refine ⟨fun p => ?announced, fun r id s taken authority => ⟨fun zero => ?zero, fun other absent => ?absent,
    fun other held => ?revoked⟩, fun n rest s taken => ?screen, fun p rest s taken => ?profile,
    fun s => ⟨fun awake running => ?check, fun rest taken => ?clockSet, fun order p inside => ?order⟩⟩
  case announced => obtain ⟨id, scope, expiry, granter⟩ := p; cases scope <;> rfl
  case zero =>
    rw [exec_revokePass, execRevokePass, onRequest_authorised taken authority fun _ => if_pos zero]
    rfl
  case absent =>
    have none : ¬ (s.passes.held.any fun p => p.id == id.toNat) = true := by simpa using absent
    rw [exec_revokePass, execRevokePass, onRequest_authorised taken authority fun _ => (if_neg other).trans (if_neg none)]
    rfl
  case revoked =>
    have some : (s.passes.held.any fun p => p.id == id.toNat) = true := by simpa using held
    rw [exec_revokePass, execRevokePass, onRequest_authorised taken authority fun _ => (if_neg other).trans (if_pos some),
      State.removeWhere_eq s (d := fun p => p.id = id.toNat) fun p => by simp, State.dropPasses_eq]
  case screen =>
    refine ⟨s.passes.held.filter (contentFor n), s.passes.held.filter fun p => !contentFor n p, ?_, List.filter_sublist,
      List.filter_sublist, ?_, fun p inside => ?_, fun p inside c scope => ?_⟩
    · rw [exec_dropScreen, execDropScreen, onMessage_taken taken, State.removeWhere, State.dropPasses_eq]
      rfl
    · exact (List.length_eq_length_filter_add (contentFor n)).symm
    · exact contentFor_iff.mp (List.mem_filter.mp inside).2
    · have other := (List.mem_filter.mp inside).2
      rw [contentFor_iff.mpr ⟨c, scope⟩] at other
      cases other
  case profile =>
    rw [exec_dropProfile, execDropProfile, onMessage_taken taken,
      State.removeWhere_eq _ (d := fun x => x.scope = .curfew p) fun x => by simp, State.dropPasses_eq]
    rfl
  case check =>
    rw [exec_expiryCheck, execExpiryCheck, onOccasion_due (Bool.and_eq_true_iff.mpr ⟨awake, running⟩), State.expirePasses, State.dropPasses_eq]
  case clockSet =>
    rw [exec_passListClockSet, execPassListClockSet, onMessage_taken taken, State.expirePasses, State.dropPasses_eq]
    rfl
  case order => exact expiry_dropWhile_reached order inside

end Sys2Proof.Machine
end

section
/-! PROOFS. Pure reads (10 Tables 10-1 to 10-3, 10-7). The theorems settle O4, O6 and O7. -/

namespace Sys2Proof.Machine

/-! ### What a read answers (R190) -/

/-- An answer of a read: OK with a body, or BAD_VALUE or NOT_FOUND without one. -/
def Answer.plain (a : Answer) : Prop :=
  (a.result ≠ .ok → a.body = []) ∧ (a.result = .ok ∨ a.result = .badValue ∨ a.result = .notFound)

theorem Answer.ok_plain (body : List Byte) : (Answer.ok body).plain := ⟨fun other => absurd rfl other, .inl rfl⟩

theorem Answer.badValue_plain : (Answer.bare .badValue).plain := ⟨fun _ => rfl, .inr (.inl rfl)⟩

theorem Answer.notFound_plain : (Answer.bare .notFound).plain := ⟨fun _ => rfl, .inr (.inr rfl)⟩

section Reads

variable {i : Instr} {r : Role} {s : State} {f : State → Answer}

theorem exec_read_of_taken (read : exec i s = onRequest i r s (reading f)) (taken : s.handed r i = true) :
    exec i s = .next (s.place r (f s)) := by
  rw [read, onRequest_handed taken]
  rfl

theorem lookUp_plain (e : Entry) (time : Option MinuteTime) : (lookUp e time).plain := by
  unfold lookUp
  split
  · exact Answer.notFound_plain
  · exact Answer.ok_plain _

theorem exec_read_plain {slot scheme n index : Byte} {service day minute : Half} {time : Option (Half × Half)}
    (read : i ∈ [.identify r, .readProfile r slot, .readAuthority r, .readSchemeMap r scheme, .readClock r,
      .readAccount r slot, .readScreen r n, .listPasses r, .readLinkCounts r, .readEvent r service time,
      .listEvents r service day minute, .readDirectory r index, .readLines r, .readStoreState r])
    (taken : s.handed r i = true) : ∃ a : Answer, exec i s = .next (s.place r a) ∧ a.plain := by
  simp only [List.mem_cons, List.not_mem_nil, or_false] at read
  rcases read with rfl | rfl | rfl | rfl | rfl | rfl | rfl | rfl | rfl | rfl | rfl | rfl | rfl | rfl
  all_goals refine ⟨_, exec_read_of_taken rfl taken, ?_⟩
  · exact Answer.ok_plain _
  · split
    · exact Answer.badValue_plain
    · exact Answer.ok_plain _
  · exact Answer.ok_plain _
  · split
    · exact Answer.badValue_plain
    · exact Answer.ok_plain _
  · exact Answer.ok_plain _
  · split
    · exact Answer.badValue_plain
    · split
      · exact Answer.notFound_plain
      · exact Answer.ok_plain _
  · split
    · exact Answer.badValue_plain
    · exact Answer.ok_plain _
  · exact Answer.ok_plain _
  · exact Answer.ok_plain _
  · split
    · exact Answer.badValue_plain
    · split
      · exact Answer.badValue_plain
      · split
        · exact Answer.notFound_plain
        · exact lookUp_plain _ _
  · split
    · exact Answer.badValue_plain
    · split
      · exact Answer.notFound_plain
      · exact Answer.ok_plain _
  · split
    · exact Answer.badValue_plain
    · exact Answer.ok_plain _
  · exact Answer.ok_plain _
  · exact Answer.ok_plain _

theorem exec_readProfile (r : Role) (slot : Byte) (s : State) :
    exec (.readProfile r slot) s = execReadProfile r slot s := rfl

theorem exec_readProfile_outOfRange {slot : Byte} (taken : s.handed r (.readProfile r slot) = true)
    (far : 8 ≤ slot.toNat) : exec (.readProfile r slot) s = .next (s.place r (.bare .badValue)) := by
  rw [exec_readProfile, execReadProfile, onRequest_handed taken, reading, slotOf_eq_none far]

theorem exec_readProfile_named {slot : Byte} (taken : s.handed r (.readProfile r slot) = true) {p : Slot}
    (named : slot.toNat = p.val) : exec (.readProfile r slot) s =
      .next (s.place r (.ok (readImage s.profiles.table[p] s.profiles.failures[p] s.profiles.lockouts[p]))) := by
  rw [exec_readProfile, execReadProfile, onRequest_handed taken, reading, slotOf_eq_some named]

theorem exec_readSchemeMap (r : Role) (scheme : Byte) (s : State) :
    exec (.readSchemeMap r scheme) s = execReadSchemeMap r scheme s := rfl

theorem exec_readScreen (r : Role) (n : Byte) (s : State) : exec (.readScreen r n) s = execReadScreen r n s := rfl

theorem exec_listPasses (r : Role) (s : State) : exec (.listPasses r) s = execListPasses r s := rfl

theorem exec_readLinkCounts (r : Role) (s : State) : exec (.readLinkCounts r) s = execReadLinkCounts r s := rfl

theorem exec_readDirectory (r : Role) (index : Byte) (s : State) :
    exec (.readDirectory r index) s = execReadDirectory r index s := rfl

theorem exec_readLines (r : Role) (s : State) : exec (.readLines r) s = execReadLines r s := rfl

theorem exec_readClock (r : Role) (s : State) : exec (.readClock r) s = execReadClock r s := rfl

theorem exec_readStoreState (r : Role) (s : State) : exec (.readStoreState r) s = execReadStoreState r s := rfl

theorem exec_readAccount (r : Role) (slot : Byte) (s : State) :
    exec (.readAccount r slot) s = execReadAccount r slot s := rfl

theorem below_eq_some {n : Nat} {b : Byte} {i : Fin n} (named : b.toNat = i.val) : below n b = some i := by
  simp [below, named]

end Reads

/-! ### Bytes of several fields -/

theorem toList_four {α : Type} (v : Vector α 4) :
    v.toList = [v[(0 : Fin 4)], v[(1 : Fin 4)], v[(2 : Fin 4)], v[(3 : Fin 4)]] := by
  refine List.ext_getElem (by simp) fun i inside _ => ?_
  have small : i < 4 := by simpa using inside
  interval_cases i <;> rfl

theorem modesByte_eq (a b : Bool) : boolByte a ||| (boolByte b <<< 1) =
    if a then (if b then 3 else 1) else (if b then 2 else 0) := by
  cases a <;> cases b <;> rfl

theorem scopeByte_eq (n : ScreenNo) : 0x10 ||| byteOf n = byteOf (0x10 + n.val) ∧ 0x20 ||| byteOf n = byteOf (0x20 + n.val) ∧
    0x30 ||| byteOf n = byteOf (0x30 + n.val) := by
  revert n
  decide

theorem gateByte_eq (s : State) (n : ScreenNo) : s.gate n =
    (s.screens.cells[n].state == .showing || s.screens.cells[n].state == .winding ||
      s.screens.cells[n].state == .closing) := by
  unfold State.gate
  cases s.screens.cells[n].state <;> rfl

theorem boxByte_eq (b : BoxState) : boxByte b = boolByte (b == .standby) := by cases b <;> rfl

theorem ScreenController.box_eq (c : ScreenController) :
    (c.box == .standby) = (c.requested == .standby || c.standbyLevel) := by
  unfold ScreenController.box
  cases c.requested <;> cases c.standbyLevel <;> rfl

/-- Settles O4: each read is plain; then the bodies. -/
theorem readsChangeNothingButTheirAnswer : Obligations.ReadsChangeNothingButTheirAnswer := by
  refine ⟨fun r slot scheme n index service day minute time s i read taken => ?_, ?_⟩
  · obtain ⟨a, answered, plain⟩ := exec_read_plain read taken
    exact ⟨a, answered, plain⟩
  intro yes seconds content block zeros
  have secondsOf : ∀ t, timerSeconds t = seconds t := fun t => by cases t <;> rfl
  have contentOf : ∀ rating flags, contentBytes rating flags = content rating flags := fun rating flags => by
    unfold contentBytes
    rw [modesByte_eq]
    cases rating <;> cases flags <;> rfl
  have policyOf : ∀ u, unratedByte u = (match u with
      | .step n => byteOf n
      | .allow => 0x40
      | .block => 0x41) := fun u => by cases u <;> rfl
  have blockOf : ∀ e, eventBlock e = block e := fun e => congrArg _ (contentOf e.rating e.flags)
  refine ⟨fun r slot s taken => ⟨fun far => ?_, fun p named => ⟨fun empty => ?_, fun c k child => ?_, fun c adult => ?_⟩⟩,
    fun r scheme s taken => ⟨fun far => ?_, fun n named => ?_⟩,
    fun r n s taken => ⟨fun far => ?_, fun m named form shown shape => ?_⟩, fun r s taken => ?_, fun r s taken => ?_,
    fun r index s taken => ⟨fun far => ?_, fun i named => ?_⟩, fun r s taken => ?_⟩
  · exact exec_readProfile_outOfRange taken far
  · rw [exec_readProfile_named taken named, empty]
    rfl
  · have modes : boolByte (k.mode == .each) ||| (boolByte (k.close == .atBoundary) <<< 1) = (match k.mode, k.close with
          | .shared, .atOnce => 0
          | .each, .atOnce => 1
          | .shared, .atBoundary => 2
          | .each, .atBoundary => 3) := by
      cases k.mode <;> cases k.close <;> rfl
    rw [exec_readProfile_named taken named, child]
    simp only [readImage, commonBytes, childBytes, labelBytes, secondsOf, policyOf, modes, List.append_assoc, List.cons_append,
      List.nil_append]
    rfl
  · rw [exec_readProfile_named taken named, adult]
    simp only [readImage, commonBytes, labelBytes, secondsOf, policyOf, List.append_assoc, List.cons_append, List.nil_append]
    rfl
  · rw [exec_readSchemeMap, execReadSchemeMap, onRequest_handed taken, reading, screenOf_eq_none far]
  · rw [exec_readSchemeMap, execReadSchemeMap, onRequest_handed taken, reading, screenOf_eq_some named]
    rfl
  · rw [exec_readScreen, execReadScreen, onRequest_handed taken, reading, screenOf_eq_none far]
  · have contents : contentImage s.screens.cells[m] = (form, shown) := by
      unfold contentImage
      rcases shape with ⟨none, rfl, rfl⟩ | ⟨d, some, held, rfl, rfl⟩ | ⟨e, some, absent, held, rfl, rfl⟩ |
        ⟨some, absent, missing, rfl, rfl⟩
      · rw [none]
        rfl
      · obtain ⟨v, service⟩ := Option.ne_none_iff_exists'.mp some
        rw [service, held]
        exact congrArg _ (congrArg _ (contentOf d.rating d.flags))
      · obtain ⟨v, service⟩ := Option.ne_none_iff_exists'.mp some
        rw [service, absent, held]
        exact congrArg _ (blockOf e)
      · obtain ⟨v, service⟩ := Option.ne_none_iff_exists'.mp some
        rw [service, absent, missing]
        rfl
    rw [exec_readScreen, execReadScreen, onRequest_handed taken, reading, screenOf_eq_some named]
    simp only [State.screenImage, contents, gateByte_eq, boxByte_eq, ScreenController.box_eq, secondsOf, List.append_assoc,
      List.cons_append, List.nil_append]
    rfl
  · rw [exec_listPasses, execListPasses, onRequest_handed taken, reading]
    refine congrArg (fun l => Host.Outcome.next (s.place r (.ok ([byteOf s.passes.held.length] ++ l)))) ?_
    refine List.flatMap_congr fun p _ => ?_
    obtain ⟨id, scope, expiry, granter⟩ := p
    cases scope with
    | curfew q => cases granter <;> rfl
    | content n c =>
      obtain ⟨event, noEvent, source⟩ := scopeByte_eq n
      cases granter <;> cases c <;> simp only [passEntry, event, noEvent, source] <;> rfl
  · rw [exec_readLinkCounts, execReadLinkCounts, onRequest_handed taken, reading]
    rfl
  · have far : below 32 index = none := by simp [below, far]
    rw [exec_readDirectory, execReadDirectory, onRequest_handed taken, reading, far]
  · rw [exec_readDirectory, execReadDirectory, onRequest_handed taken, reading, below_eq_some named]
    have freeOf : ∀ j : Fin 32, entryFree s.cache.directory[j] = s.cache.directory[j].all fun e => e.records.isEmpty :=
      fun j => by unfold entryFree; cases s.cache.directory[j] <;> rfl
    unfold GuideCache.image entryImage
    simp only [freeOf]
    cases held : s.cache.directory[i] with
    | none => rfl
    | some e =>
      cases current : e.current with
      | none => simp only [current, Option.isSome_none, Option.all_some]; rfl
      | some x => simp only [current, blockOf, Option.isSome_some, Option.all_some]; rfl
  · have lineOf : ∀ l : Line, lineBytes l = (match l.setting.function with
          | .nothing => [0, 0xFF]
          | .boundary n => [1, byteOf n.val]
          | .standby => [2, 0xFF]) ++
        [yes (l.setting.polarity == .high), yes l.level,
          yes (if l.setting.polarity = .high then l.level else !l.level)] := fun l => by
      unfold lineBytes Line.asserted functionBytes
      cases l.setting.polarity <;> cases l.setting.function <;> rfl
    rw [exec_readLines, execReadLines, onRequest_handed taken, reading, toList_four]
    simp only [List.flatMap_cons, List.flatMap_nil, List.append_nil, lineOf, List.append_assoc]
    rfl

/-! ### The clock, the store and the accounts (R49, R50, R186) -/

theorem dayKindByte_eq (k : DayKind) : dayKindByte k = if k = .school then 0 else 1 := by cases k <;> rfl

theorem boolByte_isSome {α : Type} [DecidableEq α] (o : Option α) : boolByte o.isSome = if o = none then 0 else 1 := by
  cases o <;> simp [boolByte]

/-- Table 10-3: the bits of the account status byte. -/
def statusOf (warned inForce first second third curfew exhausted : Bool) : Byte :=
  boolByte warned ||| (boolByte inForce <<< 1) ||| (boolByte first <<< 2) ||| (boolByte second <<< 3) |||
  (boolByte third <<< 4) ||| (boolByte curfew <<< 5) ||| (boolByte exhausted <<< 6)

theorem statusOf_bits (b0 b1 b2 b3 b4 b5 b6 : Bool) :
    (statusOf b0 b1 b2 b3 b4 b5 b6).getLsbD 0 = b0 ∧ (statusOf b0 b1 b2 b3 b4 b5 b6).getLsbD 1 = b1 ∧
    (statusOf b0 b1 b2 b3 b4 b5 b6).getLsbD 2 = b2 ∧ (statusOf b0 b1 b2 b3 b4 b5 b6).getLsbD 3 = b3 ∧
    (statusOf b0 b1 b2 b3 b4 b5 b6).getLsbD 4 = b4 ∧ (statusOf b0 b1 b2 b3 b4 b5 b6).getLsbD 5 = b5 ∧
    (statusOf b0 b1 b2 b3 b4 b5 b6).getLsbD 6 = b6 ∧ (statusOf b0 b1 b2 b3 b4 b5 b6).getLsbD 7 = false := by
  revert b0 b1 b2 b3 b4 b5 b6
  decide

theorem accountStatus_eq (u : MeteringUnit) (a : Account) : accountStatus u a =
    statusOf a.warned (a.warningInForce u.today) (a.curfewWarned.getD 0 false) (a.curfewWarned.getD 1 false)
      (a.curfewWarned.getD 2 false) (a.curfewWarningInForce u.today u.minute) (a.exhausted u.today) := rfl

theorem getD_false_iff (l : List Bool) (i : Nat) : l.getD i false = true ↔ l[i]? = some true := by
  rw [List.getD_eq_getElem?_getD]
  cases l[i]? <;> simp

/-- R41: a window applies to a day kind. -/
theorem appliesTo_iff (w : CurfewWindow) (k : DayKind) : appliesTo w k = true ↔
    w.applies = .both ∨ (w.applies = .school ∧ k = .school) ∨ (w.applies = .free ∧ k = .free) := by
  unfold appliesTo
  cases w.applies <;> cases k <;> simp

/-- R43: a curfew warning in force, window by window. -/
theorem Account.curfewWarningInForce_iff (a : Account) (today : DayKind) (m : Nat) :
    a.curfewWarningInForce today m = true ↔ ∃ (i : Nat) (w : CurfewWindow), a.terms.windows[i]? = some w ∧
      a.curfewWarned[i]? = some true ∧ m < w.start ∧ appliesTo w today = true := by
  unfold Account.curfewWarningInForce
  rw [List.any_eq_true]
  constructor
  · rintro ⟨⟨w, flag⟩, inside, holds⟩
    simp only [Bool.and_eq_true, decide_eq_true_eq] at holds
    obtain ⟨⟨rfl, today⟩, later⟩ := holds
    obtain ⟨i, at_i⟩ := List.mem_iff_getElem?.mp inside
    obtain ⟨window, warned⟩ := List.getElem?_zip_eq_some.mp at_i
    exact ⟨i, w, window, warned, later, today⟩
  · rintro ⟨i, w, window, warned, later, today⟩
    refine ⟨(w, true), List.mem_iff_getElem?.mpr ⟨i, List.getElem?_zip_eq_some.mpr ⟨window, warned⟩⟩, ?_⟩
    simp [later, today]

theorem chargeCount_eq (u : MeteringUnit) (p : Slot) (k : ChargeKind) : u.chargeCount p k =
    (List.finRange 4).countP fun n => u.charges[n] = { profile := p, kind := k } := by
  rw [MeteringUnit.chargeCount, List.countP_eq_length_filter, show List.finRange 4 = screenNumbers from by decide]
  congr 1
  refine List.filter_congr fun n _ => ?_
  obtain ⟨profile, kind⟩ := u.charges[n]
  by_cases same : profile = p <;> by_cases sameKind : kind = k <;> simp [same, sameKind]

section Account

variable {r : Role} {slot : Byte} {s : State} {p : Slot}

theorem exec_readAccount_outOfRange (taken : s.handed r (.readAccount r slot) = true) (far : 8 ≤ slot.toNat) :
    exec (.readAccount r slot) s = .next (s.place r (.bare .badValue)) := by
  rw [exec_readAccount, execReadAccount, onRequest_handed taken, reading, slotOf_eq_none far]

theorem exec_readAccount_absent (taken : s.handed r (.readAccount r slot) = true) (named : slot.toNat = p.val)
    (absent : s.metering.accounts[p] = none) : exec (.readAccount r slot) s = .next (s.place r (.bare .notFound)) := by
  rw [exec_readAccount, execReadAccount, onRequest_handed taken, reading, slotOf_eq_some named]
  simp only [absent]

theorem exec_readAccount_held (taken : s.handed r (.readAccount r slot) = true) (named : slot.toNat = p.val)
    {a : Account} (held : s.metering.accounts[p] = some a) :
    exec (.readAccount r slot) s = .next (s.place r (.ok (accountImage s.metering p a))) := by
  rw [exec_readAccount, execReadAccount, onRequest_handed taken, reading, slotOf_eq_some named]
  simp only [held]

end Account

/-- Settles O6: the three bodies; the status byte of an account bit by bit. -/
theorem timeAndStoreReadsGiveTheRecords : Obligations.TimeAndStoreReadsGiveTheRecords := by
  refine ⟨fun r s taken => ?_, fun r s taken loaded => ?_, fun r slot s taken =>
    ⟨fun far => exec_readAccount_outOfRange taken far, fun p named =>
      ⟨fun absent => exec_readAccount_absent taken named absent, fun a held => ?_⟩⟩⟩
  · rw [exec_readClock, execReadClock, onRequest_handed taken, reading]
    unfold clockBody
    rw [dayKindByte_eq, dayKindByte_eq, boolByte_isSome]
    rfl
  · rw [exec_readStoreState, execReadStoreState, onRequest_handed taken, reading]
    unfold storeBody
    cases state : s.store.state with
    | loading => exact absurd state loaded
    | idle | writing | failed => cases s.store.settle <;> cases s.store.attempt <;> rfl
  · intro u base entitlement left charging
    have baseOf : a.base u.today = base := by
      unfold Account.base
      cases today : u.today with
      | school => exact (if_pos today).symm
      | free => exact (if_neg (by rw [today]; exact DayKind.noConfusion)).symm
    have entitlementOf : a.entitlement u.today = entitlement := by rw [Account.entitlement, baseOf]
    have leftOf : a.remaining u.today = left := by rw [Account.remaining, entitlementOf]
    have curfewOf : curfewByte a.curfew = if a.curfew = .inside then 1 else 0 := by cases a.curfew <;> rfl
    obtain ⟨b0, b1, b2, b3, b4, b5, b6, b7⟩ := statusOf_bits a.warned (a.warningInForce u.today)
      (a.curfewWarned.getD 0 false) (a.curfewWarned.getD 1 false) (a.curfewWarned.getD 2 false)
      (a.curfewWarningInForce u.today u.minute) (a.exhausted u.today)
    refine ⟨accountStatus u a, ?_, ?_, ?_, fun i small => ?_, ?_, ?_, ?_⟩
    · rw [exec_readAccount_held taken named held, accountImage, chargeCount_eq, chargeCount_eq, baseOf, entitlementOf, leftOf,
        curfewOf]
    · rw [accountStatus_eq, b0]
    · rw [accountStatus_eq, b1, Account.warningInForce, leftOf, Bool.and_eq_true, decide_eq_true_eq]
    · rw [accountStatus_eq, ← getD_false_iff]
      interval_cases i
      · rw [b2]
      · rw [b3]
      · rw [b4]
    · rw [accountStatus_eq, b5, Account.curfewWarningInForce_iff]
      simp only [appliesTo_iff]
      rfl
    · rw [accountStatus_eq, b6, Account.exhausted, leftOf, beq_iff_eq]
    · rw [accountStatus_eq, b7]

/-! ### No PIN is told (R16) -/

theorem readImage_child_pin {c : CommonPart} {old : List (Fin 10)} (has : c.pin = some old) (new : List (Fin 10))
    (k : ChildPart) (failures : Nat) (lockout : Option Nat) :
    readImage (.child { c with pin := some new } k) failures lockout = readImage (.child c k) failures lockout := by
  simp only [readImage, commonBytes, has, Option.isSome_some]

theorem readImage_adult_pin {c : CommonPart} {old : List (Fin 10)} (has : c.pin = some old) (new : List (Fin 10))
    (failures : Nat) (lockout : Option Nat) :
    readImage (.adult { c with pin := some new }) failures lockout = readImage (.adult c) failures lockout := by
  simp only [readImage, commonBytes, has, Option.isSome_some]

/-- READ_PROFILE answers the same in two states that agree in the images of all slots. -/
theorem exec_readProfile_congr {r : Role} {slot : Byte} {s t : State} (taken : s.handed r (.readProfile r slot) = true)
    (handed : t.handed r (.readProfile r slot) = true)
    (image : ∀ p : Slot, readImage t.profiles.table[p] t.profiles.failures[p] t.profiles.lockouts[p] =
      readImage s.profiles.table[p] s.profiles.failures[p] s.profiles.lockouts[p]) :
    ∃ a : Answer, exec (.readProfile r slot) s = .next (s.place r a) ∧ exec (.readProfile r slot) t = .next (t.place r a) := by
  by_cases inRange : slot.toNat < 8
  · obtain ⟨p, named⟩ := slotNamed inRange
    exact ⟨_, exec_readProfile_named taken named, by rw [exec_readProfile_named handed named, image]⟩
  · have far := Nat.not_lt.mp inRange
    exact ⟨_, exec_readProfile_outOfRange taken far, exec_readProfile_outOfRange handed far⟩

/-- One record is replaced by one with the same image. -/
theorem readImage_put {table : Vector Profile 8} {p : Slot} {q : Profile}
    (image : ∀ failures lockout, readImage q failures lockout = readImage table[p] failures lockout) (o : Slot)
    (failures : Nat) (lockout : Option Nat) :
    readImage (put table p q)[o] failures lockout = readImage table[o] failures lockout := by
  rw [put_get]
  split
  next same => rw [image, same]
  next => rfl

/-- Settles O7: an image says that there is a PIN, and nothing else of it. -/
theorem readProfileNeverTellsThePin : Obligations.ReadProfileNeverTellsThePin := by
  intro r slot p c k old new s taken has record other
  cases k with
  | some k =>
    refine exec_readProfile_congr (t := other) taken taken fun o => readImage_put (fun failures lockout => ?_) o _ _
    rw [record]
    exact readImage_child_pin has new k failures lockout
  | none =>
    refine exec_readProfile_congr (t := other) taken taken fun o => readImage_put (fun failures lockout => ?_) o _ _
    rw [record]
    exact readImage_adult_pin has new failures lockout

end Sys2Proof.Machine
end

section
/-! PROOFS. What a test, a SEAT, a TUNE, the box state and a message make of a screen record, in full (03). The first part gives
the judgement and the applied outcome by cases; the theorems at its end settle O23 and O24. -/

namespace Sys2Proof.Machine

/-! ### The time part by cases (R60, R61) -/

section Judge

variable {s : State} {x : Screen}

/-- R60: content that no pass covers and the seated profile refuses. -/
theorem State.judge_of_refusal {r : Reason} (uncovered : x.override = false)
    (refusal : contentRefusal s.profiles.table[x.seat] x.step (contentFlags x) = some r) : s.judge x = .refused r := by
  rw [State.judge, uncovered, if_neg Bool.false_ne_true, refusal]

/-- R60: other content goes on to the time part. -/
theorem State.judge_of_unrefused
    (unrefused : x.override = true ∨ contentRefusal s.profiles.table[x.seat] x.step (contentFlags x) = none) :
    s.judge x = timeJudgement s.profiles.table s.metering x.seat := by
  rcases unrefused with covered | none
  · rw [State.judge, if_pos covered]
  · rw [State.judge, none, ite_self]

end Judge

section Time

variable {table : Vector Profile 8} {u : MeteringUnit} {p : Slot} {c : CommonPart} {k : ChildPart} {a : Account}

theorem timeJudgement_adult (seated : table[p] = .adult c) : timeJudgement table u p = .admitted false := by
  simp [timeJudgement, seated, childOf]

theorem timeJudgement_stopped (seated : table[p] = .child c k) (stopped : u.running = false) :
    timeJudgement table u p = .expired .clock := by
  simp [timeJudgement, seated, childOf, stopped]

theorem timeJudgement_unmetered (seated : table[p] = .child c k) (running : u.running = true)
    (missing : u.accounts[p] = none) : timeJudgement table u p = .expired .allowance := by
  simp [timeJudgement, seated, childOf, running, missing]

theorem timeJudgement_account (seated : table[p] = .child c k) (running : u.running = true) (held : u.accounts[p] = some a) :
    timeJudgement table u p = accountJudgement u a := by
  simp [timeJudgement, seated, childOf, running, held]

theorem Account.exhausted_iff {today : DayKind} : a.exhausted today = true ↔ a.remaining today = 0 := beq_iff_eq

theorem accountJudgement_exhausted (exhausted : a.remaining u.today = 0) : accountJudgement u a = .expired .allowance :=
  if_pos (Account.exhausted_iff.mpr exhausted)

theorem accountJudgement_inside (remains : a.remaining u.today ≠ 0) (inside : a.curfew = .inside) :
    accountJudgement u a = .expired .curfew := by
  rw [accountJudgement, if_neg (mt Account.exhausted_iff.mp remains), if_pos inside]

theorem accountJudgement_admits (remains : a.remaining u.today ≠ 0) (outside : a.curfew = .outside) :
    accountJudgement u a = .admitted (a.warningInForce u.today || a.curfewWarningInForce u.today u.minute) := by
  rw [accountJudgement, if_neg (mt Account.exhausted_iff.mp remains), if_neg (by rw [outside]; exact CurfewState.noConfusion)]

/-- R32, R43: the two warnings that let a screen wind down. -/
theorem Account.winds_iff (a : Account) (today : DayKind) (m : Nat) :
    (a.warningInForce today || a.curfewWarningInForce today m) = true ↔
    (a.warned = true ∧ a.remaining today ≤ a.terms.lead * 60) ∨
      ∃ (i : Nat) (w : CurfewWindow), a.terms.windows[i]? = some w ∧ a.curfewWarned[i]? = some true ∧
        appliesTo w today = true ∧ m < w.start := by
  rw [Bool.or_eq_true, Account.curfewWarningInForce_iff, Account.warningInForce, Bool.and_eq_true, decide_eq_true_eq]
  simp only [and_comm (a := _ < _)]

end Time

/-- Settles O23: the content part, then the steps of the time part, each by its own equation. -/
theorem timePartTakesItsStepsInOrder : Obligations.TimePartTakesItsStepsInOrder := by
  refine fun s x => ⟨fun r uncovered refusal => State.judge_of_refusal uncovered refusal, fun unrefused => ?_⟩
  rw [State.judge_of_unrefused unrefused]
  refine ⟨fun c seated => timeJudgement_adult seated, fun c k seated => ⟨fun stopped => timeJudgement_stopped seated stopped,
    fun running missing => timeJudgement_unmetered seated running missing, fun a running held => ?_⟩⟩
  rw [timeJudgement_account seated running held]
  refine ⟨accountJudgement_exhausted, accountJudgement_inside, fun remains outside warned => ?_,
    fun remains outside calm => ?_⟩
  · rw [accountJudgement_admits remains outside, (a.winds_iff _ s.metering.minute).mpr warned]
  · rw [accountJudgement_admits remains outside, Bool.eq_false_iff.mpr (mt (a.winds_iff _ s.metering.minute).mp calm)]

/-! ### Outcomes by cases (R62, Table 3-2) -/

section Applied

variable {p : Profile} {x : Screen} {r : Reason}

theorem applied_expired_of_onAir (onAir : x.state = .showing ∨ x.state = .winding) :
    applied true p x (.expired r) = closeFor p r x := by
  rcases onAir with state | state <;> simp [applied, state]

theorem closeFor_atBoundary {k : ChildPart} (child : childOf p = some k) (other : r ≠ .clock) (close : k.close = .atBoundary)
    (grace : 0 < k.grace) : closeFor p r x = x.become .closing (some r) (some k.grace) := by
  simp [closeFor, child, other, close, grace]

theorem closeFor_atOnce (closes : ∀ k : ChildPart, childOf p = some k → r = .clock ∨ k.close = .atOnce ∨ k.grace = 0) :
    closeFor p r x = x.become .expired (some r) none := by
  unfold closeFor
  split
  next k child =>
    refine if_neg fun ⟨other, close, grace⟩ => ?_
    rcases closes k child with clock | once | none
    · exact other clock
    · rw [once] at close; cases close
    · exact absurd none grace.ne'
  next => rfl

theorem applied_expired_of_closing (closing : x.state = .closing) (other : r ≠ .clock) :
    applied true p x (.expired r) = { x with reason := some r } := by
  simp [applied, closing, stayClosing, other]

end Applied

/-! ### Charge kinds (R59) -/

section Kinds

variable {p : Profile} {st : ScreenState}

theorem chargeKind_adult (adult : childOf p = none) : chargeKind st p = .nothing := by
  simp [chargeKind, adult]

theorem chargeKind_view_iff (child : childOf p ≠ none) : chargeKind st p = .view ↔ st = .showing ∨ st = .winding := by
  obtain ⟨k, seated⟩ := Option.ne_none_iff_exists'.mp child
  cases st <;> simp [chargeKind, seated]

theorem chargeKind_overrun_iff (child : childOf p ≠ none) : chargeKind st p = .overrun ↔ st = .closing := by
  obtain ⟨k, seated⟩ := Option.ne_none_iff_exists'.mp child
  cases st <;> simp [chargeKind, seated]

theorem pairDiffers_iff {a b : ChargeEntry} :
    pairDiffers a b = true ↔ a ≠ b ∧ ¬ (a.kind = .nothing ∧ b.kind = .nothing) := by
  rw [← Bool.not_eq_false, pairDiffers_eq_false, not_or]

variable {table : Vector Profile 8} {x : Screen}

theorem chargedScreen_same (same : pairDiffers (chargePair table x) x.lastPair = false) :
    chargedScreen table x = { x with charge := (chargePair table x).kind } := by
  simp [chargedScreen, same]

theorem chargedScreen_differs (differs : pairDiffers (chargePair table x) x.lastPair = true) :
    chargedScreen table x = { x with charge := (chargePair table x).kind, lastPair := chargePair table x } := by
  simp [chargedScreen, differs]

theorem chargeMessages_same (n : ScreenNo) (same : pairDiffers (chargePair table x) x.lastPair = false) :
    chargeMessages table n x = [] := by
  simp [chargeMessages, same]

theorem chargeMessages_differs (n : ScreenNo) (differs : pairDiffers (chargePair table x) x.lastPair = true) :
    chargeMessages table n x = [.charge n x.seat (chargePair table x).kind] := by
  simp [chargeMessages, differs]

end Kinds

/-- Settles O24: the outcome by cases, the charge by its kind, and the CHARGE by whether the pair differs. -/
theorem outcomesMoveOneScreenAndItsCharge : Obligations.OutcomesMoveOneScreenAndItsCharge := by
  refine ⟨fun p x r => ⟨fun o w => rfl, fun o => rfl, rfl, fun onAir => ?_, applied_expired_of_closing⟩,
    fun s n fromOpen noPass => ⟨chargeKind_adult, fun child => ⟨chargeKind_view_iff child, chargeKind_overrun_iff child⟩,
      fun same => ?_, fun differs unlike => ?_⟩⟩
  · rw [applied_expired_of_onAir onAir]
    exact ⟨fun k child other close grace => closeFor_atBoundary child other close grace, closeFor_atOnce⟩
  · have same : pairDiffers (chargePair s.profiles.table (s.testedScreen n fromOpen noPass))
        (s.testedScreen n fromOpen noPass).lastPair = false := pairDiffers_eq_false.mpr same
    rw [State.test_eq, chargedScreen_same same, chargeMessages_same n same, State.sendAll_nil]
    rfl
  · have differs : pairDiffers (chargePair s.profiles.table (s.testedScreen n fromOpen noPass))
        (s.testedScreen n fromOpen noPass).lastPair = true := pairDiffers_iff.mpr ⟨differs, unlike⟩
    rw [State.test_eq, chargedScreen_differs differs, chargeMessages_differs n differs]
    rfl

/-! ### The record that a test from a closed gate leaves (R62, R59) -/

/-- R59: the pair that a screen should report is told when it differs from the last one sent. -/
theorem chargedScreen_spec (table : Vector Profile 8) (n : ScreenNo) {b : Screen} {p : Slot} {ended : ChargeEntry}
    (seat : b.seat = p) (last : b.lastPair = ended) :
    let y := chargedScreen table b
    let pair : ChargeEntry := { profile := p, kind := y.charge }
    let reports := pair ≠ ended ∧ ¬ (y.charge = .nothing ∧ ended.kind = .nothing)
    y.charge = chargeKind y.state table[p] ∧ y.lastPair = (if reports then pair else ended) ∧
    chargeMessages table n b = (if reports then [.charge n p y.charge] else []) := by
  subst seat last
  refine ⟨rfl, ?_, ?_⟩
  · exact if_congr pairDiffers_iff rfl rfl
  · exact if_congr pairDiffers_iff rfl rfl

/-- Table 3-2: from a closed gate every outcome settles state and reason, and no timer runs. -/
theorem applied_closed (p : Profile) (x : Screen) (j : Judgement) :
    applied false p x j = x.become j.settled.1 j.settled.2 none := by
  cases j with
  | admitted winding => cases winding <;> rfl
  | refused r => rfl
  | expired r => rfl

section Closed

variable (s : State) (n : ScreenNo) (noPass : Bool)

/-- The record that a test from a closed gate leaves, with its charge. -/
def State.closedTest : Screen := chargedScreen s.profiles.table (s.testedScreen n false noPass)

theorem State.testedScreen_closed : s.testedScreen n false noPass =
    (s.contentRead n noPass).become (s.judge (s.contentRead n noPass)).settled.1
      (s.judge (s.contentRead n noPass)).settled.2 none := applied_closed _ _ _

theorem State.closedTest_record :
    s.closedTest n noPass = { s.screens.cells[n] with
      state := (s.closedTest n noPass).state, reason := (s.closedTest n noPass).reason, timer := none
      event := (s.closedTest n noPass).event, override := (s.closedTest n noPass).override
      step := (s.closedTest n noPass).step, charge := (s.closedTest n noPass).charge
      lastPair := (s.closedTest n noPass).lastPair } := by
  obtain ⟨e, k, o, read⟩ := s.contentRead_eq n noPass
  rw [State.closedTest, State.testedScreen_closed, read]
  rfl

theorem State.testedScreen_lastPair : (s.testedScreen n false noPass).lastPair = s.screens.cells[n].lastPair := by
  obtain ⟨e, k, o, read⟩ := s.contentRead_eq n noPass
  rw [State.testedScreen_closed, read]
  rfl

/-- The content fields are those read. -/
theorem State.closedTest_content :
    (s.closedTest n noPass).event = (refreshed s.cache s.screens.cells[n]).event ∧
    (s.closedTest n noPass).step = resolve s.profiles.maps (contentRating (s.closedTest n noPass)) ∧
    (s.closedTest n noPass).override = (!noPass && s.passes.covers n (identityOf (s.closedTest n noPass))) := by
  rw [State.closedTest, State.testedScreen_closed]
  exact ⟨rfl, rfl, rfl⟩

/-- State and reason are those of the judgement. -/
theorem State.closedTest_judged : ((s.closedTest n noPass).state, (s.closedTest n noPass).reason) =
    (s.judge (s.closedTest n noPass)).settled := by
  rw [State.closedTest, State.testedScreen_closed]
  rfl

theorem Judgement.settled_started (j : Judgement) : j.settled.1 ≠ .dark ∧ j.settled.1 ≠ .waiting := by
  cases j with
  | admitted winding => cases winding <;> exact ⟨ScreenState.noConfusion, ScreenState.noConfusion⟩
  | refused r => exact ⟨ScreenState.noConfusion, ScreenState.noConfusion⟩
  | expired r => exact ⟨ScreenState.noConfusion, ScreenState.noConfusion⟩

theorem State.closedTest_started : (s.closedTest n noPass).state ≠ .dark ∧ (s.closedTest n noPass).state ≠ .waiting := by
  rw [(Prod.mk.inj (s.closedTest_judged n noPass)).1]
  exact Judgement.settled_started _

end Closed

/-! ### SEAT (R82, R77) -/

theorem screenDiffers_iff {a b : Screen} : screenDiffers a b = true ↔
    b.kind ≠ a.kind ∨ b.guideWait ≠ a.guideWait ∨ b.seat ≠ a.seat ∨ b.state ≠ a.state ∨ b.reason ≠ a.reason ∨
    b.service ≠ a.service ∨ b.descriptor ≠ a.descriptor ∨ b.event ≠ a.event ∨ b.override ≠ a.override := by
  simp only [screenDiffers, Bool.or_eq_true, bne_iff_ne, or_assoc, ne_comm]

section Seat

/-- R77: the record that a reseat leaves. -/
def State.reseatOutcome (s : State) (n : ScreenNo) (p : Slot) : Screen :=
  if s.screens.cells[n].state = .dark ∨ s.screens.cells[n].state = .waiting then
    chargedScreen s.profiles.table (reseatedScreen s.screens.cells[n] p)
  else (s.setScreen n (reseatedScreen s.screens.cells[n] p)).closedTest n true

variable {s t : State} {n : ScreenNo} {p : Slot}

/-- What a reseat makes of the charge, and the messages it sends. -/
theorem State.reseat_charges (s : State) (n : ScreenNo) (p : Slot) :
    let x := s.screens.cells[n]
    let ended : ChargeEntry := if x.charge = .nothing then x.lastPair else { profile := x.seat, kind := .nothing }
    let y := s.reseatOutcome n p
    let pair : ChargeEntry := { profile := p, kind := y.charge }
    let reports := pair ≠ ended ∧ ¬ (y.charge = .nothing ∧ ended.kind = .nothing)
    y.charge = chargeKind y.state s.profiles.table[p] ∧ y.lastPair = (if reports then pair else ended) ∧
    s.reseat n p = (s.setScreen n y).sendAll (leaveMessages n x ++ (if reports then [.charge n p y.charge] else [])) := by
  intro x ended
  by_cases resting : x.state = .dark ∨ x.state = .waiting
  · obtain ⟨kind, last, sent⟩ := chargedScreen_spec s.profiles.table n (b := reseatedScreen x p) (p := p) rfl
      (ended := ended) rfl
    rw [State.reseatOutcome, State.reseat_eq, if_pos resting, if_pos resting, State.sendAll_settleCharge, sent]
    exact ⟨kind, last, rfl⟩
  · have placed : (s.setScreen n (reseatedScreen x p)).screens.cells[n] = reseatedScreen x p := put_self _ _ _
    obtain ⟨kind, last, sent⟩ := chargedScreen_spec s.profiles.table n
      (b := (s.setScreen n (reseatedScreen x p)).testedScreen n false true) (p := p) (ended := ended)
      ((State.testedScreen_seat _ _ _ _).trans (by rw [placed]; rfl))
      ((State.testedScreen_lastPair _ _ _).trans (by rw [placed]; rfl))
    rw [State.reseatOutcome, State.reseat_eq, if_neg resting, if_neg resting, State.sendAll_test, sent]
    exact ⟨kind, last, rfl⟩

/-- A reseat reads the record and the context alone. -/
theorem State.reseatOutcome_congr (context : s.sameContext t) (screens : t.screens = s.screens) :
    t.reseatOutcome n p = s.reseatOutcome n p := by
  have tested : ∀ x, (t.setScreen n x).testedScreen n false true = (s.setScreen n x).testedScreen n false true :=
    fun x => State.testedScreen_of_context (s := s.setScreen n x) (t := t.setScreen n x) context
      (by rw [State.setScreen_cells, State.setScreen_cells, screens]) false true
  unfold State.reseatOutcome State.closedTest
  rw [screens, tested, State.setScreen_profiles, State.setScreen_profiles, context.1]

/-- The record that a reseat leaves, but for its charge: R77's two cases. -/
theorem State.reseatOutcome_record (s : State) (n : ScreenNo) (p : Slot) :
    let x := s.screens.cells[n]
    let y := s.reseatOutcome n p
    (x.state = .dark ∨ x.state = .waiting → y = { x with seat := p, charge := y.charge, lastPair := y.lastPair }) ∧
    (x.state ≠ .dark → x.state ≠ .waiting →
      y = { x with
        seat := p, state := y.state, reason := y.reason, event := y.event, step := y.step, override := false
        timer := none, charge := y.charge, lastPair := y.lastPair } ∧
      (∀ v : Half, x.service = some v → v ≠ 0 → y.event = s.cache.currentOf v) ∧
      (x.service = none ∨ x.service = some 0 → y.event = x.event) ∧
      y.step = resolve s.profiles.maps (contentRating y) ∧ (y.state, y.reason) = (s.judge y).settled) := by
  refine ⟨fun resting => ?_, fun live started => ?_⟩
  · rw [State.reseatOutcome, if_pos resting]
    rfl
  · rw [State.reseatOutcome, if_neg (not_or.mpr ⟨live, started⟩)]
    have placed : (s.setScreen n (reseatedScreen s.screens.cells[n] p)).screens.cells[n] =
        reseatedScreen s.screens.cells[n] p := put_self _ _ _
    have judged := (s.setScreen n (reseatedScreen s.screens.cells[n] p)).closedTest_judged n true
    have record := (s.setScreen n (reseatedScreen s.screens.cells[n] p)).closedTest_record n true
    obtain ⟨event, step, override⟩ := (s.setScreen n (reseatedScreen s.screens.cells[n] p)).closedTest_content n true
    rw [placed] at record event
    generalize (s.setScreen n (reseatedScreen s.screens.cells[n] p)).closedTest n true = y at *
    refine ⟨?_, fun v on broadcast => ?_, fun off => ?_, step, judged⟩
    · rw [override] at record
      exact record
    · exact event.trans (by rw [refreshed_of_broadcast _ (by exact on) broadcast]; rfl)
    · exact event.trans (by rw [refreshed_of_not_broadcast _ (by exact off)]; rfl)

theorem reseatOutcome_seat (s : State) (n : ScreenNo) (p : Slot) : (s.reseatOutcome n p).seat = p := by
  obtain ⟨resting, started⟩ := s.reseatOutcome_record n p
  by_cases rests : s.screens.cells[n].state = .dark ∨ s.screens.cells[n].state = .waiting
  · rw [resting rests]
  · obtain ⟨live, waits⟩ := not_or.mp rests
    rw [(started live waits).1]

/-- R77: a reseat to another profile, with its SCREEN notice. -/
theorem State.screenAct_reseat (other : p ≠ s.screens.cells[n].seat) :
    let x := s.screens.cells[n]
    let ended : ChargeEntry := if x.charge = .nothing then x.lastPair else { profile := x.seat, kind := .nothing }
    let y := s.reseatOutcome n p
    let pair : ChargeEntry := { profile := p, kind := y.charge }
    let reports := pair ≠ ended ∧ ¬ (y.charge = .nothing ∧ ended.kind = .nothing)
    (s.screenAct fun s => s.reseat n p) = (s.setScreen n y).sendAll
      (leaveMessages n x ++ (if reports then [.charge n p y.charge] else []) ++
        [.notice .screen .screen .every (screenBit n)]) := by
  obtain ⟨-, -, reseated⟩ := s.reseat_charges n p
  have differs : screenDiffers s.screens.cells[n] (s.reseatOutcome n p) = true :=
    screenDiffers_iff.mpr (.inr (.inr (.inl (by rw [reseatOutcome_seat]; exact other))))
  exact State.screenAct_of_changed (act := fun s => s.reseat n p) reseated differs

/-- R82 step 7: the PIN check, for a profile that holds one. -/
def State.seatCheck (s : State) (p : Slot) (pin : Option (List (Fin 10))) : State × PinOutcome :=
  if pinHeld s.profiles.table[p] = none then (s, .correct) else s.pinCheck p pin

theorem State.seatCheck_context (s : State) (p : Slot) (pin : Option (List (Fin 10))) :
    s.sameContext (s.seatCheck p pin).1 ∧ (s.seatCheck p pin).1.screens = s.screens := by
  unfold State.seatCheck
  split
  · exact ⟨s.sameContext_refl, rfl⟩
  · exact s.pinCheck_context p pin

theorem seatProfile_of_checked {pin : Option (List (Fin 10))} (filled : s.profiles.table[p] ≠ .empty)
    (other : p ≠ s.screens.cells[n].seat) : seatProfile n p pin s =
      match (s.seatCheck p pin).2 with
      | .correct => seatChecked n p (s.seatCheck p pin).1
      | .badPin => refuse (s.seatCheck p pin).1 .badPin
      | .lockedOut => refuse (s.seatCheck p pin).1 .lockedOut := by
  rw [seatProfile, if_neg filled, if_neg other, State.seatCheck]
  split
  · rfl
  · split <;> next checked => simp [checked]

theorem seatChecked_full (live : s.screens.cells[n].live = true) (full : s.seatFree p = false) :
    seatChecked n p s = (s, .bare .seatLimit) := by
  rw [seatChecked, live, full]
  rfl

theorem seatChecked_free (free : s.screens.cells[n].live = false ∨ s.seatFree p = true) :
    seatChecked n p s = (s.screenAct fun s => s.reseat n p, .ok []) := by
  refine if_neg ?_
  rcases free with dead | free
  · rw [dead]
    exact Bool.false_ne_true
  · rw [free, Bool.not_true, Bool.and_false]
    exact Bool.false_ne_true

theorem State.seatFree_congr (context : s.sameContext t) (screens : t.screens = s.screens) :
    t.seatFree p = s.seatFree p := by
  unfold State.seatFree State.liveSeats
  rw [context.1, screens]

theorem State.seatFree_eq {c : CommonPart} (seated : commonOf s.profiles.table[p] = some c) :
    s.seatFree p = decide (s.liveSeats p < c.seatLimit) := by
  rw [State.seatFree, seated]

theorem commonOf_ne_empty {q : Profile} {c : CommonPart} (common : commonOf q = some c) : q ≠ .empty := by
  rintro rfl
  cases common

end Seat

section SeatRequest

variable {r : Role} {n slot : Byte} {pin : RawPin} {s : State} {m : ScreenNo}

theorem mayAct_iff {x : Screen} : (r == .panel || tuningOwner x == r) = true ↔ r = .panel ∨ tuningOwner x = r := by
  rw [Bool.or_eq_true, beq_iff_eq, beq_iff_eq]

/-- R82 steps 3 to 8, for a screen that the role may seat. -/
def seatTaken (m : ScreenNo) (slot : Byte) (pin : RawPin) (s : State) : State × Answer :=
  if s.screens.box = .standby then refuse s .standby
  else
    match seatSlot slot, pinArgument pin with
    | some p, some digits => seatProfile m p digits s
    | _, _ => refuse s .badValue

theorem exec_seat (r : Role) (n slot : Byte) (pin : RawPin) (s : State) :
    exec (.seat r n slot pin) s = onRequest (.seat r n slot pin) r s fun s =>
      onScreen n (fun x => r == .panel || tuningOwner x == r) s fun m => seatTaken m slot pin s := rfl

theorem exec_seat_of_permitted (taken : s.handed r (.seat r n slot pin) = true) (named : n.toNat = m.val)
    (may : r = .panel ∨ tuningOwner s.screens.cells[m] = r) : exec (.seat r n slot pin) s =
      .next ((seatTaken m slot pin s).1.place r (seatTaken m slot pin s).2) := by
  rw [exec_seat]
  refine onRequest_onScreen_of_permitted taken named ?_ _
  exact mayAct_iff.mpr may

theorem seatTaken_standby (standby : s.screens.box = .standby) : seatTaken m slot pin s = (s, .bare .standby) :=
  if_pos standby

theorem seatTaken_bad (awake : s.screens.box = .awake) (bad : seatSlot slot = none ∨ pinArgument pin = none) :
    seatTaken m slot pin s = (s, .bare .badValue) := by
  refine (if_neg (by rw [awake]; exact BoxState.noConfusion)).trans ?_
  split
  next slot digits => simp [slot, digits] at bad
  next => rfl

theorem seatTaken_seats {p : Slot} {digits : Option (List (Fin 10))} (awake : s.screens.box = .awake)
    (slotted : seatSlot slot = some p) (pinned : pinArgument pin = some digits) :
    seatTaken m slot pin s = seatProfile m p digits s := by
  refine (if_neg (by rw [awake]; exact BoxState.noConfusion)).trans ?_
  rw [slotted, pinned]

end SeatRequest

/-- Settles O27: the checks in R82's order; then the reseat, which changes the seat and thus always raises its notice. -/
theorem seatChecksInOrderAndReseats : Obligations.SeatChecksInOrderAndReseats := by
  intro r n slot pin s taken
  refine ⟨fun outOfRange => ?_, ?_⟩
  · rw [exec_seat]
    exact onRequest_onScreen_of_outOfRange taken outOfRange _ _
  intro m named x mayAct
  refine ⟨fun other => ?_, fun may standby => ?_, fun may awake bad => ?_, fun p digits may awake slotted pinned => ?_⟩
  · rw [exec_seat]
    refine onRequest_onScreen_of_notPermitted taken named ?_ _
    exact Bool.eq_false_iff.mpr (mt mayAct_iff.mp other)
  · rw [exec_seat_of_permitted taken named may, seatTaken_standby standby]
  · rw [exec_seat_of_permitted taken named may, seatTaken_bad awake bad]
  rw [exec_seat_of_permitted taken named may, seatTaken_seats awake slotted pinned]
  refine ⟨fun empty => ?_, fun filled same => ?_, fun c common other => ?_⟩
  · rw [seatProfile, if_pos empty]
    rfl
  · rw [seatProfile, if_neg filled, if_pos same]
  rw [seatProfile_of_checked (commonOf_ne_empty common) other]
  obtain ⟨context, screens⟩ := s.seatCheck_context p digits
  have free : (s.seatCheck p digits).1.seatFree p = decide (s.liveSeats p < c.seatLimit) :=
    (State.seatFree_congr context screens).trans (State.seatFree_eq common)
  show _ ∧ _ ∧ _ ∧ _
  refine ⟨fun bad => ?_, fun locked => ?_, fun correct live full => ?_, fun correct room => ?_⟩
  · rw [show (s.seatCheck p digits).2 = .badPin from bad]
    rfl
  · rw [show (s.seatCheck p digits).2 = .lockedOut from locked]
    rfl
  · rw [show (s.seatCheck p digits).2 = .correct from correct]
    dsimp only
    rw [seatChecked_full (by rw [screens]; exact live) (free.trans (decide_eq_false (Nat.not_lt.mpr full)))]
    rfl
  · obtain ⟨kind, last, -⟩ := s.reseat_charges m p
    obtain ⟨resting, started⟩ := s.reseatOutcome_record m p
    refine ⟨s.reseatOutcome m p, ?_, kind, last, resting, started⟩
    rw [show (s.seatCheck p digits).2 = .correct from correct]
    dsimp only
    rw [seatChecked_free (room.imp (by rw [screens]; exact id) fun room => free.trans (decide_eq_true room)),
      State.screenAct_reseat (by rw [screens]; exact other), State.reseatOutcome_congr context screens, screens]
    rfl

/-! ### TUNE (R83, R64) -/

section Tune

variable {s : State} {n : ScreenNo} {service : Half} {d : Option Descriptor}

/-- R64: the record that an accepted TUNE leaves. -/
def State.tuneOutcome (s : State) (n : ScreenNo) (service : Half) (d : Option Descriptor) : Screen :=
  if s.waitsFor n service then chargedScreen s.profiles.table (waitingRecord s.screens.cells[n] service d)
  else (s.setScreen n (tunedRecord (leftScreen s.screens.cells[n]) service d)).closedTest n s.screens.cells[n].live

/-- R64 step 3: a broadcast whose current event is not held, on a screen with a guide wait. -/
theorem State.waitsFor_iff :
    s.waitsFor n service = true ↔ service ≠ 0 ∧ s.cache.currentOf service = none ∧ 0 < s.screens.cells[n].guideWait := by
  simp only [State.waitsFor, Bool.and_eq_true, bne_iff_ne, Option.isNone_iff_eq_none, decide_eq_true_eq, and_assoc]

/-- R64 step 1: the last pair sent once the screen has left what it showed. -/
theorem leftScreen_lastPair (x : Screen) : (leftScreen x).lastPair =
    if x.live = true ∧ x.charge ≠ .nothing then { profile := x.seat, kind := .nothing } else x.lastPair := by
  unfold leftScreen endedScreen
  cases live : x.live with
  | false => simp
  | true => by_cases silent : x.charge = .nothing <;> simp [silent]

theorem tuneMessages_eq (n : ScreenNo) (x : Screen) : tuneMessages n x =
    (if x.live = true ∧ x.charge ≠ .nothing then [.charge n x.seat .nothing] else []) ++
      (if x.live then [.dropScreen n] else []) := by
  unfold tuneMessages leaveMessages
  cases live : x.live with
  | false => simp
  | true => by_cases silent : x.charge = .nothing <;> simp [silent]

/-- What a TUNE makes of the charge, and the messages it sends. -/
theorem State.tuneTo_charges (s : State) (n : ScreenNo) (service : Half) (d : Option Descriptor) :
    let x := s.screens.cells[n]
    let ends := x.live = true ∧ x.charge ≠ .nothing
    let ended : ChargeEntry := if ends then { profile := x.seat, kind := .nothing } else x.lastPair
    let y := s.tuneOutcome n service d
    let pair : ChargeEntry := { profile := x.seat, kind := y.charge }
    let reports := pair ≠ ended ∧ ¬ (y.charge = .nothing ∧ ended.kind = .nothing)
    y.charge = chargeKind y.state s.profiles.table[x.seat] ∧ y.lastPair = (if reports then pair else ended) ∧
    s.tuneTo n service d = (s.setScreen n y).sendAll
      ((if ends then [.charge n x.seat .nothing] else []) ++ (if x.live then [.dropScreen n] else []) ++
        (if reports then [.charge n x.seat y.charge] else [])) := by
  intro x ends ended
  rw [← tuneMessages_eq]
  by_cases waits : s.waitsFor n service = true
  · obtain ⟨kind, last, sent⟩ := chargedScreen_spec s.profiles.table n (b := waitingRecord x service d) (p := x.seat)
      (leftScreen_seat x) (ended := ended) (leftScreen_lastPair x)
    rw [State.tuneOutcome, State.tuneTo_eq, if_pos waits, if_pos waits, State.sendAll_settleCharge, sent]
    exact ⟨kind, last, rfl⟩
  · have placed : (s.setScreen n (tunedRecord (leftScreen x) service d)).screens.cells[n] =
        tunedRecord (leftScreen x) service d := put_self _ _ _
    obtain ⟨kind, last, sent⟩ := chargedScreen_spec s.profiles.table n
      (b := (s.setScreen n (tunedRecord (leftScreen x) service d)).testedScreen n false x.live) (p := x.seat) (ended := ended)
      ((State.testedScreen_seat _ _ _ _).trans (by rw [placed]; exact leftScreen_seat x))
      ((State.testedScreen_lastPair _ _ _).trans (by rw [placed]; exact leftScreen_lastPair x))
    rw [State.tuneOutcome, State.tuneTo_eq, if_neg waits, if_neg waits, State.sendAll_test, sent]
    exact ⟨kind, last, rfl⟩

/-- What leaving a screen's content changes of the record: the charge alone. -/
theorem leftScreen_eq (x : Screen) : ∃ kind last, leftScreen x = { x with charge := kind, lastPair := last } := by
  unfold leftScreen
  split
  · exact ⟨_, _, rfl⟩
  · exact ⟨_, _, rfl⟩

theorem State.tuneOutcome_waits (waits : s.waitsFor n service = true) :
    s.tuneOutcome n service d = { s.screens.cells[n] with
      state := .waiting, reason := none, timer := some s.screens.cells[n].guideWait, service := some service
      descriptor := d, event := none, step := none, charge := (s.tuneOutcome n service d).charge
      lastPair := (s.tuneOutcome n service d).lastPair } := by
  obtain ⟨kind, last, left⟩ := leftScreen_eq s.screens.cells[n]
  rw [State.tuneOutcome, if_pos waits, waitingRecord, left]
  rfl

theorem State.tuneOutcome_tested (tests : ¬ s.waitsFor n service = true) :
    let x := s.screens.cells[n]
    let y := s.tuneOutcome n service d
    y = { x with
      state := y.state, reason := y.reason, timer := none, service := some service, descriptor := d
      event := (if service = 0 then none else s.cache.currentOf service), override := y.override, step := y.step
      charge := y.charge, lastPair := y.lastPair } ∧
    y.step = resolve s.profiles.maps (contentRating y) ∧
    (y.override = true ↔ x.live = false ∧ ∃ q ∈ s.passes.held, ∃ c : ContentId, identityOf y = some c ∧
      q.scope = .content n c) ∧
    (y.state, y.reason) = (s.judge y).settled := by
  intro x
  obtain ⟨kind, last, left⟩ := leftScreen_eq x
  have placed : (s.setScreen n (tunedRecord (leftScreen x) service d)).screens.cells[n] =
      tunedRecord (leftScreen x) service d := put_self _ _ _
  rw [State.tuneOutcome, if_neg tests]
  have judged := (s.setScreen n (tunedRecord (leftScreen x) service d)).closedTest_judged n x.live
  have record := (s.setScreen n (tunedRecord (leftScreen x) service d)).closedTest_record n x.live
  obtain ⟨event, step, override⟩ := (s.setScreen n (tunedRecord (leftScreen x) service d)).closedTest_content n x.live
  rw [placed] at record event
  generalize (s.setScreen n (tunedRecord (leftScreen x) service d)).closedTest n x.live = y at *
  have current : y.event = if service = 0 then none else s.cache.currentOf service := by
    rw [event]
    split
    next zero => rw [refreshed_of_not_broadcast _ (.inr (congrArg some zero))]; rfl
    next broadcast => rw [refreshed_of_broadcast _ rfl broadcast]; rfl
  refine ⟨?_, step, ?_, judged⟩
  · rw [current, left] at record
    exact record
  · rw [override, Bool.and_eq_true, Bool.not_eq_true', PassList.covers_iff]
    rfl

theorem State.tuneOutcome_content :
    (s.tuneOutcome n service d).state ≠ .dark ∧ (s.tuneOutcome n service d).service = some service ∧
    (s.tuneOutcome n service d).descriptor = d := by
  by_cases waits : s.waitsFor n service = true
  · rw [State.tuneOutcome_waits waits]
    exact ⟨ScreenState.noConfusion, rfl, rfl⟩
  · refine ⟨?_, ?_⟩
    · rw [State.tuneOutcome, if_neg waits]
      exact (State.closedTest_started _ _ _).1
    · obtain ⟨record, -⟩ := State.tuneOutcome_tested (d := d) waits
      rw [record]
      exact ⟨rfl, rfl⟩

/-- A TUNE to other content, or of a DARK screen, changes the screen. -/
theorem State.tuneOutcome_differs
    (moves : s.screens.cells[n].live = true → s.screens.cells[n].service ≠ some service ∨ s.screens.cells[n].descriptor ≠ d) :
    screenDiffers s.screens.cells[n] (s.tuneOutcome n service d) = true := by
  obtain ⟨live, onService, holds⟩ := State.tuneOutcome_content (s := s) (n := n) (service := service) (d := d)
  by_cases dark : s.screens.cells[n].state = .dark
  · exact screenDiffers_of_state (by rw [dark]; exact live.symm)
  · rw [screenDiffers_iff, onService, holds]
    rcases moves ((Screen.live_iff _).mpr dark) with other | other
    · exact .inr (.inr (.inr (.inr (.inr (.inl other.symm)))))
    · exact .inr (.inr (.inr (.inr (.inr (.inr (.inl other.symm))))))

/-! ### The checks of TUNE -/

theorem tuneContent_bad {raw : Option RawDescriptor}
    (bad : (service = 0 ∧ raw.bind descriptorOf = none) ∨ (service ≠ 0 ∧ raw ≠ none)) : tuneContent service raw = none := by
  unfold tuneContent
  rcases bad with ⟨zero, unread⟩ | ⟨broadcast, given⟩
  · rw [if_pos zero]
    cases raw with
    | none => rfl
    | some raw => exact Option.map_eq_none_iff.mpr unread
  · rw [if_neg broadcast]
    cases raw with
    | none => exact absurd rfl given
    | some raw => rfl

theorem tuneContent_good {raw : Option RawDescriptor} {given : Option Descriptor}
    (good : (service = 0 ∧ given ≠ none ∧ raw.bind descriptorOf = given) ∨ (service ≠ 0 ∧ raw = none ∧ given = none)) :
    tuneContent service raw = some given := by
  unfold tuneContent
  rcases good with ⟨zero, some_given, read⟩ | ⟨broadcast, rfl, rfl⟩
  · rw [if_pos zero]
    cases raw with
    | none => exact absurd read.symm some_given
    | some raw =>
      obtain ⟨x, rfl⟩ := Option.ne_none_iff_exists'.mp some_given
      exact Option.map_eq_some_iff.mpr ⟨x, read, rfl⟩
  · rw [if_neg broadcast]

theorem tuneChecked_same (live : s.screens.cells[n].live = true) (onService : s.screens.cells[n].service = some service)
    (holds : s.screens.cells[n].descriptor = d) :
    tuneChecked n service d s = (s, .ok [screenStateByte s.screens.cells[n].state]) := by
  refine if_pos ?_
  rw [live, onService, holds, beq_self_eq_true, beq_self_eq_true]
  rfl

theorem tuneChecked_full (dead : s.screens.cells[n].live = false) (full : s.seatFree s.screens.cells[n].seat = false) :
    tuneChecked n service d s = (s, .bare .seatLimit) := by
  unfold tuneChecked refuse
  dsimp only
  rw [dead, full]
  rfl

/-- R64: an accepted TUNE to other content, with its SCREEN notice and its answer. -/
theorem tuneChecked_moves_on
    (room : if s.screens.cells[n].live then s.screens.cells[n].service ≠ some service ∨ s.screens.cells[n].descriptor ≠ d
      else s.seatFree s.screens.cells[n].seat = true) :
    let x := s.screens.cells[n]
    let ends := x.live = true ∧ x.charge ≠ .nothing
    let ended : ChargeEntry := if ends then { profile := x.seat, kind := .nothing } else x.lastPair
    let y := s.tuneOutcome n service d
    let pair : ChargeEntry := { profile := x.seat, kind := y.charge }
    let reports := pair ≠ ended ∧ ¬ (y.charge = .nothing ∧ ended.kind = .nothing)
    tuneChecked n service d s = ((s.setScreen n y).sendAll
      ((if ends then [.charge n x.seat .nothing] else []) ++ (if x.live then [.dropScreen n] else []) ++
        (if reports then [.charge n x.seat y.charge] else []) ++
        [.notice .screen .screen .every (screenBit n)]), .ok [screenStateByte y.state]) := by
  have accepted : tuneChecked n service d s = tuneAnswer n (s.screenAct fun s => s.tuneTo n service d) := by
    unfold tuneChecked
    dsimp only
    cases live : s.screens.cells[n].live with
    | true =>
      rw [live, if_pos rfl] at room
      have other : (s.screens.cells[n].service == some service && s.screens.cells[n].descriptor == d) = false := by
        rw [Bool.and_eq_false_iff, beq_eq_false_iff_ne, beq_eq_false_iff_ne]
        exact room
      rw [Bool.true_and, other]
      rfl
    | false =>
      rw [live, if_neg Bool.false_ne_true] at room
      rw [room]
      rfl
  have moves : s.screens.cells[n].live = true →
      s.screens.cells[n].service ≠ some service ∨ s.screens.cells[n].descriptor ≠ d := by
    intro live
    rwa [live, if_pos rfl] at room
  obtain ⟨-, -, tuned⟩ := s.tuneTo_charges n service d
  have act := State.screenAct_of_changed (act := fun s => s.tuneTo n service d) tuned (State.tuneOutcome_differs moves)
  rw [accepted, act, tuneAnswer, State.sendAll_screens, State.setScreen_cells, put_self]

end Tune

section TuneRequest

variable {r : Role} {n : Byte} {service : Half} {d : Option RawDescriptor} {s : State} {m : ScreenNo}

/-- R83 steps 3 to 6, for a screen that the role owns. -/
def tuneTaken (m : ScreenNo) (service : Half) (d : Option RawDescriptor) (s : State) : State × Answer :=
  if s.screens.box = .standby then refuse s .standby
  else
    match tuneContent service d with
    | some c => tuneChecked m service c s
    | none => refuse s .badValue

theorem exec_tune (r : Role) (n : Byte) (service : Half) (d : Option RawDescriptor) (s : State) :
    exec (.tune r n service d) s = onRequest (.tune r n service d) r s fun s =>
      onScreen n (fun x => tuningOwner x == r) s fun m => tuneTaken m service d s := rfl

theorem exec_tune_of_owner (taken : s.handed r (.tune r n service d) = true) (named : n.toNat = m.val)
    (owner : tuningOwner s.screens.cells[m] = r) : exec (.tune r n service d) s =
      .next ((tuneTaken m service d s).1.place r (tuneTaken m service d s).2) := by
  rw [exec_tune]
  refine onRequest_onScreen_of_permitted taken named ?_ _
  exact beq_iff_eq.mpr owner

theorem tuneTaken_standby (standby : s.screens.box = .standby) : tuneTaken m service d s = (s, .bare .standby) :=
  if_pos standby

theorem tuneTaken_bad (awake : s.screens.box = .awake) (bad : tuneContent service d = none) :
    tuneTaken m service d s = (s, .bare .badValue) := by
  rw [tuneTaken, if_neg (by rw [awake]; exact BoxState.noConfusion), bad]
  rfl

theorem tuneTaken_good {given : Option Descriptor} (awake : s.screens.box = .awake)
    (good : tuneContent service d = some given) : tuneTaken m service d s = tuneChecked m service given s := by
  rw [tuneTaken, if_neg (by rw [awake]; exact BoxState.noConfusion), good]

end TuneRequest

/-- Settles O28: the checks in R83's order; then the move, to WAITING or by a test from a closed gate. -/
theorem tuneWaitsOrTestsAtOnce : Obligations.TuneWaitsOrTestsAtOnce := by
  intro r n service d s taken
  refine ⟨fun outOfRange => ?_, ?_⟩
  · rw [exec_tune]
    exact onRequest_onScreen_of_outOfRange taken outOfRange _ _
  intro m named x owns
  refine ⟨fun other => ?_, fun owner standby => ?_, fun owner awake bad => ?_, fun given owner awake good => ?_⟩
  · rw [exec_tune]
    refine onRequest_onScreen_of_notPermitted taken named ?_ _
    exact beq_eq_false_iff_ne.mpr other
  · rw [exec_tune_of_owner taken named owner, tuneTaken_standby standby]
  · rw [exec_tune_of_owner taken named owner, tuneTaken_bad awake (tuneContent_bad bad)]
  rw [exec_tune_of_owner taken named owner, tuneTaken_good awake (tuneContent_good good)]
  refine ⟨fun live onService holds => ?_, fun c seated dead full => ?_, fun c seated room => ?_⟩
  · rw [tuneChecked_same live onService holds]
  · rw [tuneChecked_full dead ((State.seatFree_eq seated).trans (decide_eq_false (Nat.not_lt.mpr full)))]
  · have moves := tuneChecked_moves_on (s := s) (n := m) (service := service) (d := given) (by
      rw [State.seatFree_eq seated, decide_eq_true_eq]
      exact room)
    obtain ⟨kind, last, -⟩ := s.tuneTo_charges m service given
    refine ⟨s.tuneOutcome m service given, ?_, kind, last, fun waits => ?_, fun tests => ?_⟩
    · rw [moves]
      rfl
    · have none_given : given = none := by
        rcases good with ⟨zero, -⟩ | ⟨-, -, none_given⟩
        · exact absurd zero waits.1
        · exact none_given
      subst none_given
      exact State.tuneOutcome_waits (State.waitsFor_iff.mpr waits)
    · exact State.tuneOutcome_tested (mt State.waitsFor_iff.mp tests)

/-! ### Acts on the screens in turn, with their messages (R72, R79) -/

section Folds

variable {s : State}

/-- An act on each screen in turn sends what each screen sends by itself, in order. -/
theorem foldScreens_sends {f : State → ScreenNo → State} {ms : State → ScreenNo → List Instr}
    (acts : ∀ (t : State) (n : ScreenNo), f t n = (t.withScreens (f t n).screens).sendAll (ms t n))
    (only : ∀ (t : State) (n : ScreenNo), t.onlyScreens (f t n))
    (others : ∀ (t : State) (n m : ScreenNo), n ≠ m → (f t n).screens.cells[m] = t.screens.cells[m])
    (reads : ∀ (t u : State) (n : ScreenNo), t.onlyScreens u → u.screens.cells[n] = t.screens.cells[n] → ms u n = ms t n)
    (l : List ScreenNo) (distinct : l.Nodup) (s : State) :
    l.foldl f s = (s.withScreens (l.foldl f s).screens).sendAll (l.flatMap (ms s)) := by
  induction l generalizing s with
  | nil => simp
  | cons m l ih =>
    obtain ⟨fresh, rest⟩ := List.nodup_cons.mp distinct
    have same : l.flatMap (ms (f s m)) = l.flatMap (ms s) := List.flatMap_congr fun n inside =>
      reads s (f s m) n (only s m) (others s m n fun e => fresh (e ▸ inside))
    rw [List.foldl_cons]
    refine (ih rest (f s m)).trans ?_
    rw [same]
    generalize (l.foldl f (f s m)).screens = x
    rw [acts s m, List.flatMap_cons, ← State.sendAll_sendAll]
    rfl

/-- The SCREEN notice of an act on several screens. -/
theorem State.screenAct_of_screens {act : State → State} {x : ScreenController} {ms : List Instr}
    (acted : act s = (s.withScreens x).sendAll ms) : s.screenAct act = (s.withScreens x).sendAll (ms ++
      (if changedScreens s.screens x = 0 then [] else [.notice .screen .screen .every (changedScreens s.screens x)])) := by
  rw [State.screenAct, acted, State.tellChanges, State.sendAll_screens, State.withScreens_screens]
  split
  · rw [List.append_nil]
  · rw [State.raiseScreens_eq, State.sendAll_sendAll]

end Folds

/-! ### Entry to STANDBY (R79) -/

/-- R79 step 1: the messages of one screen. -/
def standbyMessages (n : ScreenNo) (x : Screen) : List Instr := if x.live then leaveMessages n x else [.dropScreen n]

section Standby

variable {s : State}

theorem State.darkenAll_sends (s : State) : s.darkenAll = (s.withScreens s.darkenAll.screens).sendAll
    (screenNumbers.flatMap fun n => standbyMessages n s.screens.cells[n]) := by
  refine foldScreens_sends (ms := fun t n => standbyMessages n t.screens.cells[n]) (fun t n => ?acts) (fun t n => ?only)
    (fun t n m other => ?others) (fun t u n _ cell => by rw [cell]) screenNumbers screenNumbers_nodup s
  case acts =>
    unfold standbyMessages
    split
    next live => rw [State.darken_of_live ((Screen.live_iff _).mp live)]; rfl
    next dead => rfl
  case only =>
    split
    · exact t.darken_onlyScreens n
    · exact t.send_onlyScreens _
  case others =>
    split
    · exact t.darken_other other
    · rfl

/-- The controller once every screen is DARK with seat 0. -/
def ScreenController.stoodBy (s : State) : ScreenController := s.darkenAll.screens.unseated

theorem stoodBy_cell (s : State) (n : ScreenNo) :
    (ScreenController.stoodBy s).cells[n] = { darkOf s.screens.cells[n] with seat := 0 } := by
  rw [ScreenController.stoodBy, ScreenController.unseated_cell, s.darkenAll_spec.2 n]

theorem State.enterStandby_sends (s : State) : s.enterStandby = (s.withScreens (ScreenController.stoodBy s)).sendAll
    ((screenNumbers.flatMap fun n => standbyMessages n s.screens.cells[n]) ++
      [.standbyEntryReport, .notice .screen .screen .every (changedScreens s.screens (ScreenController.stoodBy s))]) := by
  rw [State.enterStandby_eq, State.raiseScreens_eq, State.send_eq, State.sendAll_screens, State.withScreens_screens,
    State.sendAll_sendAll]
  have darkened := s.darkenAll_sends
  unfold ScreenController.stoodBy
  generalize s.darkenAll = t at *
  generalize t.screens.unseated = x
  rw [darkened, List.singleton_append, ← State.sendAll_sendAll]
  rfl

/-- R79: each screen drops its passes exactly once. -/
theorem dropScreen_once (x : ScreenNo → Screen) (n : ScreenNo) :
    ((screenNumbers.flatMap fun m => standbyMessages m (x m)).filter (· == .dropScreen n)).length = 1 := by
  have one : ∀ m : ScreenNo, ((standbyMessages m (x m)).filter (· == .dropScreen n)).length = if m = n then 1 else 0 := by
    intro m
    unfold standbyMessages leaveMessages
    by_cases same : m = n <;> split_ifs <;> simp [same]
  have sum : ∀ n : ScreenNo, (screenNumbers.map fun m => if m = n then 1 else 0).sum = 1 := by decide
  rw [List.filter_flatMap, List.length_flatMap]
  simp only [one]
  exact sum n

theorem mem_standbyMessages {n : ScreenNo} {x : Screen} (live : x.state ≠ .dark) (charging : x.charge ≠ .nothing) :
    .charge n x.seat .nothing ∈ standbyMessages n x := by
  simp [standbyMessages, leaveMessages, (Screen.live_iff x).mpr live, charging]

/-- R69, R79: the record once DARK. -/
theorem darkOf_record (x : Screen) : (darkOf x).state = .dark ∧ (darkOf x).kind = x.kind ∧ (darkOf x).guideWait = x.guideWait ∧
    (x.state ≠ .dark → (darkOf x).service = none ∧ (darkOf x).descriptor = none ∧ (darkOf x).event = none ∧
      (darkOf x).reason = none ∧ (darkOf x).override = false ∧ (darkOf x).timer = none ∧ (darkOf x).charge = .nothing) := by
  by_cases live : x.live = true
  · rw [darkOf, if_pos live]
    exact ⟨rfl, rfl, rfl, fun _ => ⟨rfl, rfl, rfl, rfl, rfl, rfl, rfl⟩⟩
  · rw [darkOf, if_neg live]
    have dark : x.state = .dark := by simpa [Screen.live_iff] using live
    exact ⟨dark, rfl, rfl, fun other => absurd dark other⟩

end Standby

/-! ### The box state (R78 to R80, R86) -/

section Box

variable {s : State}

theorem exec_setBox_of_taken {r : Role} {box : Byte} (taken : s.handed r (.setBox r box) = true) :
    exec (.setBox r box) s = .next ((if box = 0 then s.setBoxInputs .awake s.screens.standbyLevel
      else if box = 1 then s.setBoxInputs .standby s.screens.standbyLevel else s).place r (.ok [])) := by
  have base : exec (.setBox r box) s = execSetBox r box s := rfl
  rw [base, execSetBox, onRequest_handed taken]

theorem exec_standbyLevel_of_taken {level : Bool} {rest : List Instr}
    (taken : takeFrom (.standbyLevel level) s.transit = some rest) :
    exec (.standbyLevel level) s = .next ((s.withTransit rest).setBoxInputs s.screens.requested level) := by
  have base : exec (.standbyLevel level) s = execStandbyLevel level s := rfl
  rw [base, execStandbyLevel, onMessage_taken taken]
  rfl

theorem ScreenController.box_standby_iff (c : ScreenController) :
    c.box = .standby ↔ c.requested = .standby ∨ c.standbyLevel = true := by
  unfold ScreenController.box
  split
  next asked => simp [asked]
  next other => simp [other]

theorem State.setBoxInputs_same {q : BoxState} {l : Bool} (same : (s.screens.withInputs q l).box = s.screens.box) :
    s.setBoxInputs q l = s.withScreens (s.screens.withInputs q l) := by
  rw [State.setBoxInputs_eq, if_pos same.symm]

theorem State.setBoxInputs_wakes {q : BoxState} {l : Bool} (awake : (s.screens.withInputs q l).box = .awake)
    (before : s.screens.box = .standby) : s.setBoxInputs q l =
      (s.withScreens (s.screens.withInputs q l)).sendAll [.notice .screen .screen .every 0] := by
  rw [State.setBoxInputs_eq, awake, before, if_neg BoxState.noConfusion, if_neg BoxState.noConfusion,
    State.raiseScreens_eq]

theorem State.setBoxInputs_standsBy {q : BoxState} {l : Bool} (standby : (s.screens.withInputs q l).box = .standby)
    (before : s.screens.box = .awake) :
    s.setBoxInputs q l = (s.withScreens (s.screens.withInputs q l)).enterStandby := by
  rw [State.setBoxInputs_eq, standby, before, if_neg BoxState.noConfusion, if_pos rfl]

theorem stoodBy_inputs (s : State) : (ScreenController.stoodBy s).requested = s.screens.requested ∧
    (ScreenController.stoodBy s).standbyLevel = s.screens.standbyLevel := by
  obtain ⟨x, ms, darkened, requested, level⟩ := s.darkenAll_spec.1
  unfold ScreenController.stoodBy
  rw [darkened]
  exact ⟨requested, level⟩

end Box

/-- Settles O30: the two inputs by their requests, the box state by its cases; entry to STANDBY by the fold over screens. -/
theorem boxStateFollowsItsTwoInputs : Obligations.BoxStateFollowsItsTwoInputs := by
  refine ⟨fun r box s taken => ?_, fun level rest s taken => exec_standbyLevel_of_taken taken, fun q l s => ?_⟩
  · rw [exec_setBox_of_taken taken]
    refine ⟨fun zero => by rw [if_pos zero], fun one => ?_, fun large => ?_⟩
    · rw [one, if_neg (by decide), if_pos rfl]
    · rw [if_neg (by rintro rfl; simp at large), if_neg (by rintro rfl; simp at large)]
  refine ⟨ScreenController.box_standby_iff _, State.setBoxInputs_same, State.setBoxInputs_wakes, fun standby awake => ?_⟩
  obtain ⟨requested, level⟩ := stoodBy_inputs (s.withScreens (s.screens.withInputs q l))
  refine ⟨ScreenController.stoodBy (s.withScreens (s.screens.withInputs q l)),
    screenNumbers.flatMap fun n => standbyMessages n s.screens.cells[n],
    changedScreens s.screens (ScreenController.stoodBy (s.withScreens (s.screens.withInputs q l))), ?_, requested, level,
    fun n => ?_⟩
  · rw [State.setBoxInputs_standsBy standby awake, State.enterStandby_sends]
    rfl
  · have cell : (ScreenController.stoodBy (s.withScreens (s.screens.withInputs q l))).cells[n] =
        { darkOf s.screens.cells[n] with seat := 0 } := stoodBy_cell _ n
    obtain ⟨dark, kind, wait, cleared⟩ := darkOf_record s.screens.cells[n]
    refine ⟨by rw [cell]; exact dark, by rw [cell], by rw [cell]; exact kind, by rw [cell]; exact wait,
      fun live => by rw [cell]; exact cleared live, dropScreen_once (fun m => s.screens.cells[m]) n,
      fun live charging => ?_, changedScreens_getLsbD _ _ n⟩
    exact List.mem_flatMap.mpr ⟨n, mem_screenNumbers n, mem_standbyMessages live charging⟩

/-! ### Messages that test the screens they concern (R65, R70, R73 to R75) -/

theorem applied_lastPair (fromOpen : Bool) (p : Profile) (x : Screen) (j : Judgement) :
    (applied fromOpen p x j).lastPair = x.lastPair := by
  unfold applied closeFor stayClosing
  cases j with
  | admitted winding => rfl
  | refused r => rfl
  | expired r =>
    dsimp only
    split_ifs
    · rfl
    · rfl
    · split
      · split <;> rfl
      · rfl
    · rfl

/-- R59: a CHARGE is due when the pair differs from the last one sent. -/
def chargeDue (a b : Screen) : Prop :=
  ({ profile := b.seat, kind := b.charge } : ChargeEntry) ≠ a.lastPair ∧ ¬ (b.charge = .nothing ∧ a.lastPair.kind = .nothing)

/-- R72, R59: the messages of an act on the screens that a condition names: their CHARGEs, and one notice of what changed. -/
def tellsOf (before after : ScreenController) (tested : ScreenNo → Prop) (ms : List Instr) : Prop :=
  ∃ (charges : List Instr) (changed : ScreenSet),
    ms = charges ++ (if changed = 0 then [] else [.notice .screen .screen .every changed]) ∧ charges.Nodup ∧
    (∀ m : Instr, m ∈ charges ↔ ∃ n : ScreenNo, tested n ∧ chargeDue before.cells[n] after.cells[n] ∧
      m = .charge n after.cells[n].seat after.cells[n].charge) ∧
    ∀ n : ScreenNo, let a := before.cells[n]; let b := after.cells[n]
      (changed.getLsbD n = true ↔ b.kind ≠ a.kind ∨ b.guideWait ≠ a.guideWait ∨ b.seat ≠ a.seat ∨ b.state ≠ a.state ∨
        b.reason ≠ a.reason ∨ b.service ≠ a.service ∨ b.descriptor ≠ a.descriptor ∨ b.event ≠ a.event ∨
        b.override ≠ a.override)

section Tests

variable {s : State} {n : ScreenNo}

theorem State.testedScreen_lastPair_open (s : State) (n : ScreenNo) (o p : Bool) :
    (s.testedScreen n o p).lastPair = s.screens.cells[n].lastPair := by
  obtain ⟨e, k, c, read⟩ := s.contentRead_eq n p
  rw [State.testedScreen, applied_lastPair, read]

/-- The CHARGE of a test, by the record before and after. -/
theorem mem_testMessages_iff (s : State) (n : ScreenNo) (o p : Bool) (m : Instr) :
    m ∈ chargeMessages s.profiles.table n (s.testedScreen n o p) ↔
      chargeDue s.screens.cells[n] (s.test n o p).screens.cells[n] ∧
        m = .charge n (s.test n o p).screens.cells[n].seat (s.test n o p).screens.cells[n].charge := by
  rw [State.test_cell, chargeDue, ← s.testedScreen_lastPair_open n o p]
  by_cases differs : pairDiffers (chargePair s.profiles.table (s.testedScreen n o p)) (s.testedScreen n o p).lastPair = true
  · rw [chargeMessages_differs n differs, List.mem_singleton]
    exact (and_iff_right (pairDiffers_iff.mp differs)).symm
  · rw [chargeMessages_same n (Bool.eq_false_iff.mpr differs)]
    exact iff_of_false List.not_mem_nil fun ⟨due, _⟩ => differs (pairDiffers_iff.mpr due)

/-- A test reads nothing in transit. -/
theorem State.test_withTransit (s : State) (rest : List Instr) (n : ScreenNo) (o p : Bool) :
    ((s.withTransit rest).test n o p).screens.cells[n] = (s.test n o p).screens.cells[n] := by
  rw [State.test_cell, State.test_cell]
  rfl

/-- One screen tested from the gate it has, where a condition holds. -/
def State.testIf (tested : State → ScreenNo → Bool) (s : State) (n : ScreenNo) : State :=
  if tested s n then s.test n (s.gate n) false else s

/-- The condition reads the screen's own record and nothing else of the screens. -/
def readsOwn (tested : State → ScreenNo → Bool) : Prop :=
  ∀ (s t : State) (n : ScreenNo), s.onlyScreens t → t.screens.cells[n] = s.screens.cells[n] → tested t n = tested s n

/-- The messages of one screen's test. -/
def State.testIfMessages (tested : State → ScreenNo → Bool) (s : State) (n : ScreenNo) : List Instr :=
  if tested s n then chargeMessages s.profiles.table n (s.testedScreen n (s.gate n) false) else []

variable {tested : State → ScreenNo → Bool}

theorem State.testIf_only (s : State) (n : ScreenNo) : s.onlyScreens (s.testIf tested n) := by
  unfold State.testIf
  split
  · exact s.test_onlyScreens n _ _
  · exact s.onlyScreens_refl

theorem State.testIf_other (s : State) {m : ScreenNo} (other : n ≠ m) :
    (s.testIf tested n).screens.cells[m] = s.screens.cells[m] := by
  unfold State.testIf
  split
  · exact s.test_other other _ _
  · rfl

theorem State.gate_congr {t : State} (cell : t.screens.cells[n] = s.screens.cells[n]) : t.gate n = s.gate n := by
  rw [State.gate, State.gate, cell]

theorem State.testIf_reads (own : readsOwn tested) (s t : State) (n : ScreenNo) (only : s.onlyScreens t)
    (cell : t.screens.cells[n] = s.screens.cells[n]) :
    (t.testIf tested n).screens.cells[n] = (s.testIf tested n).screens.cells[n] := by
  unfold State.testIf
  rw [own s t n only cell, State.gate_congr cell]
  split
  · exact State.test_cell_congr only cell _ _
  · exact cell

theorem State.testIf_sends (s : State) (n : ScreenNo) : s.testIf tested n =
    (s.withScreens (s.testIf tested n).screens).sendAll (s.testIfMessages tested n) := by
  unfold State.testIf State.testIfMessages
  split
  · rw [State.test_eq]
    rfl
  · simp

theorem State.testIfMessages_reads (own : readsOwn tested) (s t : State) (n : ScreenNo) (only : s.onlyScreens t)
    (cell : t.screens.cells[n] = s.screens.cells[n]) : t.testIfMessages tested n = s.testIfMessages tested n := by
  unfold State.testIfMessages
  rw [own s t n only cell, State.gate_congr cell, State.testedScreen_of_context only.context cell, only.context.1]

theorem State.testIfMessages_nodup (own : readsOwn tested) (s : State) :
    (screenNumbers.flatMap (s.testIfMessages tested)).Nodup := by
  refine List.nodup_flatMap.mpr ⟨fun n _ => ?_, ?_⟩
  · unfold State.testIfMessages chargeMessages
    split_ifs <;> simp
  · refine screenNumbers_nodup.imp fun {m n} other => ?_
    have sender : ∀ (k : ScreenNo) (i : Instr), i ∈ s.testIfMessages tested k → ∃ p c, i = .charge k p c := by
      intro k i
      unfold State.testIfMessages
      split
      · rw [mem_testMessages_iff]
        exact fun ⟨_, sent⟩ => ⟨_, _, sent⟩
      · exact fun none => absurd none List.not_mem_nil
    intro i of_m of_n
    obtain ⟨p, c, rfl⟩ := sender m i of_m
    obtain ⟨q, d, same⟩ := sender n _ of_n
    cases same
    exact other rfl

/-- Screens 0 to 3 in order, tested where a condition holds: each as it stood before, with its own CHARGE. -/
theorem State.screenAct_tests (own : readsOwn tested) (s : State) :
    ∃ (x : ScreenController) (ms : List Instr),
      (s.screenAct fun s => screenNumbers.foldl (State.testIf tested) s) = (s.withScreens x).sendAll ms ∧
      x.requested = s.screens.requested ∧ x.standbyLevel = s.screens.standbyLevel ∧
      tellsOf s.screens x (fun n => tested s n = true) ms ∧
      ∀ n : ScreenNo, (tested s n = false → x.cells[n] = s.screens.cells[n]) ∧
        (tested s n = true → x.cells[n] = (s.test n (s.gate n) false).screens.cells[n]) := by
  have sends := foldScreens_sends (f := State.testIf tested) (ms := State.testIfMessages tested)
    State.testIf_sends State.testIf_only (fun t n m other => t.testIf_other other)
    (State.testIfMessages_reads own) screenNumbers screenNumbers_nodup s
  obtain ⟨⟨x, ms, folded, requested, level⟩, cells⟩ := foldScreens (State.testIf tested) State.testIf_only
    (fun t n m other => t.testIf_other other) (State.testIf_reads own) screenNumbers screenNumbers_nodup s
  have cell : ∀ n : ScreenNo, x.cells[n] = (s.testIf tested n).screens.cells[n] := by
    intro n
    have at_n := cells n
    rwa [if_pos (mem_screenNumbers n), folded] at at_n
  have tests : ∀ n : ScreenNo, tested s n = true → x.cells[n] = (s.test n (s.gate n) false).screens.cells[n] :=
    fun n holds => by rw [cell n, State.testIf, if_pos holds]
  have screens : (screenNumbers.foldl (State.testIf tested) s).screens = x := by rw [folded]; rfl
  rw [screens] at sends
  have act := State.screenAct_of_screens (act := fun s => screenNumbers.foldl (State.testIf tested) s) sends
  refine ⟨x, _, act, requested, level, ⟨_, _, rfl, s.testIfMessages_nodup own, fun m => ?_, fun n => ?_⟩,
    fun n => ⟨fun skips => ?_, tests n⟩⟩
  · rw [List.mem_flatMap]
    constructor
    · rintro ⟨n, -, sent⟩
      unfold State.testIfMessages at sent
      split at sent
      next holds =>
        rw [mem_testMessages_iff, ← tests n holds] at sent
        exact ⟨n, holds, sent⟩
      next => exact absurd sent List.not_mem_nil
    · rintro ⟨n, holds, sent⟩
      refine ⟨n, mem_screenNumbers n, ?_⟩
      rw [State.testIfMessages, if_pos holds, mem_testMessages_iff, ← tests n holds]
      exact sent
  · rw [changedScreens_getLsbD]
    exact screenDiffers_iff
  · rw [cell n, State.testIf, if_neg (by rw [skips]; exact Bool.false_ne_true)]

end Tests

/-! ### Which screens a message tests (Table 3-5) -/

section Concerned

variable {s : State} {i : Instr} {rest : List Instr}

/-- The screen is live, does not wait, and is concerned. -/
def startedAnd (c : ScreenNo → Screen → Bool) (s : State) (n : ScreenNo) : Bool :=
  c n s.screens.cells[n] && !(s.screens.cells[n].state == .dark || s.screens.cells[n].state == .waiting)

theorem startedAnd_iff {c : ScreenNo → Screen → Bool} {n : ScreenNo} : startedAnd c s n = true ↔
    c n s.screens.cells[n] = true ∧ s.screens.cells[n].state ≠ .dark ∧ s.screens.cells[n].state ≠ .waiting := by
  simp [startedAnd, not_or]

theorem readsOwn_startedAnd (c : ScreenNo → Screen → Bool) : readsOwn (startedAnd c) := by
  intro s t n _ cell
  rw [startedAnd, startedAnd, cell]

theorem State.retestWhere_eq (s : State) (c : ScreenNo → Screen → Bool) :
    s.retestWhere c = screenNumbers.foldl (State.testIf (startedAnd c)) s := by
  have each : ∀ (t : State) (n : ScreenNo),
      (if c n t.screens.cells[n] then t.retest n else t) = t.testIf (startedAnd c) n := by
    intro t n
    unfold State.testIf State.retest
    by_cases concerned : c n t.screens.cells[n] = true
    · by_cases rests : t.screens.cells[n].state = .dark ∨ t.screens.cells[n].state = .waiting
      · rw [if_pos concerned, if_pos rests, if_neg fun started => absurd rests
          (not_or.mpr (startedAnd_iff.mp started).2)]
      · rw [if_pos concerned, if_neg rests, if_pos (startedAnd_iff.mpr ⟨concerned, not_or.mp rests⟩)]
    · rw [if_neg concerned, if_neg fun started => concerned (startedAnd_iff.mp started).1]
  exact congrArg (fun f => screenNumbers.foldl f s) (funext fun t => funext fun n => each t n)

theorem exec_warn (p : Slot) (reason : WarnReason) (s : State) :
    exec (.warn p reason) s = onMessage (.warn p reason) s fun s => s.retestSeated p := rfl

theorem exec_exhausted (p : Slot) (s : State) :
    exec (.exhausted p) s = onMessage (.exhausted p) s fun s => s.retestSeated p := rfl

theorem exec_replenished (p : Slot) (s : State) :
    exec (.replenished p) s = onMessage (.replenished p) s fun s => s.retestSeated p := rfl

theorem exec_curfewOn (p : Slot) (s : State) :
    exec (.curfewOn p) s = onMessage (.curfewOn p) s fun s => s.retestSeated p := rfl

theorem exec_curfewOff (p : Slot) (s : State) :
    exec (.curfewOff p) s = onMessage (.curfewOff p) s fun s => s.retestSeated p := rfl

theorem exec_rolloverTaken (s : State) : exec .rolloverTaken s = onMessage .rolloverTaken s fun s => s.retestAll := rfl

theorem exec_clockSet (s : State) : exec .clockSet s = onMessage .clockSet s fun s => s.retestAll := rfl

theorem exec_profileChanged_one (p : Slot) (s : State) : exec (.profileChanged (.one p)) s =
    onMessage (.profileChanged (.one p)) s fun s => s.retestSeated p := rfl

theorem exec_profileChanged_all (s : State) :
    exec (.profileChanged .all) s = onMessage (.profileChanged .all) s fun s => s.retestAll := rfl

theorem exec_passAdded (pass : PassNote) (s : State) :
    exec (.passAdded pass) s = onMessage (.passAdded pass) s fun s => s.retestForPass pass.scope := rfl

theorem exec_passRemoved (pass : PassNote) (s : State) :
    exec (.passRemoved pass) s = onMessage (.passRemoved pass) s fun s => s.retestForPass pass.scope := rfl

theorem State.retestForPass_content {scope : PassScope} {m : ScreenNo} {c : ContentId} (content : scope = .content m c)
    (s : State) : s.retestForPass scope = s.screenAct fun s => s.retestWhere fun n _ => n == m := by
  rw [content]
  rfl

theorem State.retestForPass_curfew {scope : PassScope} {p : Slot} (curfew : scope = .curfew p) (s : State) :
    s.retestForPass scope = s.screenAct fun s => s.retestWhere fun _ x => x.seat == p := by
  rw [curfew]
  rfl

/-- Table 3-5: what a pass's scope concerns. -/
theorem State.retestForPass_eq {scope : PassScope} {c : ScreenNo → Screen → Bool}
    (tests : (match scope with
      | .content m _ => some fun n _ => n == m
      | .curfew p => some fun _ x => x.seat == p) = some c) (s : State) :
    s.retestForPass scope = s.screenAct fun s => s.retestWhere c := by
  cases scope with
  | content m id => cases tests; exact State.retestForPass_content rfl s
  | curfew p => cases tests; exact State.retestForPass_curfew rfl s

/-- Table 3-5: a message retests the screens it concerns. -/
theorem exec_of_testedBy {c : ScreenNo → Screen → Bool} (tests : testedBy i = some c)
    (taken : takeFrom i s.transit = some rest) :
    exec i s = .next ((s.withTransit rest).screenAct fun s => s.retestWhere c) := by
  cases i with
  | warn p reason => cases tests; rw [exec_warn, onMessage_taken taken]; rfl
  | exhausted p => cases tests; rw [exec_exhausted, onMessage_taken taken]; rfl
  | replenished p => cases tests; rw [exec_replenished, onMessage_taken taken]; rfl
  | curfewOn p => cases tests; rw [exec_curfewOn, onMessage_taken taken]; rfl
  | curfewOff p => cases tests; rw [exec_curfewOff, onMessage_taken taken]; rfl
  | rolloverTaken => cases tests; rw [exec_rolloverTaken, onMessage_taken taken]; rfl
  | clockSet => cases tests; rw [exec_clockSet, onMessage_taken taken]; rfl
  | profileChanged which =>
    cases which with
    | one p => cases tests; rw [exec_profileChanged_one, onMessage_taken taken]; rfl
    | all => cases tests; rw [exec_profileChanged_all, onMessage_taken taken]; rfl
  | passAdded pass => rw [exec_passAdded, onMessage_taken taken, State.retestForPass_eq tests]
  | passRemoved pass => rw [exec_passRemoved, onMessage_taken taken, State.retestForPass_eq tests]
  | _ => cases tests

/-! ### EVENT_CHANGE (R70, R65) -/

/-- R70, R65: the live screens of the service, and the waiting ones once there is an event. -/
def onChangedEvent (service : Half) (s : State) (n : ScreenNo) : Bool :=
  decide (s.screens.cells[n].service = some service) && !(s.screens.cells[n].state == .dark) &&
    (!(s.screens.cells[n].state == .waiting) || (s.cache.currentOf service).isSome)

theorem onChangedEvent_iff {service : Half} {n : ScreenNo} : onChangedEvent service s n = true ↔
    s.screens.cells[n].service = some service ∧ s.screens.cells[n].state ≠ .dark ∧
      (s.screens.cells[n].state = .waiting → s.cache.currentOf service ≠ none) := by
  simp only [onChangedEvent, Bool.and_eq_true, Bool.or_eq_true, decide_eq_true_eq, Bool.not_eq_true', beq_eq_false_iff_ne,
    ne_eq, Option.isSome_iff_ne_none, and_assoc, imp_iff_not_or]

theorem readsOwn_onChangedEvent (service : Half) : readsOwn (onChangedEvent service) := by
  intro s t n only cell
  obtain ⟨-, -, -, -, cache⟩ := only.context
  rw [onChangedEvent, onChangedEvent, cell, cache]

theorem State.gate_waiting {n : ScreenNo} (waiting : s.screens.cells[n].state = .waiting) : s.gate n = false := by
  rw [State.gate, waiting]
  rfl

theorem State.eventChanged_eq (s : State) {service : Half} (broadcast : service ≠ 0) (n : ScreenNo) :
    s.eventChanged service n = s.testIf (onChangedEvent service) n := by
  unfold State.eventChanged State.testIf State.endWait State.retest
  by_cases onService : s.screens.cells[n].service = some service
  · rw [if_pos ⟨onService, broadcast⟩]
    by_cases waiting : s.screens.cells[n].state = .waiting
    · have live : s.screens.cells[n].state ≠ .dark := by rw [waiting]; exact ScreenState.noConfusion
      rw [if_pos waiting, State.gate_waiting waiting]
      refine if_congr ?_ rfl rfl
      rw [onChangedEvent_iff, Option.isSome_iff_ne_none]
      exact ⟨fun current => ⟨onService, live, fun _ => current⟩, fun ⟨_, _, current⟩ => current waiting⟩
    · rw [if_neg waiting, ← ite_not]
      refine if_congr ?_ rfl rfl
      rw [onChangedEvent_iff, not_or]
      exact ⟨fun ⟨live, _⟩ => ⟨onService, live, fun waits => absurd waits waiting⟩, fun ⟨_, live, _⟩ => ⟨live, waiting⟩⟩
  · rw [if_neg fun both => onService both.1, if_neg fun holds => onService (onChangedEvent_iff.mp holds).1]

theorem exec_eventChange_of_taken {service : Half} (taken : takeFrom (.eventChange service) s.transit = some rest)
    (broadcast : service ≠ 0) : exec (.eventChange service) s =
      .next ((s.withTransit rest).screenAct fun s => screenNumbers.foldl (State.testIf (onChangedEvent service)) s) := by
  have fold : (fun t : State => screenNumbers.foldl (fun t n => t.eventChanged service n) t) =
      fun t => screenNumbers.foldl (State.testIf (onChangedEvent service)) t := by
    simp only [fun t n => State.eventChanged_eq t broadcast n]
  have base : exec (.eventChange service) s = execEventChange service s := rfl
  rw [base, execEventChange, onMessage_taken taken, fold]

/-! ### The guide-wait expiry (R65) -/

theorem exec_guideWaitExpiry_of_due {n : ScreenNo} (waiting : s.screens.cells[n].state = .waiting)
    (due : s.screens.cells[n].timer = some 0) :
    exec (.guideWaitExpiry n) s = .next ((s.setScreen n (s.closedTest n false)).sendAll
      (chargeMessages s.profiles.table n (s.testedScreen n false false) ++
        [.notice .screen .screen .every (screenBit n)])) := by
  have base : exec (.guideWaitExpiry n) s = execGuideWaitExpiry n s := rfl
  have differs : screenDiffers s.screens.cells[n] (s.closedTest n false) = true :=
    screenDiffers_of_state (by rw [waiting]; exact (s.closedTest_started n false).2.symm)
  have act := State.screenAct_of_changed (act := fun s => s.test n false false) (s.test_eq n false false) differs
  have occasion : s.screenTimerDue n .waiting = true := by
    rw [State.screenTimerDue, waiting, due, beq_self_eq_true, beq_self_eq_true, Bool.and_self]
  rw [base, execGuideWaitExpiry, onOccasion_due occasion, act]
  rfl

end Concerned

/-- Settles O31: a message and an EVENT_CHANGE by the fold over the screens they test; the expiry by the test of its one
screen. -/
theorem messagesTestTheScreensTheyConcern : Obligations.MessagesTestTheScreensTheyConcern := by
  refine ⟨fun i concerned rest s tests taken => ?message, fun service rest s taken broadcast => ?event,
    fun n s waiting due => ?wait⟩
  case message =>
    obtain ⟨x, ms, act, requested, level, tells, cells⟩ :=
      (s.withTransit rest).screenAct_tests (readsOwn_startedAnd concerned)
    refine ⟨x, ms, ?_, requested, level, ?_, fun n => ⟨fun skips => ?_, fun named live started => ?_⟩⟩
    · rw [exec_of_testedBy tests taken]
      simp only [State.retestWhere_eq]
      exact congrArg _ act
    · simp only [startedAnd_iff] at tells
      exact tells
    · refine (cells n).1 (Bool.eq_false_iff.mpr fun holds => ?_)
      obtain ⟨named, live, started⟩ := startedAnd_iff.mp holds
      rcases skips with other | dark | waiting
      · exact Bool.false_ne_true (other.symm.trans named)
      · exact live dark
      · exact started waiting
    · exact ((cells n).2 (startedAnd_iff.mpr ⟨named, live, started⟩)).trans (s.test_withTransit rest n _ _)
  case event =>
    obtain ⟨x, ms, act, requested, level, tells, cells⟩ :=
      (s.withTransit rest).screenAct_tests (readsOwn_onChangedEvent service)
    refine ⟨x, ms, ?_, requested, level, ?_, fun n => ⟨fun skips => ?_, fun _ waiting none => ?_,
      fun onService waiting current => ?_, fun onService started live => ?_⟩⟩
    · rw [exec_eventChange_of_taken taken broadcast]
      exact congrArg _ act
    · simp only [onChangedEvent_iff] at tells
      exact tells
    · refine (cells n).1 (Bool.eq_false_iff.mpr fun holds => ?_)
      obtain ⟨onService, live, -⟩ := onChangedEvent_iff.mp holds
      exact skips.elim (fun other => other onService) live
    · exact (cells n).1 (Bool.eq_false_iff.mpr fun holds => (onChangedEvent_iff.mp holds).2.2 waiting none)
    · have live : s.screens.cells[n].state ≠ .dark := by rw [waiting]; exact ScreenState.noConfusion
      have tested := (cells n).2 (onChangedEvent_iff.mpr ⟨onService, live, fun _ => current⟩)
      rw [State.gate_waiting (s := s.withTransit rest) waiting] at tested
      exact tested.trans (s.test_withTransit rest n _ _)
    · have tested := (cells n).2 (onChangedEvent_iff.mpr ⟨onService, live, fun waits => absurd waits started⟩)
      exact tested.trans (s.test_withTransit rest n _ _)
  case wait =>
    have record := s.closedTest_record n false
    obtain ⟨-, -, messages⟩ := chargedScreen_spec s.profiles.table n (b := s.testedScreen n false false)
      (p := (s.closedTest n false).seat) rfl (s.testedScreen_lastPair n false)
    refine ⟨s.closedTest n false, _, exec_guideWaitExpiry_of_due waiting due, (s.test_cell n false false).symm,
      by rw [record], s.closedTest_judged n false, by rw [record], by rw [record], fun due => ?_, fun same => ?_⟩
    · rw [messages]
      exact congrArg (· ++ _) (if_pos due)
    · rw [messages]
      exact congrArg (· ++ _) (if_neg same)

end Sys2Proof.Machine
end

section
/-! PROOFS. The clock and the accounts (02). The first part gives the shared acts on accounts by the account they leave and the
messages they send; the theorems settle O15 to O21. -/

namespace Sys2Proof.Machine

/-! ### Messages of the Metering Unit (R54) -/

section Metered

variable {s : State}

theorem State.metered_eq (s : State) (m : Metered) (time : Bool) : s.metered m time =
    (s.withMetering m.unit).sendAll (m.sent ++
      (if (time || !m.sent.isEmpty) = true then [.notice .metering .time .every 0] else [])) := by
  rw [State.metered, State.raiseIf_eq, State.sendAll_sendAll]

/-- R54: an act on request always tells the time. -/
theorem State.metered_asked (s : State) (m : Metered) : s.metered m true =
    (s.withMetering m.unit).sendAll (m.sent ++ [.notice .metering .time .every 0]) := s.metered_eq m true

/-- R54: an act of its own tells it when it has sent a message. -/
theorem State.metered_told (s : State) (m : Metered) : s.metered m false =
    (s.withMetering m.unit).sendAll (m.sent ++ (if m.sent = [] then [] else [.notice .metering .time .every 0])) := by
  rw [State.metered_eq]
  cases m.sent <;> rfl

end Metered

/-! ### One account -/

section Account

variable {a b : Account} {p : Slot} {k : DayKind} {l : PassList} {u v : MeteringUnit} {n : Nat} {w : Bool}

theorem Account.base_eq (k : DayKind) (a : Account) :
    a.base k = if k = .school then a.terms.school * 60 else a.terms.free * 60 := by
  cases k <;> rfl

theorem Account.remaining_eq (k : DayKind) (a : Account) : a.remaining k = max a.used (a.base k + a.bonus) - a.used := rfl

/-- R32: remaining is read from terms, bonus and used. -/
theorem Account.remaining_congr (terms : b.terms = a.terms) (bonus : b.bonus = a.bonus) (used : b.used = a.used) (k : DayKind) :
    b.remaining k = a.remaining k := by
  rw [Account.remaining_eq, Account.remaining_eq, bonus, used, Account.base_eq, Account.base_eq, terms]

theorem insideCurfew_congr (terms : b.terms = a.terms) (l : PassList) (u : MeteringUnit) (p : Slot) :
    insideCurfew l u p b = insideCurfew l u p a := by
  rw [insideCurfew, insideCurfew, terms]

/-- R33: the warned flag that a reassessment leaves. -/
theorem reassessedFlag (w : Bool) (m n : Nat) : (w && !(w && decide (m < n))) = (w && decide (n ≤ m)) := by
  cases w with
  | false => rfl
  | true => rw [Bool.true_and, Bool.true_and, Bool.true_and, ← decide_not, decide_eq_decide, Nat.not_lt]

/-- R33: a reassessment against the flag it holds changes that flag alone. -/
theorem reassess_own (p : Slot) (k : DayKind) (n : Nat) (a : Account) : (reassess p k n a.warned a).1 =
    { a with warned := a.warned && decide (a.remaining k ≤ a.terms.lead * 60) } := by
  rw [reassess_fst, reassessedFlag]

theorem exhausted_mem_reassess : .exhausted p ∈ (reassess p k n w a).2 ↔ 0 < n ∧ a.remaining k = 0 := by
  simp [mem_reassess_snd]

theorem replenished_mem_reassess : .replenished p ∈ (reassess p k n w a).2 ↔
    (n = 0 ∧ 0 < a.remaining k) ∨ (w = true ∧ a.terms.lead * 60 < a.remaining k) := by
  simp [mem_reassess_snd]

/-- R42: an evaluated account is inside curfew exactly when the windows and passes say so. -/
theorem evaluated_inside_iff : (evaluateAccount l u p a).1.curfew = .inside ↔ insideCurfew l u p a = true := by
  rw [evaluateAccount_fst]
  cases insideCurfew l u p a <;> simp

theorem evaluated_outside_iff : (evaluateAccount l u p a).1.curfew = .outside ↔ insideCurfew l u p a = false := by
  rw [evaluateAccount_fst]
  cases insideCurfew l u p a <;> simp

theorem curfewOn_mem_evaluate : .curfewOn p ∈ (evaluateAccount l u p a).2 ↔
    a.curfew = .outside ∧ (evaluateAccount l u p a).1.curfew = .inside := by
  rw [mem_evaluateAccount_snd, evaluated_inside_iff]
  simp

theorem curfewOff_mem_evaluate : .curfewOff p ∈ (evaluateAccount l u p a).2 ↔
    a.curfew = .inside ∧ (evaluateAccount l u p a).1.curfew = .outside := by
  rw [mem_evaluateAccount_snd, evaluated_outside_iff]
  simp

end Account

/-! ### All accounts -/

section Accounts

variable {l : PassList} {u v before after : MeteringUnit} {m : Instr}

/-- A message of reassessment names the account it is about. -/
theorem reassessFrom_names {p : Slot} {a : Account} (sent : m ∈ (reassessFrom before after p a).2) :
    m = .exhausted p ∨ m = .replenished p := by
  unfold reassessFrom at sent
  split at sent
  · exact ((mem_reassess_snd ..).mp sent).imp And.left And.left
  · exact ((mem_reassess_snd ..).mp sent).imp And.left And.left

theorem evaluateAccount_names {p : Slot} {a : Account} (sent : m ∈ (evaluateAccount l u p a).2) :
    m = .curfewOn p ∨ m = .curfewOff p :=
  ((mem_evaluateAccount_snd ..).mp sent).imp And.left And.left

theorem reassessFrom_nodup (p : Slot) (a : Account) : (reassessFrom before after p a).2.Nodup := by
  unfold reassessFrom
  split
  · exact reassess_snd_nodup ..
  · exact reassess_snd_nodup ..

/-- R33: every account is reassessed by itself. -/
theorem reassessAll_spec (before after : MeteringUnit) :
    after.onlyAccounts (reassessAll before after).unit ∧
    (∀ p : Slot, (reassessAll before after).unit.accounts[p] =
      after.accounts[p].map fun a => (reassessFrom before after p a).1) ∧
    (∀ m : Instr, m ∈ (reassessAll before after).sent ↔
      ∃ (p : Slot) (a : Account), after.accounts[p] = some a ∧ m ∈ (reassessFrom before after p a).2) ∧
    (reassessAll before after).sent.Nodup := by
  obtain ⟨only, accounts, -⟩ := MeteringUnit.perAccount_spec (reassessFrom_local before after) slots_nodup
  refine ⟨only, fun p => ?_, fun m => ?_, ?_⟩
  · rw [reassessAll_eq, accounts p, if_pos (mem_slots p)]
  · rw [reassessAll_eq, MeteringUnit.mem_perAccount_sent (reassessFrom_local before after) slots_nodup]
    simp only [mem_slots, true_and]
  · refine MeteringUnit.perAccount_sent_nodup (reassessFrom_local before after) slots_nodup
      (fun p a => reassessFrom_nodup p a) fun p q a b m of_p of_q => ?_
    rcases reassessFrom_names of_p with rfl | rfl
    · rcases reassessFrom_names of_q with same | same <;> cases same; rfl
    · rcases reassessFrom_names of_q with same | same <;> cases same; rfl

theorem evaluateCurfew_nodup (l : PassList) {ps : List Slot} (distinct : ps.Nodup) (u : MeteringUnit) :
    (evaluateCurfew l ps u).sent.Nodup := by
  unfold evaluateCurfew
  split
  · refine MeteringUnit.perAccount_sent_nodup (evaluateAccount_local l u) distinct
      (fun p a => evaluateAccount_snd_nodup l u p a) fun p q a b m of_p of_q => ?_
    rcases evaluateAccount_names of_p with rfl | rfl
    · rcases evaluateAccount_names of_q with same | same <;> cases same; rfl
    · rcases evaluateAccount_names of_q with same | same <;> cases same; rfl
  · exact List.nodup_nil

/-- R42: CURFEW_ON and CURFEW_OFF, each for the account it names, while RUNNING. -/
theorem mem_evaluateCurfew {ps : List Slot} (distinct : ps.Nodup) {p : Slot} {a : Account} (held : u.accounts[p] = some a)
    (named : m = .curfewOn p ∨ m = .curfewOff p) :
    m ∈ (evaluateCurfew l ps u).sent ↔ u.running = true ∧ p ∈ ps ∧ m ∈ (evaluateAccount l u p a).2 := by
  rw [(evaluateCurfew_spec l distinct u).2.2]
  refine and_congr_right fun _ => ⟨?_, fun ⟨member, sent⟩ => ⟨p, member, a, held, sent⟩⟩
  rintro ⟨q, member, b, holds, sent⟩
  have same : q = p := by
    rcases evaluateAccount_names sent with e | e <;> rcases named with f | f <;> cases e.symm.trans f <;> rfl
  subst same
  cases held.symm.trans holds
  exact ⟨member, sent⟩

/-- R33: EXHAUSTED and REPLENISHED, each for the account it names. -/
theorem mem_reassessAll {p : Slot} {a : Account} (held : after.accounts[p] = some a)
    (named : m = .exhausted p ∨ m = .replenished p) :
    m ∈ (reassessAll before after).sent ↔ m ∈ (reassessFrom before after p a).2 := by
  rw [(reassessAll_spec before after).2.2.1]
  refine ⟨?_, fun sent => ⟨p, a, held, sent⟩⟩
  rintro ⟨q, b, holds, sent⟩
  have same : q = p := by
    rcases reassessFrom_names sent with e | e <;> rcases named with f | f <;> cases e.symm.trans f <;> rfl
  subst same
  cases held.symm.trans holds
  exact sent

end Accounts

/-! ### SET_TRIM (R29) -/

section Trim

variable {r : Role} {trim : Half} {s : State}

theorem exec_setTrim_of_taken (taken : s.handed r (.setTrim r trim) = true) :
    exec (.setTrim r trim) s = if -128 ≤ trim.toInt ∧ trim.toInt ≤ 127 then
      .next ((s.withMetering { s.metering with trim := trim.toInt }).place r (.ok []))
    else .next (s.place r (.bare .badValue)) := by
  have base : exec (.setTrim r trim) s = execSetTrim r trim s := rfl
  rw [base, execSetTrim, onRequest_handed taken]
  split <;> rfl

/-- Settles O15: the request by its range; the next second by the period that ends the one under way. -/
theorem trimTakesEffectAtTheNextSecond : Obligations.TrimTakesEffectAtTheNextSecond := by
  intro r trim s taken
  rw [exec_setTrim_of_taken taken]
  refine ⟨fun range => ?_, fun out => if_neg out⟩
  rw [if_pos range]
  refine ⟨rfl, fun t u next empty awake ends stepped => ?_⟩
  cases next
  rw [step_of_empty empty, State.period_ends awake ends, State.secondEnds_eq] at stepped
  cases stepped
  show (((32768 + trim.toInt).toNat : Nat) : Int) = 32768 + trim.toInt
  omega

end Trim

/-! ### GRANT_BONUS (R51) -/

section Bonus

variable {r : Role} {slot minutes : Byte} {s : State}

/-- R51: GRANT_BONUS under authority. -/
def bonusTaken (slot minutes : Byte) (s : State) : State × Answer :=
  match slotOf slot with
  | none => refuse s .badValue
  | some p =>
    if 1 ≤ minutes.toNat ∧ minutes.toNat ≤ 240 then
      match s.metering.accounts[p] with
      | none => refuse s .notFound
      | some a =>
        if 0 < bonusGrant a minutes.toNat then s.acceptBonus p a (bonusGrant a minutes.toNat)
        else refuse s .badValue
    else refuse s .badValue

theorem exec_grantBonus (r : Role) (slot minutes : Byte) (s : State) : exec (.grantBonus r slot minutes) s =
    onRequest (.grantBonus r slot minutes) r s fun s => underAuthority r s fun _ => bonusTaken slot minutes s := rfl

theorem exec_grantBonus_authorised (taken : s.handed r (.grantBonus r slot minutes) = true) (authority : s.authority r ≠ none) :
    exec (.grantBonus r slot minutes) s =
      .next ((bonusTaken slot minutes s).1.place r (bonusTaken slot minutes s).2) := by
  rw [exec_grantBonus]
  exact onRequest_authorised taken authority fun _ => rfl

theorem bonusTaken_bad (bad : 8 ≤ slot.toNat ∨ minutes.toNat < 1 ∨ 240 < minutes.toNat) :
    bonusTaken slot minutes s = (s, .bare .badValue) := by
  unfold bonusTaken
  split
  · rfl
  next p named =>
    refine if_neg fun range => ?_
    have small : ¬ 8 ≤ slot.toNat := fun large => by
      rw [slotOf_eq_none large] at named
      cases named
    omega

theorem bonusTaken_missing {p : Slot} (named : slotOf slot = some p) (range : 1 ≤ minutes.toNat ∧ minutes.toNat ≤ 240)
    (missing : s.metering.accounts[p] = none) : bonusTaken slot minutes s = (s, .bare .notFound) := by
  simp only [bonusTaken, named, if_pos range, missing, refuse]

theorem bonusTaken_spent {p : Slot} {a : Account} (named : slotOf slot = some p)
    (range : 1 ≤ minutes.toNat ∧ minutes.toNat ≤ 240) (held : s.metering.accounts[p] = some a)
    (spent : bonusGrant a minutes.toNat = 0) : bonusTaken slot minutes s = (s, .bare .badValue) := by
  simp only [bonusTaken, named, if_pos range, held, spent, if_neg (Nat.lt_irrefl 0), refuse]

theorem bonusTaken_grants {p : Slot} {a : Account} (named : slotOf slot = some p)
    (range : 1 ≤ minutes.toNat ∧ minutes.toNat ≤ 240) (held : s.metering.accounts[p] = some a)
    (grants : 0 < bonusGrant a minutes.toNat) :
    bonusTaken slot minutes s = s.acceptBonus p a (bonusGrant a minutes.toNat) := by
  simp only [bonusTaken, named, if_pos range, held, if_pos grants]

/-- R51, R33: an accepted grant never exhausts; it tells REPLENISHED as its reassessment does. -/
theorem State.acceptBonus_eq (s : State) (p : Slot) (a : Account) (grant : Nat) :
    let today := s.metering.today
    let now := { a with bonus := a.bonus + grant }.remaining today
    s.acceptBonus p a grant =
      ((s.withMetering { s.metering with
          accounts := put s.metering.accounts p (some { a with
            bonus := a.bonus + grant, warned := a.warned && decide (now ≤ a.terms.lead * 60) }) }).sendAll
        ((if (a.remaining today = 0 ∧ 0 < now) ∨ (a.warned = true ∧ a.terms.lead * 60 < now) then [.replenished p] else []) ++
          [.notice .metering .time .every 0, .dirtyMark .metering false]), .ok (le2 grant ++ le3 now)) := by
  intro today now
  have grows : a.remaining today ≤ now := by
    simp only [now, Account.remaining_eq]
    exact Nat.sub_le_sub_right (max_le_max_left _ (Nat.add_le_add_left (Nat.le_add_right ..) _)) _
  have account := reassess_own p today (a.remaining today) { a with bonus := a.bonus + grant }
  have told : (reassess p today (a.remaining today) a.warned { a with bonus := a.bonus + grant }).2 =
      if (a.remaining today = 0 ∧ 0 < now) ∨ (a.warned = true ∧ a.terms.lead * 60 < now) then [.replenished p] else [] := by
    have remains : ¬ (0 < a.remaining today ∧ now = 0) := by omega
    unfold reassess
    dsimp only
    rw [if_neg remains, List.nil_append]
    exact if_congr (by rw [Bool.and_eq_true, decide_eq_true_eq]) rfl rfl
  unfold State.acceptBonus
  dsimp only at account ⊢
  rw [State.metered_asked, told, account, State.markDirty_eq, State.sendAll_sendAll]
  dsimp only
  rw [List.append_assoc]
  rfl

/-- Settles O17: the refusals in order; the grant by the reassessment of its one account. -/
theorem bonusGrantsStayWithinTheCap : Obligations.BonusGrantsStayWithinTheCap := by
  intro r slot minutes s taken authority
  rw [exec_grantBonus_authorised taken authority]
  refine ⟨fun bad => by rw [bonusTaken_bad bad], fun p named low high => ?_⟩
  have slotted := slotOf_eq_some named
  refine ⟨fun missing => ?_, fun a held => ⟨fun zero => ?_, fun positive => ?_⟩⟩
  · rw [bonusTaken_missing slotted ⟨low, high⟩ missing]
  · rw [bonusTaken_spent slotted ⟨low, high⟩ held zero]
  · rw [bonusTaken_grants slotted ⟨low, high⟩ held positive, State.acceptBonus_eq]
    simp only [Account.remaining_eq, Account.base_eq]
    rfl

end Bonus

/-! ### Changes of today's kind (R30, R33, R42) -/

/-- What a change of the plan or the override makes of the unit `given`, whose accounts are still those of s, and what it tells
of the accounts. -/
def State.movesDayKind (s : State) (given u : MeteringUnit) (told : List Instr) : Prop :=
  let before := s.metering.today
  let now := given.today
  u = { given with accounts := u.accounts } ∧ told.Nodup ∧
  (∀ m ∈ told, ∃ (p : Slot) (a : Account), s.metering.accounts[p] = some a ∧
    (m = .exhausted p ∨ m = .replenished p ∨ m = .curfewOn p ∨ m = .curfewOff p)) ∧
  (now = before → u.accounts = s.metering.accounts ∧ told = []) ∧
  ∀ p : Slot,
    (s.metering.accounts[p] = none → u.accounts[p] = none) ∧
    ∀ a : Account, s.metering.accounts[p] = some a →
      ∃ b : Account, u.accounts[p] = some b ∧ b.terms = a.terms ∧ b.bonus = a.bonus ∧ b.used = a.used ∧
        b.overrun = a.overrun ∧ b.curfewWarned = a.curfewWarned ∧
        (now ≠ before →
          b.warned = (a.warned && decide (a.remaining now ≤ a.terms.lead * 60)) ∧
          (s.metering.running = false → b.curfew = a.curfew) ∧
          (s.metering.running = true → (b.curfew = .inside ↔ insideCurfew s.passes given p a = true)) ∧
          (.exhausted p ∈ told ↔ 0 < a.remaining before ∧ a.remaining now = 0) ∧
          (.replenished p ∈ told ↔ (a.remaining before = 0 ∧ 0 < a.remaining now) ∨
            (a.warned = true ∧ a.terms.lead * 60 < a.remaining now)) ∧
          (.curfewOn p ∈ told ↔ a.curfew = .outside ∧ b.curfew = .inside) ∧
          (.curfewOff p ∈ told ↔ a.curfew = .inside ∧ b.curfew = .outside))

section DayKind

variable {s : State} {given before : MeteringUnit} {l : PassList} {p : Slot} {a : Account}

theorem dayKindChange_same (same : before.today = given.today) : dayKindChange l before given = ⟨given, []⟩ := if_pos same

theorem dayKindChange_moved (moved : before.today ≠ given.today) : dayKindChange l before given =
    ⟨(evaluateCurfew l slots (reassessAll before given).unit).unit,
      (reassessAll before given).sent ++ (evaluateCurfew l slots (reassessAll before given).unit).sent⟩ := if_neg moved

/-- The reassessment and the evaluation tell of different things. -/
theorem reassessed_evaluated_disjoint (before given u : MeteringUnit) (ps : List Slot) (distinct : ps.Nodup) :
    List.Disjoint (reassessAll before given).sent (evaluateCurfew l ps u).sent := by
  intro m reassessed evaluated
  obtain ⟨p, a, -, sent⟩ := ((reassessAll_spec before given).2.2.1 m).mp reassessed
  obtain ⟨-, q, -, b, -, told⟩ := ((evaluateCurfew_spec l distinct u).2.2 m).mp evaluated
  rcases reassessFrom_names sent with rfl | rfl
  · rcases evaluateAccount_names told with e | e <;> cases e
  · rcases evaluateAccount_names told with e | e <;> cases e

/-- No evaluation sends EXHAUSTED or REPLENISHED, no reassessment CURFEW_ON or CURFEW_OFF. -/
theorem not_mem_evaluateCurfew {m : Instr} {ps : List Slot} (distinct : ps.Nodup) (u : MeteringUnit)
    (named : m = .exhausted p ∨ m = .replenished p) : m ∉ (evaluateCurfew l ps u).sent := by
  intro sent
  obtain ⟨-, q, -, b, -, told⟩ := ((evaluateCurfew_spec l distinct u).2.2 m).mp sent
  rcases named with rfl | rfl
  · rcases evaluateAccount_names told with e | e <;> cases e
  · rcases evaluateAccount_names told with e | e <;> cases e

theorem not_mem_reassessAll {m : Instr} (before given : MeteringUnit) (named : m = .curfewOn p ∨ m = .curfewOff p) :
    m ∉ (reassessAll before given).sent := by
  intro sent
  obtain ⟨q, b, -, told⟩ := ((reassessAll_spec before given).2.2.1 m).mp sent
  rcases named with rfl | rfl
  · rcases reassessFrom_names told with e | e <;> cases e
  · rcases reassessFrom_names told with e | e <;> cases e

/-- The account of p after a reassessment: its warned flag alone may have changed. -/
theorem reassessFrom_held (held : before.accounts[p] = some a) (given : MeteringUnit) (b : Account) :
    reassessFrom before given p b = reassess p given.today (a.remaining before.today) a.warned b :=
  reassessFrom_some held given b

theorem evaluateCurfew_account {u : MeteringUnit} (held : u.accounts[p] = some a) :
    (evaluateCurfew l slots u).unit.accounts[p] =
      some (if u.running = true then (evaluateAccount l u p a).1 else a) := by
  rw [(evaluateCurfew_spec l slots_nodup u).2.1 p, held]
  split
  next both => rw [if_pos both.1]; rfl
  next none => rw [if_neg fun running => none ⟨running, mem_slots p⟩]

/-- R30: nothing happens when today's kind stays. -/
theorem State.movesDayKind_same (same : given.today = s.metering.today) (accounts : given.accounts = s.metering.accounts) :
    s.movesDayKind given given [] := by
  refine ⟨rfl, List.nodup_nil, fun m none => absurd none List.not_mem_nil, fun _ => ⟨accounts, rfl⟩, fun p => ?_⟩
  rw [accounts]
  exact ⟨id, fun a held => ⟨a, held, rfl, rfl, rfl, rfl, rfl, fun other => absurd same other⟩⟩

/-- R30: the messages that name an account, by its own reassessment and evaluation. -/
theorem mem_dayKindChange {c : Account} {m : Instr} (held : given.accounts[p] = some a)
    (account : (reassessAll before given).unit.accounts[p] = some c) :
    ((m = .exhausted p ∨ m = .replenished p) →
      (m ∈ (reassessAll before given).sent ++ (evaluateCurfew l slots (reassessAll before given).unit).sent ↔
        m ∈ (reassessFrom before given p a).2)) ∧
    ((m = .curfewOn p ∨ m = .curfewOff p) →
      (m ∈ (reassessAll before given).sent ++ (evaluateCurfew l slots (reassessAll before given).unit).sent ↔
        (reassessAll before given).unit.running = true ∧
          m ∈ (evaluateAccount l (reassessAll before given).unit p c).2)) := by
  refine ⟨fun named => ?_, fun named => ?_⟩
  · rw [List.mem_append, or_iff_left (not_mem_evaluateCurfew slots_nodup _ named), mem_reassessAll held named]
  · rw [List.mem_append, or_iff_right (not_mem_reassessAll _ _ named), mem_evaluateCurfew slots_nodup account named]
    simp only [mem_slots, true_and]

/-- R30, R33, R42: what a change of today's kind makes of one account. -/
theorem dayKindChange_account (accounts : given.accounts = s.metering.accounts) (running : given.running = s.metering.running)
    (held : s.metering.accounts[p] = some a) :
    let told := (reassessAll s.metering given).sent ++ (evaluateCurfew l slots (reassessAll s.metering given).unit).sent
    let before := s.metering.today
    let now := given.today
    ∃ b : Account, (evaluateCurfew l slots (reassessAll s.metering given).unit).unit.accounts[p] = some b ∧
      b.terms = a.terms ∧ b.bonus = a.bonus ∧ b.used = a.used ∧ b.overrun = a.overrun ∧ b.curfewWarned = a.curfewWarned ∧
      b.warned = (a.warned && decide (a.remaining now ≤ a.terms.lead * 60)) ∧
      (s.metering.running = false → b.curfew = a.curfew) ∧
      (s.metering.running = true → (b.curfew = .inside ↔ insideCurfew l given p a = true)) ∧
      (.exhausted p ∈ told ↔ 0 < a.remaining before ∧ a.remaining now = 0) ∧
      (.replenished p ∈ told ↔ (a.remaining before = 0 ∧ 0 < a.remaining now) ∨
        (a.warned = true ∧ a.terms.lead * 60 < a.remaining now)) ∧
      (.curfewOn p ∈ told ↔ a.curfew = .outside ∧ b.curfew = .inside) ∧
      (.curfewOff p ∈ told ↔ a.curfew = .inside ∧ b.curfew = .outside) := by
  intro told before now
  obtain ⟨only, reassessed, -, -⟩ := reassessAll_spec s.metering given
  obtain ⟨running', -, -, -, -, -, -, -, -, -, -, -⟩ := MeteringUnit.onlyAccounts_frame only
  have given_held : given.accounts[p] = some a := by rw [accounts]; exact held
  have account : (reassessAll s.metering given).unit.accounts[p] =
      some { a with warned := a.warned && decide (a.remaining now ≤ a.terms.lead * 60) } := by
    rw [reassessed p, given_held, Option.map_some, reassessFrom_held held, reassess_own]
  have inside : ∀ c : Account, c.terms = a.terms →
      insideCurfew l (reassessAll s.metering given).unit p c = insideCurfew l given p a := fun c terms =>
    (insideCurfew_congr terms _ _ _).trans (insideCurfew_onlyAccounts only _ _ _)
  have messages : ∀ m, _ := fun m => mem_dayKindChange (l := l) (m := m) given_held account
  have exhausts := (messages _).1 (.inl rfl)
  have replenishes := (messages _).1 (.inr rfl)
  have turnsOn := (messages _).2 (.inl rfl)
  have turnsOff := (messages _).2 (.inr rfl)
  rw [reassessFrom_held held, exhausted_mem_reassess] at exhausts
  rw [reassessFrom_held held, replenished_mem_reassess] at replenishes
  rw [curfewOn_mem_evaluate, running', running] at turnsOn
  rw [curfewOff_mem_evaluate, running', running] at turnsOff
  refine ⟨_, evaluateCurfew_account account, ?_⟩
  rw [running', running]
  cases runs : s.metering.running with
  | true =>
    rw [runs] at turnsOn turnsOff
    rw [if_pos rfl]
    exact ⟨rfl, rfl, rfl, rfl, rfl, rfl, Bool.noConfusion,
      fun _ => evaluated_inside_iff.trans (Bool.eq_iff_iff.mp (inside _ (by rfl))), exhausts, replenishes,
      turnsOn.trans (and_iff_right rfl), turnsOff.trans (and_iff_right rfl)⟩
  | false =>
    rw [runs] at turnsOn turnsOff
    rw [if_neg Bool.false_ne_true]
    refine ⟨rfl, rfl, rfl, rfl, rfl, rfl, fun _ => rfl, Bool.noConfusion, exhausts, replenishes,
      turnsOn.trans ?_, turnsOff.trans ?_⟩
    · cases a.curfew <;> simp
    · cases a.curfew <;> simp

/-- R30: a change of today's kind, by its two acts on each account. -/
theorem dayKindChange_moves (accounts : given.accounts = s.metering.accounts) (running : given.running = s.metering.running) :
    s.movesDayKind given (dayKindChange s.passes s.metering given).unit (dayKindChange s.passes s.metering given).sent := by
  by_cases same : s.metering.today = given.today
  · rw [dayKindChange_same same]
    exact State.movesDayKind_same same.symm accounts
  obtain ⟨only, reassessed, told, distinct⟩ := reassessAll_spec s.metering given
  obtain ⟨only', evaluated, sent⟩ := evaluateCurfew_spec s.passes slots_nodup (reassessAll s.metering given).unit
  have each := fun (p : Slot) (a : Account) => dayKindChange_account (l := s.passes) (p := p) (a := a) accounts running
  have nodup := List.nodup_append'.mpr ⟨distinct,
    evaluateCurfew_nodup s.passes slots_nodup (reassessAll s.metering given).unit,
    reassessed_evaluated_disjoint _ _ _ _ slots_nodup⟩
  rw [accounts] at reassessed told
  rw [dayKindChange_moved same]
  generalize evaluateCurfew s.passes slots (reassessAll s.metering given).unit = e at *
  generalize reassessAll s.metering given = m at *
  refine ⟨MeteringUnit.onlyAccounts_trans only only', nodup, fun i member => ?names, fun now => absurd now.symm same,
    fun p => ⟨fun missing => ?missing, fun a held => ?held⟩⟩
  case names =>
    rcases List.mem_append.mp member with first | second
    · obtain ⟨p, a, held, of_p⟩ := (told i).mp first
      exact ⟨p, a, held, (reassessFrom_names of_p).imp id .inl⟩
    · obtain ⟨-, p, -, a, held, of_p⟩ := (sent i).mp second
      rw [reassessed p] at held
      obtain ⟨b, holds, -⟩ := Option.map_eq_some_iff.mp held
      exact ⟨p, b, holds, .inr (.inr (evaluateAccount_names of_p))⟩
  case missing => rw [evaluated p, reassessed p, missing, Option.map_none, Option.map_none, ite_self]
  case held =>
    obtain ⟨b, now, terms, bonus, used, overrun, flags, moves⟩ := each p a held
    exact ⟨b, now, terms, bonus, used, overrun, flags, fun _ => moves⟩

theorem State.changeDayKind_eq (s : State) (given : MeteringUnit) : s.changeDayKind given =
    (s.withMetering (dayKindChange s.passes s.metering given).unit).sendAll
      ((dayKindChange s.passes s.metering given).sent ++ [.notice .metering .time .every 0]) := State.metered_asked _ _

end DayKind

/-! ### SET_WEEK_PLAN and SET_TODAY_KIND (R52, R53) -/

section Plan

variable {r : Role} {s : State}

theorem exec_setWeekPlan (r : Role) (kinds : List Byte) (s : State) :
    exec (.setWeekPlan r kinds) s = execSetWeekPlan r kinds s := rfl

theorem exec_setWeekPlan_bad {kinds : List Byte} (taken : s.handed r (.setWeekPlan r kinds) = true)
    (authority : s.authority r ≠ none) (bad : dayKindsOf kinds = none) :
    exec (.setWeekPlan r kinds) s = .next (s.place r (.bare .badValue)) := by
  rw [exec_setWeekPlan, execSetWeekPlan]
  exact onRequest_authorised taken authority (result := (s, .bare .badValue)) fun _ => by rw [bad]; rfl

theorem exec_setWeekPlan_good {kinds : List Byte} {ks : List DayKind} (taken : s.handed r (.setWeekPlan r kinds) = true)
    (authority : s.authority r ≠ none) (good : dayKindsOf kinds = some ks) :
    exec (.setWeekPlan r kinds) s =
      .next (((s.changeDayKind { s.metering with plan := planOf s.metering.plan ks }).markDirty .metering).place r
        (.ok [])) := by
  rw [exec_setWeekPlan, execSetWeekPlan]
  exact onRequest_authorised taken authority
    (result := ((s.changeDayKind { s.metering with plan := planOf s.metering.plan ks }).markDirty .metering, .ok []))
    fun _ => by rw [good]

theorem planOf_get (old : Vector DayKind 7) (ks : List DayKind) (i : Fin 7) : (planOf old ks)[i] = ks.getD i.val old[i] := by
  have cell := foldPut_get (fun (i : Fin 7) (k : DayKind) => ks.getD i.val k) ([0, 1, 2, 3, 4, 5, 6] : List (Fin 7))
    (by decide) old i
  rw [if_pos (by fin_cases i <;> decide)] at cell
  exact cell

/-- Seven kinds written over a plan replace it. -/
theorem toList_planOf (old : Vector DayKind 7) {ks : List DayKind} (whole : ks.length = 7) : (planOf old ks).toList = ks := by
  refine List.ext_getElem (by simp [whole]) fun i inPlan inList => ?_
  have small : i < 7 := by simpa using inPlan
  have cell := planOf_get old ks ⟨i, small⟩
  rw [List.getD_eq_getElem _ _ inList] at cell
  rw [Vector.getElem_toList]
  exact cell

theorem dayKindOf_eq_none {b : Byte} (large : 2 ≤ b.toNat) : dayKindOf b = none := by
  rw [dayKindOf, if_neg (by rintro rfl; simp at large), if_neg (by rintro rfl; simp at large)]

theorem exec_setTodayKind (r : Role) (kind : Byte) (s : State) :
    exec (.setTodayKind r kind) s = execSetTodayKind r kind s := rfl

theorem exec_setTodayKind_bad {kind : Byte} (taken : s.handed r (.setTodayKind r kind) = true)
    (authority : s.authority r ≠ none) (bad : 2 < kind.toNat) :
    exec (.setTodayKind r kind) s = .next (s.place r (.bare .badValue)) := by
  rw [exec_setTodayKind, execSetTodayKind]
  refine onRequest_authorised taken authority (result := (s, .bare .badValue)) fun _ => ?_
  rw [if_neg (by rintro rfl; simp at bad), dayKindOf_eq_none (by omega)]
  rfl

/-- R53: SCHOOL 0, FREE 1, PLAN 2. -/
def overrideNamed (kind : Byte) : Option DayKind := if kind = 0 then some .school else if kind = 1 then some .free else none

theorem exec_setTodayKind_good {kind : Byte} (taken : s.handed r (.setTodayKind r kind) = true)
    (authority : s.authority r ≠ none) (good : kind.toNat ≤ 2) : exec (.setTodayKind r kind) s =
      .next ((s.acceptOverride (overrideNamed kind)).1.place r (.ok [])) := by
  rw [exec_setTodayKind, execSetTodayKind]
  refine onRequest_authorised taken authority (result := s.acceptOverride (overrideNamed kind)) fun _ => ?_
  have named : kind = 0 ∨ kind = 1 ∨ kind = 2 := by bv_omega
  rcases named with rfl | rfl | rfl <;> rfl

theorem State.acceptOverride_eq (s : State) (k : Option DayKind) :
    (s.acceptOverride k).1 = (s.withMetering (dayKindChange s.passes s.metering { s.metering with override := k }).unit).sendAll
      ((dayKindChange s.passes s.metering { s.metering with override := k }).sent ++ .notice .metering .time .every 0 ::
        (if storedChanged s.metering (dayKindChange s.passes s.metering { s.metering with override := k }).unit = true then
          [.dirtyMark .metering false] else [])) := by
  have metering : (s.changeDayKind { s.metering with override := k }).metering =
      (dayKindChange s.passes s.metering { s.metering with override := k }).unit := by rw [State.changeDayKind_eq]; rfl
  unfold State.acceptOverride
  dsimp only
  rw [metering, State.markDirtyIf_eq, State.changeDayKind_eq, State.sendAll_sendAll, List.append_assoc, List.singleton_append]

theorem storedChanged_iff {a b : MeteringUnit} : storedChanged a b = true ↔ b.accountDay ≠ a.accountDay ∨
    ∃ p : Slot, b.accounts[p].map storedOf ≠ a.accounts[p].map storedOf := by
  simp only [storedChanged, Bool.or_eq_true, bne_iff_ne, List.any_eq_true, mem_slots, true_and, ne_comm]

/-- R54: of the stored fields a change of today's kind moves the warned flags alone. -/
theorem State.movesDayKind_stored {given u : MeteringUnit} {told : List Instr} (moved : s.movesDayKind given u told)
    (day : given.accountDay = s.metering.accountDay) :
    storedChanged s.metering u = true ↔ ∃ (p : Slot) (a b : Account), s.metering.accounts[p] = some a ∧
      u.accounts[p] = some b ∧ b.warned ≠ a.warned := by
  obtain ⟨frame, -, -, -, each⟩ := moved
  have sameDay : u.accountDay = s.metering.accountDay := by rw [frame]; exact day
  rw [storedChanged_iff, or_iff_right (not_not.mpr sameDay)]
  refine exists_congr fun p => ?_
  cases held : s.metering.accounts[p] with
  | none => simp [(each p).1 held]
  | some a =>
    obtain ⟨b, now, -, bonus, used, overrun, flags, -⟩ := (each p).2 a held
    simp [now, storedOf, bonus, used, overrun, flags]

end Plan

/-- Settles O18: the requests by their checks; the change of today's kind by its acts on each account. -/
theorem planAndOverrideChangeTodaysKind : Obligations.PlanAndOverrideChangeTodaysKind := by
  refine ⟨fun r kinds ks s taken authority seven read => ?plan, fun r kinds s taken authority bad => ?badPlan,
    fun r kind s taken authority => ⟨fun good => ?kind, fun bad => exec_setTodayKind_bad taken authority bad⟩⟩
  case plan =>
    have whole : ks.length = 7 := by
      rw [dayKindsOf_eq] at read
      exact (length_of_mapM read).trans seven
    refine ⟨planOf s.metering.plan ks, _, _, ?_, toList_planOf _ whole, dayKindChange_moves rfl rfl⟩
    rw [exec_setWeekPlan_good taken authority read, State.changeDayKind_eq, State.markDirty_eq, State.sendAll_sendAll,
      List.append_assoc]
    rfl
  case badPlan =>
    obtain ⟨b, member, large⟩ := bad
    refine exec_setWeekPlan_bad taken authority ?_
    rw [dayKindsOf_eq]
    exact mapM_eq_none.mpr ⟨b, member, dayKindOf_eq_none large⟩
  case kind =>
    have moved := dayKindChange_moves (s := s) (given := { s.metering with override := overrideNamed kind }) rfl rfl
    refine ⟨_, _, if storedChanged s.metering
        (dayKindChange s.passes s.metering { s.metering with override := overrideNamed kind }).unit = true then
      [.dirtyMark .metering false] else [], ?_, moved, ?_, ?_⟩
    · rw [exec_setTodayKind_good taken authority good, State.acceptOverride_eq]
    · split
      · exact .inr rfl
      · exact .inl rfl
    · rw [← State.movesDayKind_stored moved rfl]
      split
      next changed => exact iff_of_true (List.cons_ne_nil _ _) changed
      next kept => exact iff_of_false (not_not.mpr rfl) kept

/-! ### PROFILE_CHANGED at the Metering Unit (R34) -/

section Kept

/-- R34: a flag is kept where it was set and the window in its place is the same. -/
theorem keptFlags_set_iff (ws : List CurfewWindow) (fs : List Bool) (xs : List CurfewWindow) (i : Nat) {x : CurfewWindow}
    (window : xs[i]? = some x) :
    (keptFlags ws fs xs)[i]? = some true ↔ fs[i]? = some true ∧ ws[i]? = some x := by
  induction xs generalizing ws fs i with
  | nil => simp at window
  | cons y xs ih =>
    have clear : ((y :: xs).map fun _ => false)[i]? ≠ some true := by
      rw [List.getElem?_map, window]
      simp
    cases ws with
    | nil => simpa [keptFlags] using clear
    | cons w ws =>
      cases fs with
      | nil => simpa [keptFlags] using clear
      | cons f fs =>
        cases i with
        | zero =>
          cases window
          simp [keptFlags]
        | succ i => simpa [keptFlags] using ih ws fs i (by simpa using window)

end Kept

section Taken

variable {l : PassList} {table : Vector Profile 8} {u : MeteringUnit} {p : Slot} {k : ChildPart} {a : Account} {m : Instr}

/-- R34: the account of a child profile before its curfew is evaluated, with the messages of its reassessment. -/
def renewed (u : MeteringUnit) (p : Slot) (k : ChildPart) : Account × List Instr :=
  match u.accounts[p] with
  | none => reassess p u.today 0 false (freshAccount k)
  | some a => reassess p u.today (a.remaining u.today) a.warned (keptAccount k a)

theorem takenAccount_adult (adult : childOf table[p] = none) : takenAccount l table u p = (none, []) := by
  unfold takenAccount
  rw [adult]

theorem takenAccount_child (child : childOf table[p] = some k) : takenAccount l table u p =
    if u.running then (some (evaluateAccount l u p (renewed u p k).1).1,
      (renewed u p k).2 ++ (evaluateAccount l u p (renewed u p k).1).2)
    else (some (renewed u p k).1, (renewed u p k).2) := by
  unfold takenAccount
  rw [child]
  rfl

theorem renewed_fresh (none_held : u.accounts[p] = none) : renewed u p k =
    (freshAccount k, if 0 < (freshAccount k).remaining u.today then [.replenished p] else []) := by
  unfold renewed
  rw [none_held]
  simp [reassess]

theorem renewed_kept (held : u.accounts[p] = some a) : renewed u p k =
    reassess p u.today (a.remaining u.today) a.warned (keptAccount k a) := by
  unfold renewed
  rw [held]

theorem mem_renewed_names (sent : m ∈ (renewed u p k).2) : m = .exhausted p ∨ m = .replenished p := by
  unfold renewed at sent
  split at sent
  · exact ((mem_reassess_snd ..).mp sent).imp And.left And.left
  · exact ((mem_reassess_snd ..).mp sent).imp And.left And.left

/-- The four messages about the account of p. -/
def aboutAccount (p : Slot) (m : Instr) : Prop := m = .exhausted p ∨ m = .replenished p ∨ m = .curfewOn p ∨ m = .curfewOff p

theorem aboutAccount_inj {q : Slot} (of_p : aboutAccount p m) (of_q : aboutAccount q m) : q = p := by
  rcases of_p with rfl | rfl | rfl | rfl
  all_goals rcases of_q with e | e | e | e <;> cases e; rfl

theorem takenAccount_names (sent : m ∈ (takenAccount l table u p).2) : aboutAccount p m := by
  cases child : childOf table[p] with
  | none =>
    rw [takenAccount_adult child] at sent
    cases sent
  | some k =>
    rw [takenAccount_child child] at sent
    split at sent
    · rcases List.mem_append.mp sent with first | second
      · exact (mem_renewed_names first).imp id .inl
      · exact .inr (.inr (evaluateAccount_names second))
    · exact (mem_renewed_names sent).imp id .inl

/-- R34, R33: what is kept of an account, and the messages of its reassessment. -/
theorem renewed_terms (u : MeteringUnit) (p : Slot) (k : ChildPart) : (renewed u p k).1.terms = termsOf k := by
  cases held : u.accounts[p] with
  | none => rw [renewed_fresh held]; rfl
  | some a => rw [renewed_kept held, reassess_fst]; rfl

theorem renewed_flags_length (u : MeteringUnit) (p : Slot) (k : ChildPart) :
    (renewed u p k).1.curfewWarned.length = k.windows.length := by
  cases held : u.accounts[p] with
  | none => rw [renewed_fresh held]; exact List.length_map ..
  | some a => rw [renewed_kept held, reassess_fst]; exact keptFlags_length ..

/-- The account after PROFILE_CHANGED differs from the renewed one in its curfew state alone. -/
theorem takenAccount_account (child : childOf table[p] = some k) :
    ∃ b : Account, (takenAccount l table u p).1 = some b ∧ b = { (renewed u p k).1 with curfew := b.curfew } ∧
      (u.running = true → (b.curfew = .inside ↔ insideCurfew l u p b = true)) ∧
      (u.running = false → b.curfew = (renewed u p k).1.curfew) ∧
      (∀ m, m = .exhausted p ∨ m = .replenished p → (m ∈ (takenAccount l table u p).2 ↔ m ∈ (renewed u p k).2)) ∧
      (.curfewOn p ∈ (takenAccount l table u p).2 ↔ (renewed u p k).1.curfew = .outside ∧ b.curfew = .inside) ∧
      (.curfewOff p ∈ (takenAccount l table u p).2 ↔ (renewed u p k).1.curfew = .inside ∧ b.curfew = .outside) := by
  have silentOn : .curfewOn p ∉ (renewed u p k).2 := fun sent => by rcases mem_renewed_names sent with e | e <;> cases e
  have silentOff : .curfewOff p ∉ (renewed u p k).2 := fun sent => by rcases mem_renewed_names sent with e | e <;> cases e
  rw [takenAccount_child child]
  cases runs : u.running with
  | true =>
    rw [if_pos rfl]
    refine ⟨_, rfl, rfl, fun _ => evaluated_inside_iff, Bool.noConfusion, fun m named => ?_, ?_, ?_⟩
    · refine List.mem_append.trans (or_iff_left fun sent => ?_)
      rcases named with rfl | rfl
      · rcases evaluateAccount_names sent with e | e <;> cases e
      · rcases evaluateAccount_names sent with e | e <;> cases e
    · exact (List.mem_append.trans (or_iff_right silentOn)).trans curfewOn_mem_evaluate
    · exact (List.mem_append.trans (or_iff_right silentOff)).trans curfewOff_mem_evaluate
  | false =>
    rw [if_neg Bool.false_ne_true]
    refine ⟨_, rfl, rfl, Bool.noConfusion, fun _ => rfl, fun m named => Iff.rfl, ?_, ?_⟩
    · refine iff_of_false silentOn ?_
      rintro ⟨outside, inside⟩
      rw [outside] at inside
      cases inside
    · refine iff_of_false silentOff ?_
      rintro ⟨inside, outside⟩
      rw [inside] at outside
      cases outside

end Taken

/-! ### The messages of the whole act -/

section Acts

variable {s : State} {which : ProfileRef} {p : Slot} {m : Instr}

theorem refSlots_nodup (which : ProfileRef) : (refSlots which).Nodup := by
  cases which with
  | one p => exact List.nodup_singleton p
  | all => exact slots_nodup

theorem mem_refSlots : p ∈ refSlots which ↔ which = .all ∨ which = .one p := by
  cases which with
  | one q => simp [refSlots, eq_comm]
  | all => simp [refSlots, mem_slots]

/-- The messages of a PROFILE_CHANGED about accounts. -/
def State.keptMessages (s : State) (which : ProfileRef) : List Instr :=
  (takeProfiles s.passes s.profiles.table (refSlots which) s.metering).sent

/-- R34, R54: the messages of a PROFILE_CHANGED: those about accounts, the notice they call for, the dirty mark. -/
def State.keptSent (s : State) (which : ProfileRef) : List Instr :=
  s.keptMessages which ++ (if s.keptMessages which = [] then [] else [.notice .metering .time .every 0]) ++
    (if storedChanged s.metering (takeProfiles s.passes s.profiles.table (refSlots which) s.metering).unit = true then
      [.dirtyMark .metering false] else [])

theorem State.keepAccounts_eq (s : State) (which : ProfileRef) : s.keepAccounts which =
    (s.withMetering (takeProfiles s.passes s.profiles.table (refSlots which) s.metering).unit).sendAll (s.keptSent which) := by
  unfold State.keepAccounts State.keptSent State.keptMessages
  dsimp only
  rw [State.markDirtyIf_eq, State.metered_told, State.sendAll_sendAll]

theorem State.keptMessages_eq (s : State) (which : ProfileRef) : s.keptMessages which =
    (refSlots which).flatMap fun p => (takenAccount s.passes s.profiles.table s.metering p).2 :=
  (takeProfiles_spec s.passes s.profiles.table (refSlots_nodup which) s.metering).2.2

/-- Each message is about one account that the change concerns. -/
theorem State.keptMessages_about (sent : m ∈ s.keptMessages which) : ∃ p, aboutAccount p m := by
  rw [State.keptMessages_eq] at sent
  obtain ⟨p, -, told⟩ := List.mem_flatMap.mp sent
  exact ⟨p, takenAccount_names told⟩

theorem State.mem_keptSent_of_about (about : aboutAccount p m) : m ∈ s.keptSent which ↔
    p ∈ refSlots which ∧ m ∈ (takenAccount s.passes s.profiles.table s.metering p).2 := by
  have own : m ∈ s.keptSent which ↔ m ∈ s.keptMessages which := by
    unfold State.keptSent
    rw [List.mem_append, List.mem_append, or_assoc]
    refine or_iff_left ?_
    rcases about with rfl | rfl | rfl | rfl <;> split_ifs <;> simp
  rw [own, State.keptMessages_eq, List.mem_flatMap]
  refine ⟨?_, fun ⟨member, told⟩ => ⟨p, member, told⟩⟩
  rintro ⟨q, member, told⟩
  cases aboutAccount_inj about (takenAccount_names told)
  exact ⟨member, told⟩

theorem State.mem_keptSent_notice : .notice .metering .time .every 0 ∈ s.keptSent which ↔
    ∃ p m, aboutAccount p m ∧ m ∈ s.keptSent which := by
  have foreign : .notice .metering .time .every 0 ∉ s.keptMessages which := fun sent => by
    obtain ⟨p, e | e | e | e⟩ := State.keptMessages_about sent <;> cases e
  constructor
  · intro told
    have some_sent : s.keptMessages which ≠ [] := by
      intro none
      unfold State.keptSent at told
      rw [none, if_pos rfl] at told
      split_ifs at told <;> simp at told
    obtain ⟨m, sent⟩ := List.exists_mem_of_ne_nil _ some_sent
    obtain ⟨p, about⟩ := State.keptMessages_about sent
    exact ⟨p, m, about, List.mem_append_left _ (List.mem_append_left _ sent)⟩
  · rintro ⟨p, m, about, sent⟩
    obtain ⟨member, told⟩ := (State.mem_keptSent_of_about about).mp sent
    have own : m ∈ s.keptMessages which := by
      rw [State.keptMessages_eq]
      exact List.mem_flatMap.mpr ⟨p, member, told⟩
    refine List.mem_append_left _ (List.mem_append_right _ ?_)
    rw [if_neg (List.ne_nil_of_mem own)]
    exact List.mem_singleton_self _

theorem State.mem_keptSent_dirty : .dirtyMark .metering false ∈ s.keptSent which ↔
    storedChanged s.metering (takeProfiles s.passes s.profiles.table (refSlots which) s.metering).unit = true := by
  have foreign : .dirtyMark .metering false ∉ s.keptMessages which := fun sent => by
    obtain ⟨p, e | e | e | e⟩ := State.keptMessages_about sent <;> cases e
  unfold State.keptSent
  rw [List.mem_append, List.mem_append, or_iff_right]
  · split
    next changed => simp [changed]
    next kept => simp [kept]
  · rintro (own | notice)
    · exact foreign own
    · split_ifs at notice <;> simp at notice

theorem exec_profileChangedMetering_of_taken {rest : List Instr}
    (taken : takeFrom (.profileChangedMetering which) s.transit = some rest) :
    exec (.profileChangedMetering which) s = .next (((s.withTransit rest).withMetering
      (takeProfiles s.passes s.profiles.table (refSlots which) s.metering).unit).sendAll (s.keptSent which)) := by
  have base : exec (.profileChangedMetering which) s = execProfileChangedMetering which s := rfl
  rw [base, execProfileChangedMetering, onMessage_taken taken, State.keepAccounts_eq]
  rfl

/-- What is silent about p. -/
theorem silent_iff {ms : List Instr} : (.exhausted p ∉ ms ∧ .replenished p ∉ ms ∧ .curfewOn p ∉ ms ∧ .curfewOff p ∉ ms) ↔
    ∀ m, aboutAccount p m → m ∉ ms := by
  refine ⟨fun ⟨h1, h2, h3, h4⟩ m about => ?_, fun none => ⟨none _ (.inl rfl), none _ (.inr (.inl rfl)),
    none _ (.inr (.inr (.inl rfl))), none _ (.inr (.inr (.inr rfl)))⟩⟩
  rcases about with rfl | rfl | rfl | rfl
  · exact h1
  · exact h2
  · exact h3
  · exact h4

/-! ### CHARGE and curfew passes (R35, R42) -/

theorem exec_charge_of_taken {n : ScreenNo} {kind : ChargeKind} {rest : List Instr}
    (taken : takeFrom (.charge n p kind) s.transit = some rest) :
    exec (.charge n p kind) s = .next ((s.withTransit rest).withMetering { s.metering with
      charges := put s.metering.charges n { profile := p, kind := kind } }) := by
  have base : exec (.charge n p kind) s = execCharge n p kind s := rfl
  rw [base, execCharge, onMessage_taken taken]
  rfl

theorem exec_curfewPassChange_of_taken {id : Nat} {rest : List Instr}
    (taken : takeFrom (.curfewPassChange id p) s.transit = some rest) :
    exec (.curfewPassChange id p) s =
      .next ((s.withTransit rest).metered (evaluateCurfew s.passes [p] s.metering) false) := by
  have base : exec (.curfewPassChange id p) s = execCurfewPassChange id p s := rfl
  rw [base, execCurfewPassChange, onMessage_taken taken]
  rfl

theorem evaluateCurfew_idle {l : PassList} {u : MeteringUnit} (idle : u.running = false ∨ u.accounts[p] = none) :
    evaluateCurfew l [p] u = ⟨u, []⟩ := by
  unfold evaluateCurfew
  split
  next running =>
    rcases idle with stopped | missing
    · rw [stopped] at running
      cases running
    · unfold MeteringUnit.perAccount
      simp only [List.foldl_cons, List.foldl_nil, missing]
  next => rfl

theorem evaluateCurfew_held {l : PassList} {u : MeteringUnit} {a : Account} (running : u.running = true)
    (held : u.accounts[p] = some a) : evaluateCurfew l [p] u =
      ⟨{ u with accounts := put u.accounts p (some (evaluateAccount l u p a).1) }, (evaluateAccount l u p a).2⟩ := by
  have one := evaluateCurfew_one l u p a
  rw [if_pos running, ← held, put_get_self] at one
  exact one

/-- R42: the one message of an evaluation. -/
theorem evaluateAccount_snd (l : PassList) (u : MeteringUnit) (p : Slot) (a : Account) :
    (evaluateAccount l u p a).2 = if (if insideCurfew l u p a then CurfewState.inside else .outside) = a.curfew then []
      else [if (if insideCurfew l u p a then CurfewState.inside else .outside) = .inside then .curfewOn p else .curfewOff p] := by
  unfold evaluateAccount
  cases insideCurfew l u p a <;> cases a.curfew <;> rfl

end Acts

/-- Settles O19: CHARGE; PROFILE_CHANGED by what it makes of each account it concerns; a curfew pass change by one
evaluation. -/
theorem meteringTakesItsMessages : Obligations.MeteringTakesItsMessages := by
  refine ⟨fun n p kind rest s taken => exec_charge_of_taken taken, fun which rest s taken => ?changed,
    fun id p rest s taken => ⟨fun idle => ?idle, fun a running held => ?evaluated⟩⟩
  case changed =>
    obtain ⟨only, accounts, -⟩ := takeProfiles_spec s.passes s.profiles.table (refSlots_nodup which) s.metering
    have day : (takeProfiles s.passes s.profiles.table (refSlots which) s.metering).unit.accountDay = s.metering.accountDay := by
      rw [only]
    refine ⟨_, _, exec_profileChangedMetering_of_taken taken, only, ?_, ?_, fun p => ⟨fun notAll notOne => ?_, fun named => ?_⟩⟩
    · rw [State.mem_keptSent_notice]
      simp only [silent_iff, not_forall, not_not, exists_prop]
    · rw [State.mem_keptSent_dirty, storedChanged_iff, or_iff_right (not_not.mpr day)]
    · have outside : p ∉ refSlots which := fun member => (mem_refSlots.mp member).elim notAll notOne
      rw [accounts p, if_neg outside]
      exact ⟨rfl, silent_iff.mpr fun m about sent => outside ((State.mem_keptSent_of_about about).mp sent).1⟩
    have member := mem_refSlots.mpr named
    have sent : ∀ m, aboutAccount p m →
        (m ∈ s.keptSent which ↔ m ∈ (takenAccount s.passes s.profiles.table s.metering p).2) := fun m about =>
      (State.mem_keptSent_of_about about).trans (and_iff_right member)
    rw [accounts p, if_pos member]
    refine ⟨fun adult => ?_, fun k child => ?_⟩
    · rw [takenAccount_adult adult] at sent ⊢
      exact ⟨rfl, silent_iff.mpr fun m about told => absurd ((sent m about).mp told) List.not_mem_nil⟩
    obtain ⟨b, now, record, running, stopped, renewal, on, off⟩ :=
      takenAccount_account (l := s.passes) (u := s.metering) child
    have exhausts := (sent _ (.inl rfl)).trans (renewal _ (.inl rfl))
    have replenishes := (sent _ (.inr (.inl rfl))).trans (renewal _ (.inr rfl))
    have turnsOn := (sent _ (.inr (.inr (.inl rfl)))).trans on
    have turnsOff := (sent _ (.inr (.inr (.inr rfl)))).trans off
    refine ⟨b, now, ?_, ?_, running, fun missing => ?_, fun a held => ?_⟩
    · rw [record]
      exact renewed_terms s.metering p k
    · rw [record]
      exact renewed_flags_length s.metering p k
    · rw [renewed_fresh missing] at record stopped exhausts replenishes turnsOn turnsOff
      have left : (freshAccount k).remaining s.metering.today = b.base s.metering.today := by
        rw [record, Account.remaining_eq]
        exact (Nat.zero_max _).trans rfl
      rw [left] at exhausts replenishes
      refine ⟨by rw [record]; rfl, by rw [record]; rfl, by rw [record]; rfl, by rw [record]; rfl, ?_, stopped,
        fun told => ?_, replenishes.trans ?_, turnsOn.trans (and_iff_right rfl), fun told => ?_⟩
      · rw [record]
        exact fun f clear => (List.mem_map.mp clear).elim fun _ same => same.2.symm
      · have := exhausts.mp told
        split_ifs at this <;> simp at this
      · split
        next positive => exact iff_of_true (List.mem_singleton_self _) positive
        next none => exact iff_of_false List.not_mem_nil none
      · cases (turnsOff.mp told).1
    · rw [renewed_kept held] at record stopped exhausts replenishes turnsOn turnsOff
      have own := reassess_own p s.metering.today (a.remaining s.metering.today) (keptAccount k a)
      rw [show (keptAccount k a).warned = a.warned from rfl] at own
      rw [own] at record stopped turnsOn turnsOff
      rw [exhausted_mem_reassess] at exhausts
      rw [replenished_mem_reassess] at replenishes
      have left : (keptAccount k a).remaining s.metering.today = b.remaining s.metering.today :=
        Account.remaining_congr (by rw [record]) (by rw [record]) (by rw [record]) _
      rw [left] at record exhausts replenishes
      refine ⟨by rw [record]; rfl, by rw [record]; rfl, by rw [record]; rfl, (congrArg Account.warned record).trans rfl,
        fun i w window => ?_, stopped, exhausts, replenishes, turnsOn, turnsOff⟩
      rw [record]
      exact keptFlags_set_iff a.terms.windows a.curfewWarned k.windows i window
  case idle =>
    rw [exec_curfewPassChange_of_taken taken, evaluateCurfew_idle idle, State.metered_told]
    dsimp only
    rw [if_pos rfl, List.append_nil, State.sendAll_nil]
    rfl
  case evaluated =>
    intro now
    rw [exec_curfewPassChange_of_taken taken, evaluateCurfew_held running held, State.metered_told, evaluateAccount_snd]
    dsimp only
    by_cases same : now = a.curfew
    · rw [if_pos same, if_pos same, if_pos rfl]
      rfl
    · rw [if_neg same, if_neg same, if_neg (List.cons_ne_nil _ _)]
      rfl

/-! ### Curfew warnings (R43) -/

section Warnings

variable {l : PassList} {u : MeteringUnit} {p : Slot} {a : Account} {m : Instr}

theorem PassList.curfewPass_eq_false : l.curfewPass p = false ↔ ∀ x ∈ l.held, x.scope ≠ .curfew p := by
  simp [PassList.curfewPass, List.any_eq_false]

/-- R43: the profile may be given a curfew warning. -/
def mayWarn (l : PassList) (p : Slot) (a : Account) : Prop :=
  0 < a.terms.lead ∧ a.curfew = .outside ∧ ∀ x ∈ l.held, x.scope ≠ .curfew p

/-- R43: the current minute lies in the lead span of a window that applies today. -/
def reachesWindow (now : DayKind) (m lead : Nat) (w : CurfewWindow) : Prop :=
  (w.applies = .both ∨ (w.applies = .school ∧ now = .school) ∨ (w.applies = .free ∧ now = .free)) ∧
    w.start - lead ≤ m ∧ m < w.start

theorem mayWarn_iff : (0 < a.terms.lead ∧ a.curfew = .outside ∧ l.curfewPass p = false) ↔ mayWarn l p a := by
  rw [PassList.curfewPass_eq_false]
  rfl

theorem givesCurfewWarning_iff {lead : Nat} {w : CurfewWindow} {flag : Bool} :
    givesCurfewWarning u lead w flag = true ↔ flag = false ∧ reachesWindow u.today u.minute lead w := by
  simp only [givesCurfewWarning, reachesWindow, Bool.and_eq_true, Bool.not_eq_true', appliesTo_iff, decide_eq_true_eq, and_assoc]

theorem warnAccountCurfew_may (may : mayWarn l p a) : warnAccountCurfew l u p a =
    ({ a with
        curfewWarned := List.zipWith (· || ·) a.curfewWarned
          (List.zipWith (givesCurfewWarning u a.terms.lead) a.terms.windows a.curfewWarned) },
      if (List.zipWith (givesCurfewWarning u a.terms.lead) a.terms.windows a.curfewWarned).any id then
        [.warn p .curfew] else []) := if_pos (mayWarn_iff.mpr may)

theorem warnAccountCurfew_mayNot (mayNot : ¬ mayWarn l p a) : warnAccountCurfew l u p a = (a, []) :=
  if_neg (mt mayWarn_iff.mp mayNot)

/-- A flag is set where it was, and where its window is reached. -/
theorem warnedFlags_set_iff {ws : List CurfewWindow} {fs : List Bool} (same : fs.length = ws.length) (lead : Nat) {i : Nat}
    {w : CurfewWindow} (window : ws[i]? = some w) :
    (List.zipWith (· || ·) fs (List.zipWith (givesCurfewWarning u lead) ws fs))[i]? = some true ↔
      fs[i]? = some true ∨ reachesWindow u.today u.minute lead w := by
  obtain ⟨inside, -⟩ := List.getElem?_eq_some_iff.mp window
  obtain ⟨f, flag⟩ : ∃ f, fs[i]? = some f := ⟨fs[i]'(same ▸ inside), List.getElem?_eq_getElem _⟩
  rw [List.getElem?_zipWith, List.getElem?_zipWith, window, flag]
  simp only [Option.some.injEq, Bool.or_eq_true, givesCurfewWarning_iff]
  cases f <;> simp

theorem warnedFlags_any_iff {ws : List CurfewWindow} {fs : List Bool} (lead : Nat) :
    (List.zipWith (givesCurfewWarning u lead) ws fs).any id = true ↔
      ∃ (i : Nat) (w : CurfewWindow), ws[i]? = some w ∧ fs[i]? = some false ∧ reachesWindow u.today u.minute lead w := by
  rw [List.any_eq_true]
  constructor
  · rintro ⟨g, member, set⟩
    obtain ⟨i, place⟩ := List.mem_iff_getElem?.mp member
    rw [List.getElem?_zipWith_eq_some] at place
    obtain ⟨w, f, window, flag, rfl⟩ := place
    obtain ⟨rfl, reached⟩ := givesCurfewWarning_iff.mp set
    exact ⟨i, w, window, flag, reached⟩
  · rintro ⟨i, w, window, flag, reached⟩
    refine ⟨true, List.mem_iff_getElem?.mpr ⟨i, ?_⟩, rfl⟩
    rw [List.getElem?_zipWith_eq_some]
    exact ⟨w, false, window, flag, givesCurfewWarning_iff.mpr ⟨rfl, reached⟩⟩

theorem warnAccountCurfew_names (sent : m ∈ (warnAccountCurfew l u p a).2) : m = .warn p .curfew := by
  by_cases may : mayWarn l p a
  · rw [warnAccountCurfew_may may] at sent
    dsimp only at sent
    split at sent
    · exact List.mem_singleton.mp sent
    · cases sent
  · rw [warnAccountCurfew_mayNot may] at sent
    cases sent

theorem warnAccountCurfew_nodup (l : PassList) (u : MeteringUnit) (p : Slot) (a : Account) :
    (warnAccountCurfew l u p a).2.Nodup := by
  unfold warnAccountCurfew
  split
  · dsimp only
    split
    · exact List.nodup_singleton _
    · exact List.nodup_nil
  · exact List.nodup_nil

theorem giveCurfewWarnings_spec (l : PassList) (u : MeteringUnit) :
    u.onlyAccounts (giveCurfewWarnings l u).unit ∧
    (∀ p : Slot, (giveCurfewWarnings l u).unit.accounts[p] = u.accounts[p].map fun a => (warnAccountCurfew l u p a).1) ∧
    (∀ m : Instr, m ∈ (giveCurfewWarnings l u).sent ↔
      ∃ (p : Slot) (a : Account), u.accounts[p] = some a ∧ m ∈ (warnAccountCurfew l u p a).2) ∧
    (giveCurfewWarnings l u).sent.Nodup := by
  obtain ⟨only, accounts, -⟩ := MeteringUnit.perAccount_spec (warnAccountCurfew_local l u) slots_nodup
  refine ⟨only, fun p => ?_, fun m => ?_, ?_⟩
  · rw [giveCurfewWarnings, accounts p, if_pos (mem_slots p)]
  · rw [giveCurfewWarnings, MeteringUnit.mem_perAccount_sent (warnAccountCurfew_local l u) slots_nodup]
    simp only [mem_slots, true_and]
  · refine MeteringUnit.perAccount_sent_nodup (warnAccountCurfew_local l u) slots_nodup
      (fun p a => warnAccountCurfew_nodup l u p a) fun p q a b m of_p of_q => ?_
    have same := (warnAccountCurfew_names of_p).symm.trans (warnAccountCurfew_names of_q)
    cases same
    rfl

theorem mem_giveCurfewWarnings (held : u.accounts[p] = some a) :
    .warn p .curfew ∈ (giveCurfewWarnings l u).sent ↔ .warn p .curfew ∈ (warnAccountCurfew l u p a).2 := by
  rw [(giveCurfewWarnings_spec l u).2.2.1]
  refine ⟨?_, fun sent => ⟨p, a, held, sent⟩⟩
  rintro ⟨q, b, holds, sent⟩
  cases warnAccountCurfew_names sent
  cases held.symm.trans holds
  exact sent

end Warnings

/-! ### The minute work (R36 part 6, R48 step 2) -/

section Minute

variable {l : PassList} {u : MeteringUnit} {p : Slot} {a : Account}

/-- What the minute work makes of the account a of p: evaluated against the unit `now`, with its messages. -/
def curfewMoves (l : PassList) (now : MeteringUnit) (evaluated warned : List Instr) (p : Slot) (a b : Account) : Prop :=
  b = { a with curfew := b.curfew, curfewWarned := b.curfewWarned } ∧
  (b.curfew = .inside ↔ insideCurfew l now p b = true) ∧
  (.curfewOn p ∈ evaluated ↔ a.curfew = .outside ∧ b.curfew = .inside) ∧
  (.curfewOff p ∈ evaluated ↔ a.curfew = .inside ∧ b.curfew = .outside) ∧
  (¬ mayWarn l p b → b.curfewWarned = a.curfewWarned ∧ .warn p .curfew ∉ warned) ∧
  (mayWarn l p b → a.curfewWarned.length = a.terms.windows.length →
    b.curfewWarned.length = a.curfewWarned.length ∧
    (∀ (i : Nat) (w : CurfewWindow), a.terms.windows[i]? = some w →
      (b.curfewWarned[i]? = some true ↔ a.curfewWarned[i]? = some true ∨ reachesWindow now.today now.minute a.terms.lead w)) ∧
    (.warn p .curfew ∈ warned ↔ ∃ (i : Nat) (w : CurfewWindow), a.terms.windows[i]? = some w ∧
      a.curfewWarned[i]? = some false ∧ reachesWindow now.today now.minute a.terms.lead w))

theorem minuteWork_eq (l : PassList) (u : MeteringUnit) : minuteWork l u =
    ⟨(giveCurfewWarnings l (evaluateCurfew l slots u).unit).unit,
      (evaluateCurfew l slots u).sent ++ (giveCurfewWarnings l (evaluateCurfew l slots u).unit).sent⟩ := rfl

/-- The account after the minute work, while RUNNING. -/
theorem minuteWork_account (running : u.running = true) (held : u.accounts[p] = some a) :
    (minuteWork l u).unit.accounts[p] = some (warnAccountCurfew l u p (evaluateAccount l u p a).1).1 := by
  obtain ⟨-, accounts, -⟩ := minuteWork_spec l u
  rw [accounts p, held, Option.map_some, minuteAccount, if_pos running]

theorem mem_minuteWork_warn (running : u.running = true) (held : u.accounts[p] = some a) :
    .warn p .curfew ∈ (giveCurfewWarnings l (evaluateCurfew l slots u).unit).sent ↔
      .warn p .curfew ∈ (warnAccountCurfew l u p (evaluateAccount l u p a).1).2 := by
  have account := evaluateCurfew_account (l := l) held
  rw [if_pos running] at account
  obtain ⟨only, -⟩ := evaluateCurfew_spec l slots_nodup u
  rw [mem_giveCurfewWarnings account, warnAccountCurfew_local l u _ only]

/-- R42, R43: the two parts of the minute work on one account. -/
theorem evaluated_warned_moves (l : PassList) (u : MeteringUnit) (p : Slot) (a : Account) {evaluated warned : List Instr}
    (told : ∀ m, m = .curfewOn p ∨ m = .curfewOff p → (m ∈ evaluated ↔ m ∈ (evaluateAccount l u p a).2))
    (warns : .warn p .curfew ∈ warned ↔ .warn p .curfew ∈ (warnAccountCurfew l u p (evaluateAccount l u p a).1).2) :
    curfewMoves l u evaluated warned p a (warnAccountCurfew l u p (evaluateAccount l u p a).1).1 := by
  have turnsOn := (told _ (.inl rfl)).trans curfewOn_mem_evaluate
  have turnsOff := (told _ (.inr rfl)).trans curfewOff_mem_evaluate
  have inside : (evaluateAccount l u p a).1.curfew = .inside ↔ insideCurfew l u p (evaluateAccount l u p a).1 = true :=
    evaluated_inside_iff
  have record : (evaluateAccount l u p a).1 = { a with curfew := (evaluateAccount l u p a).1.curfew } := rfl
  generalize (evaluateAccount l u p a).1 = e at *
  by_cases may : mayWarn l p e
  · rw [warnAccountCurfew_may may] at warns ⊢
    refine ⟨by rw [record], inside, turnsOn, turnsOff, fun mayNot => absurd may mayNot, fun _ same => ?_⟩
    have flags : e.curfewWarned = a.curfewWarned := by rw [record]
    have terms : e.terms = a.terms := by rw [record]
    dsimp only at warns ⊢
    rw [flags, terms] at warns ⊢
    refine ⟨?_, fun i w window => warnedFlags_set_iff same a.terms.lead window, warns.trans ?_⟩
    · simp [same]
    · rw [← warnedFlags_any_iff]
      split
      next some_given => exact iff_of_true (List.mem_singleton_self _) some_given
      next none_given => exact iff_of_false List.not_mem_nil none_given
  · rw [warnAccountCurfew_mayNot may] at warns ⊢
    refine ⟨by rw [record], inside, turnsOn, turnsOff, fun _ => ⟨by rw [record], fun sent => ?_⟩, fun yes => absurd yes may⟩
    cases warns.mp sent

/-- The minute work reads nothing of the unit that an account holds. -/
theorem curfewMoves_onlyAccounts {v : MeteringUnit} {evaluated warned : List Instr} {b : Account} (only : u.onlyAccounts v)
    (moves : curfewMoves l u evaluated warned p a b) : curfewMoves l v evaluated warned p a b := by
  obtain ⟨-, -, -, -, -, -, -, -, -, -, today, minute⟩ := MeteringUnit.onlyAccounts_frame only
  unfold curfewMoves at moves ⊢
  rw [insideCurfew_onlyAccounts only, today, minute]
  exact moves

/-- R42, R43: what the minute work makes of an account, by its two lists of messages. -/
theorem minuteWork_moves (running : u.running = true) (held : u.accounts[p] = some a) :
    ∃ b : Account, (minuteWork l u).unit.accounts[p] = some b ∧
      curfewMoves l (minuteWork l u).unit (evaluateCurfew l slots u).sent
        (giveCurfewWarnings l (evaluateCurfew l slots u).unit).sent p a b := by
  refine ⟨_, minuteWork_account running held, curfewMoves_onlyAccounts (minuteWork_spec l u).1 ?_⟩
  refine evaluated_warned_moves l u p a (fun m named => ?_) (mem_minuteWork_warn running held)
  rw [mem_evaluateCurfew slots_nodup held named]
  simp only [running, mem_slots, true_and]

theorem minuteWork_missing (missing : u.accounts[p] = none) : (minuteWork l u).unit.accounts[p] = none := by
  rw [(minuteWork_spec l u).2.1 p, missing, Option.map_none]

end Minute

/-! ### SET_CLOCK (R46 to R48) -/

section SetDay

variable {u : MeteringUnit} {day second : Nat} {w : Fin 7} {p : Slot} {a : Account}

theorem MeteringUnit.startDay_spec (u : MeteringUnit) (day : Nat) :
    u.startDay day = { u with accountDay := day, accounts := (u.startDay day).accounts } ∧
    ∀ p : Slot, (u.startDay day).accounts[p] = u.accounts[p].map emptied :=
  MeteringUnit.mapAccounts_spec (u := { u with accountDay := day }) (f := fun _ _ a => emptied a) fun _ _ _ _ => rfl

/-- R45 step 4: the account at the beginning of a day, for a set into a later one. -/
def dayAccount (later : Prop) [Decidable later] (a : Account) : Account := if later then emptied a else a

/-- R47, Table 2-3: the clock and the day kinds after a set. -/
theorem setDay_eq (u : MeteringUnit) (day second : Nat) (w : Fin 7) : setDay u day second w = { u with
    day := day, second := second, weekday := w, accountDay := max u.accountDay day
    override := (if day = u.accountDay then u.override else none)
    yesterday :=
      (if day = u.accountDay ∧ u.running = true then u.yesterday
        else if day = u.accountDay + 1 ∧ u.running = true then u.today else u.plan[w + 6])
    accounts := (setDay u day second w).accounts } := by
  have never : day ≠ u.accountDay → ¬ (day = u.accountDay ∧ u.running = true) := fun other both => other both.1
  unfold setDay
  dsimp only
  by_cases same : day = u.accountDay
  · rw [if_pos same, max_eq_left same.le, if_pos same]
    cases runs : u.running <;> simp [same]
  rw [if_neg same, if_neg same, if_neg (never same)]
  by_cases later : u.accountDay < day
  · rw [if_pos later, max_eq_right later.le]
    refine (MeteringUnit.startDay_spec _ day).1.trans ?_
    dsimp only
    simp only [and_comm (a := u.running = true)]
  · have notNext : ¬ (day = u.accountDay + 1 ∧ u.running = true) := fun both => later (both.1 ▸ Nat.lt_succ_self _)
    rw [if_neg later, max_eq_left (Nat.not_lt.mp later), if_neg notNext]

theorem setDay_accounts (u : MeteringUnit) (day second : Nat) (w : Fin 7) (p : Slot) :
    (setDay u day second w).accounts[p] = u.accounts[p].map (dayAccount (u.accountDay < day)) := by
  by_cases later : u.accountDay < day
  · have same : day ≠ u.accountDay := later.ne'
    have emptyAll : dayAccount (u.accountDay < day) = emptied := funext fun a => if_pos later
    rw [setDay, if_neg same, if_pos later, emptyAll]
    exact (MeteringUnit.startDay_spec _ day).2 p
  · have keepAll : dayAccount (u.accountDay < day) = id := funext fun a => if_neg later
    rw [keepAll, Option.map_id, id_eq, setDay]
    split_ifs <;> rfl

end SetDay

section SetUnit

variable {l : PassList} {u : MeteringUnit} {day second : Nat} {w : Fin 7} {p : Slot} {a : Account}

/-- R48 step 1: the reassessment of a set. -/
def setReassessed (u : MeteringUnit) (day second : Nat) (w : Fin 7) : Metered := reassessAll u (setDay u day second w)

/-- R48: the unit at its minute work. -/
def setRunning (u : MeteringUnit) (day second : Nat) (w : Fin 7) : MeteringUnit :=
  { (setReassessed u day second w).unit with running := true }

theorem setUnit_eq (l : PassList) (u : MeteringUnit) (day second : Nat) (w : Fin 7) : setUnit l u day second w =
    ⟨(minuteWork l (setRunning u day second w)).unit, (setReassessed u day second w).sent ++
      (if u.accountDay < day then [.rolloverTaken] else []) ++ (minuteWork l (setRunning u day second w)).sent⟩ := by
  unfold setUnit setRunning setReassessed
  dsimp only

theorem setRunning_accounts (u : MeteringUnit) (day second : Nat) (w : Fin 7) :
    (setRunning u day second w).accounts = (reassessAll u (setDay u day second w)).unit.accounts := by
  unfold setRunning setReassessed
  dsimp only

theorem setRunning_eq (u : MeteringUnit) (day second : Nat) (w : Fin 7) : setRunning u day second w =
    { setDay u day second w with running := true, accounts := (setRunning u day second w).accounts } := by
  obtain ⟨only, -⟩ := reassessAll_spec u (setDay u day second w)
  unfold setRunning setReassessed
  generalize (reassessAll u (setDay u day second w)).unit = v at *
  generalize setDay u day second w = x at *
  unfold MeteringUnit.onlyAccounts at only
  rw [only]

/-- The clock and the day kinds after the whole set. -/
theorem setUnit_clock (l : PassList) (u : MeteringUnit) (day second : Nat) (w : Fin 7) :
    (minuteWork l (setRunning u day second w)).unit = { u with
      running := true, day := day, second := second, weekday := w, accountDay := max u.accountDay day
      override := (if day = u.accountDay then u.override else none)
      yesterday :=
        (if day = u.accountDay ∧ u.running = true then u.yesterday
          else if day = u.accountDay + 1 ∧ u.running = true then u.today else u.plan[w + 6])
      accounts := (minuteWork l (setRunning u day second w)).unit.accounts } := by
  obtain ⟨only, -⟩ := minuteWork_spec l (setRunning u day second w)
  have frame := setRunning_eq u day second w
  rw [setDay_eq] at frame
  generalize (minuteWork l (setRunning u day second w)).unit = v at *
  generalize setRunning u day second w = x at *
  unfold MeteringUnit.onlyAccounts at only
  rw [frame] at only
  exact only

/-- R47, R33: the account before the curfew evaluation. -/
theorem setRunning_account (held : u.accounts[p] = some a) (day second : Nat) (w : Fin 7) :
    (setRunning u day second w).accounts[p] =
      some (reassess p (setDay u day second w).today (a.remaining u.today) a.warned (dayAccount (u.accountDay < day) a)).1 := by
  obtain ⟨-, accounts, -⟩ := reassessAll_spec u (setDay u day second w)
  rw [setRunning_accounts, accounts p, setDay_accounts, held, Option.map_some, Option.map_some, reassessFrom_held held]

theorem setRunning_missing (missing : u.accounts[p] = none) (day second : Nat) (w : Fin 7) :
    (setRunning u day second w).accounts[p] = none := by
  obtain ⟨-, accounts, -⟩ := reassessAll_spec u (setDay u day second w)
  rw [setRunning_accounts, accounts p, setDay_accounts, missing, Option.map_none, Option.map_none]

/-- R33: the messages of the reassessment about p. -/
theorem mem_setReassessed {m : Instr} (held : u.accounts[p] = some a) (named : m = .exhausted p ∨ m = .replenished p) :
    m ∈ (setReassessed u day second w).sent ↔
      m ∈ (reassess p (setDay u day second w).today (a.remaining u.today) a.warned
        (dayAccount (u.accountDay < day) a)).2 := by
  rw [setReassessed, mem_reassessAll (by rw [setDay_accounts, held, Option.map_some]) named, reassessFrom_held held]

theorem setRunning_today (u : MeteringUnit) (day second : Nat) (w : Fin 7) :
    (setRunning u day second w).today = (setDay u day second w).today := by
  rw [setRunning_eq]
  rfl

theorem dayAccount_terms (later : Prop) [Decidable later] (a : Account) : (dayAccount later a).terms = a.terms := by
  unfold dayAccount
  split <;> rfl

theorem dayAccount_curfew (later : Prop) [Decidable later] (a : Account) : (dayAccount later a).curfew = a.curfew := by
  unfold dayAccount
  split <;> rfl

theorem dayAccount_flags (later : Prop) [Decidable later] (a : Account) : (dayAccount later a).curfewWarned =
    if later then a.curfewWarned.map fun _ => false else a.curfewWarned := by
  unfold dayAccount
  split <;> rfl

/-- R47, R33: used, bonus, overrun and the warned flag after a set. -/
theorem setAccount_fields {later : Prop} [Decidable later] {k : DayKind} {n : Nat} {b : Account}
    (record : b = { (reassess p k n a.warned (dayAccount later a)).1 with curfew := b.curfew, curfewWarned := b.curfewWarned }) :
    (if later then b.bonus = 0 ∧ b.used = 0 ∧ b.overrun = 0 ∧ b.warned = false
      else b.bonus = a.bonus ∧ b.used = a.used ∧ b.overrun = a.overrun ∧
        b.warned = (a.warned && decide (b.remaining k ≤ a.terms.lead * 60))) := by
  have left : (dayAccount later a).remaining k = b.remaining k :=
    Account.remaining_congr (by rw [record, reassess_fst]) (by rw [record, reassess_fst]) (by rw [record, reassess_fst]) _
  rw [reassess_fst, left] at record
  unfold dayAccount at record
  split
  next day =>
    rw [if_pos day] at record
    exact ⟨by rw [record]; rfl, by rw [record]; rfl, by rw [record]; rfl, by rw [record]; rfl⟩
  next same =>
    rw [if_neg same] at record
    exact ⟨by rw [record], by rw [record], by rw [record], (congrArg Account.warned record).trans (reassessedFlag _ _ _)⟩

end SetUnit

/-! ### The request -/

section SetClock

variable {r : Role} {time : RawTime} {weekday : Byte} {s : State} {w : Fin 7}

/-- R46 step 1: what needs no authority, or has it. -/
def setAllowed (s : State) (r : Role) (time : RawTime) : Prop :=
  s.authority r ≠ none ∨ s.metering.running = false ∨ ((time.day.toNat * 86400 + time.second.toNat : Int) -
    (s.metering.day * 86400 + s.metering.second)).natAbs ≤ 300

theorem setIsProtected_iff {u : MeteringUnit} {day second : Nat} : setIsProtected u day second = true ↔
    u.running = true ∧ 300 < ((day * 86400 + second : Int) - (u.day * 86400 + u.second)).natAbs := by
  rw [setIsProtected, Bool.and_eq_true, decide_eq_true_eq]
  refine and_congr_right fun _ => ?_
  omega

theorem exec_setClock_allowed (taken : s.handed r (.setClock r time weekday) = true) (allowed : setAllowed s r time) :
    exec (.setClock r time weekday) s =
      .next ((setClockInRange time weekday s).1.place r (setClockInRange time weekday s).2) := by
  rw [exec_setClock, execSetClock, onRequest_handed taken]
  split
  next guarded =>
    obtain ⟨running, far⟩ := setIsProtected_iff.mp guarded
    have authority : s.authority r ≠ none := by
      rcases allowed with authority | stopped | near
      · exact authority
      · rw [stopped] at running
        cases running
      · exact absurd near (Nat.not_le.mpr far)
    obtain ⟨opener, held⟩ := Option.ne_none_iff_exists'.mp authority
    rw [underAuthority_granted held]
  next => rfl

theorem setClockInRange_bad (bad : 86400 ≤ time.second.toNat ∨ 7 ≤ weekday.toNat) :
    setClockInRange time weekday s = (s, .bare .badValue) := by
  unfold setClockInRange
  split
  next w named =>
    refine if_neg fun small => ?_
    rcases bad with late | large
    · exact absurd small (Nat.not_lt.mpr late)
    · rw [weekdayOf, below_eq_none.mpr large] at named
      cases named
  next => rfl

theorem setClockInRange_good (second : time.second.toNat < 86400) (named : weekday.toNat = w.val) :
    setClockInRange time weekday s = (s.acceptSet time.day.toNat time.second.toNat w,
      .ok ([boolByte (s.acceptSet time.day.toNat time.second.toNat w).metering.running] ++
        le2 (s.acceptSet time.day.toNat time.second.toNat w).metering.accountDay)) := by
  have day : weekdayOf weekday = some w := below_eq_some named
  unfold setClockInRange
  rw [day]
  exact if_pos second

/-- R48: the messages of an accepted set, and the unit after it. -/
theorem State.acceptSet_eq (s : State) (day second : Nat) (w : Fin 7) :
    s.acceptSet day second w = (s.withMetering (minuteWork s.passes (setRunning s.metering day second w)).unit).sendAll
      ((setReassessed s.metering day second w).sent ++
        (if s.metering.accountDay < day then [.rolloverTaken] else []) ++
        (evaluateCurfew s.passes slots (setRunning s.metering day second w)).sent ++
        (giveCurfewWarnings s.passes (evaluateCurfew s.passes slots (setRunning s.metering day second w)).unit).sent ++
        [.clockSet, .passListClockSet, .minute, .notice .metering .time .every 0] ++
        (if s.metering.accountDay < day then [.dirtyMark .metering true]
          else if storedChanged s.metering (minuteWork s.passes (setRunning s.metering day second w)).unit = true then
            [.dirtyMark .metering false] else [])) := by
  have sent := congrArg Metered.sent (minuteWork_eq s.passes (setRunning s.metering day second w))
  unfold State.acceptSet
  rw [setUnit_eq]
  dsimp only at sent ⊢
  rw [State.metered_asked, sent]
  generalize (minuteWork s.passes (setRunning s.metering day second w)).unit = u
  split
  · rw [State.send_eq, State.sendAll_sendAll]
    simp only [List.append_assoc, List.cons_append, List.nil_append]
  · rw [State.markDirtyIf_eq, State.sendAll_sendAll]
    simp only [List.append_assoc, List.cons_append, List.nil_append]

end SetClock

/-! ### The accounts after a set -/

section SetAccounts

variable {l : PassList} {u v : MeteringUnit} {day second : Nat} {w : Fin 7} {p : Slot} {a : Account}

/-- Of the stored fields, an act that keeps bonus, used and overrun moves the flags alone. -/
theorem storedChanged_flags_iff (sameDay : v.accountDay = u.accountDay)
    (missing : ∀ p : Slot, u.accounts[p] = none → v.accounts[p] = none)
    (kept : ∀ (p : Slot) (a : Account), u.accounts[p] = some a →
      ∃ b : Account, v.accounts[p] = some b ∧ b.bonus = a.bonus ∧ b.used = a.used ∧ b.overrun = a.overrun) :
    storedChanged u v = true ↔ ∃ (p : Slot) (a b : Account), u.accounts[p] = some a ∧ v.accounts[p] = some b ∧
      (b.warned ≠ a.warned ∨ b.curfewWarned ≠ a.curfewWarned) := by
  rw [storedChanged_iff, or_iff_right (not_not.mpr sameDay)]
  refine exists_congr fun p => ?_
  cases held : u.accounts[p] with
  | none => simp [missing p held]
  | some a =>
    obtain ⟨b, now, bonus, used, overrun⟩ := kept p a held
    simp only [now, Option.map_some, ne_eq, Option.some.injEq, storedOf, StoredAccount.mk.injEq, bonus, used, overrun,
      true_and, not_and_or]
    refine ⟨fun differs => ⟨a, b, rfl, rfl, differs⟩, ?_⟩
    rintro ⟨_, _, rfl, rfl, differs⟩
    exact differs

/-- R47, R33, R42, R43: what a set makes of the account a of p. -/
def clockMoves (l : PassList) (u now : MeteringUnit) (later : Prop) [Decidable later]
    (reassessed evaluated warned : List Instr) (p : Slot) (a b : Account) : Prop :=
  let flags := if later then a.curfewWarned.map fun _ => false else a.curfewWarned
  let may := 0 < a.terms.lead ∧ b.curfew = .outside ∧ ∀ x ∈ l.held, x.scope ≠ .curfew p
  let reached := reachesWindow now.today now.minute a.terms.lead
  (if later then b.bonus = 0 ∧ b.used = 0 ∧ b.overrun = 0 ∧ b.warned = false
    else b.bonus = a.bonus ∧ b.used = a.used ∧ b.overrun = a.overrun ∧
      b.warned = (a.warned && decide (b.remaining now.today ≤ a.terms.lead * 60))) ∧
  (.exhausted p ∈ reassessed ↔ 0 < a.remaining u.today ∧ b.remaining now.today = 0) ∧
  (.replenished p ∈ reassessed ↔ (a.remaining u.today = 0 ∧ 0 < b.remaining now.today) ∨
    (a.warned = true ∧ a.terms.lead * 60 < b.remaining now.today)) ∧
  (b.curfew = .inside ↔ insideCurfew l now p b = true) ∧
  (.curfewOn p ∈ evaluated ↔ a.curfew = .outside ∧ b.curfew = .inside) ∧
  (.curfewOff p ∈ evaluated ↔ a.curfew = .inside ∧ b.curfew = .outside) ∧
  (¬ may → b.curfewWarned = flags ∧ .warn p .curfew ∉ warned) ∧
  (may → a.curfewWarned.length = a.terms.windows.length →
    b.curfewWarned.length = a.curfewWarned.length ∧
    (∀ (i : Nat) (w : CurfewWindow), a.terms.windows[i]? = some w →
      (b.curfewWarned[i]? = some true ↔ flags[i]? = some true ∨ reached w)) ∧
    (.warn p .curfew ∈ warned ↔ ∃ (i : Nat) (w : CurfewWindow), a.terms.windows[i]? = some w ∧
      flags[i]? = some false ∧ reached w))

/-- A set by its three parts on the account: emptied on a later day, reassessed, evaluated and warned. -/
theorem clockMoves_of_parts {later : Prop} [Decidable later] {now : MeteringUnit} {reassessed evaluated warned : List Instr}
    {b : Account}
    (told : ∀ m, m = .exhausted p ∨ m = .replenished p → (m ∈ reassessed ↔
      m ∈ (reassess p now.today (a.remaining u.today) a.warned (dayAccount later a)).2))
    (moves : curfewMoves l now evaluated warned p
      (reassess p now.today (a.remaining u.today) a.warned (dayAccount later a)).1 b) :
    b.terms = a.terms ∧ clockMoves l u now later reassessed evaluated warned p a b := by
  obtain ⟨record, inside, turnsOn, turnsOff, unwarned, warns⟩ := moves
  have exhausts := (told _ (.inl rfl)).trans exhausted_mem_reassess
  have replenishes := (told _ (.inr rfl)).trans replenished_mem_reassess
  have fields := setAccount_fields record
  rw [reassess_fst] at record turnsOn turnsOff unwarned warns
  have terms : b.terms = a.terms := by rw [record]; exact dayAccount_terms later a
  have left : (dayAccount later a).remaining now.today = b.remaining now.today :=
    Account.remaining_congr (by rw [record]) (by rw [record]) (by rw [record]) _
  rw [left] at exhausts replenishes
  rw [dayAccount_terms] at replenishes
  dsimp only at turnsOn turnsOff unwarned warns
  rw [dayAccount_curfew] at turnsOn turnsOff
  rw [dayAccount_flags] at unwarned
  rw [dayAccount_flags, dayAccount_terms] at warns
  rw [mayWarn, terms] at unwarned warns
  have length : (if later then a.curfewWarned.map fun _ => false else a.curfewWarned).length = a.curfewWarned.length := by
    split
    · exact List.length_map ..
    · rfl
  rw [length] at warns
  exact ⟨terms, fields, exhausts, replenishes, inside, turnsOn, turnsOff, unwarned, warns⟩

theorem setUnit_account (l : PassList) (held : u.accounts[p] = some a) (day second : Nat) (w : Fin 7) :
    ∃ b : Account, (minuteWork l (setRunning u day second w)).unit.accounts[p] = some b ∧ b.terms = a.terms ∧
      clockMoves l u (minuteWork l (setRunning u day second w)).unit (u.accountDay < day)
        (setReassessed u day second w).sent (evaluateCurfew l slots (setRunning u day second w)).sent
        (giveCurfewWarnings l (evaluateCurfew l slots (setRunning u day second w)).unit).sent p a b := by
  have running : (setRunning u day second w).running = true := rfl
  have told := fun (m : Instr) (named : m = .exhausted p ∨ m = .replenished p) =>
    mem_setReassessed (day := day) (second := second) (w := w) held named
  obtain ⟨b, now, moves⟩ := minuteWork_moves (l := l) running (setRunning_account held day second w)
  obtain ⟨-, -, -, -, -, -, -, -, -, -, today, -⟩ :=
    MeteringUnit.onlyAccounts_frame (minuteWork_spec l (setRunning u day second w)).1
  have day_kind := today.trans (setRunning_today u day second w)
  generalize evaluateCurfew l slots (setRunning u day second w) = e at *
  generalize (minuteWork l (setRunning u day second w)).unit = v at *
  rw [← day_kind] at told moves
  exact ⟨b, now, clockMoves_of_parts told moves⟩

theorem clockMoves_kept {later : Prop} [Decidable later] {now : MeteringUnit} {reassessed evaluated warned : List Instr}
    {b : Account} (same : ¬ later) (moves : clockMoves l u now later reassessed evaluated warned p a b) :
    b.bonus = a.bonus ∧ b.used = a.used ∧ b.overrun = a.overrun := by
  obtain ⟨fields, -⟩ := moves
  rw [if_neg same] at fields
  obtain ⟨bonus, used, overrun, -⟩ := fields
  exact ⟨bonus, used, overrun⟩

end SetAccounts

section SetMessages

variable {l : PassList} {u : MeteringUnit} {day second : Nat} {w : Fin 7} {p : Slot} {a : Account} {m : Instr}

theorem setReassessed_names : m ∈ (setReassessed u day second w).sent →
    ∃ p : Slot, u.accounts[p] ≠ none ∧ (m = .exhausted p ∨ m = .replenished p) := by
  intro sent
  obtain ⟨-, -, messages, -⟩ := reassessAll_spec u (setDay u day second w)
  rw [setReassessed, messages m] at sent
  obtain ⟨p, a, held, told⟩ := sent
  rw [setDay_accounts] at held
  obtain ⟨b, holds, -⟩ := Option.map_eq_some_iff.mp held
  exact ⟨p, by simp [holds], reassessFrom_names told⟩

theorem evaluateCurfew_names : m ∈ (evaluateCurfew l slots u).sent →
    ∃ p : Slot, u.accounts[p] ≠ none ∧ (m = .curfewOn p ∨ m = .curfewOff p) := by
  intro sent
  obtain ⟨-, p, -, a, held, told⟩ := ((evaluateCurfew_spec l slots_nodup u).2.2 m).mp sent
  exact ⟨p, by simp [held], evaluateAccount_names told⟩

theorem giveCurfewWarnings_names : m ∈ (giveCurfewWarnings l (evaluateCurfew l slots u).unit).sent →
    ∃ p : Slot, u.accounts[p] ≠ none ∧ m = .warn p .curfew := by
  intro sent
  obtain ⟨-, -, messages, -⟩ := giveCurfewWarnings_spec l (evaluateCurfew l slots u).unit
  rw [messages m] at sent
  obtain ⟨p, a, held, told⟩ := sent
  refine ⟨p, fun none => ?_, warnAccountCurfew_names told⟩
  rw [(evaluateCurfew_spec l slots_nodup u).2.1 p, none, Option.map_none, ite_self] at held
  cases held

theorem setRunning_held (held : (setRunning u day second w).accounts[p] ≠ none) : u.accounts[p] ≠ none :=
  fun missing => held (setRunning_missing missing day second w)

end SetMessages

/-- Settles O16: the protection and the ranges; then the clock by Table 2-3, and each account by the parts of the set. -/
theorem clockSetMovesDayKindsAndAccounts : Obligations.ClockSetMovesDayKindsAndAccounts := by
  refine ⟨fun r time weekday s taken bad allowed => ?bad, fun r time weekday w s taken second named allowed => ?good⟩
  case bad =>
    rw [exec_setClock_allowed taken allowed, setClockInRange_bad bad]
  case good =>
    intro before later
    have set := exec_setClock_allowed taken allowed
    rw [setClockInRange_good second named, State.acceptSet_eq] at set
    have clock := setUnit_clock s.passes s.metering time.day.toNat time.second.toNat w
    have accounts := fun (p : Slot) (a : Account) (held : s.metering.accounts[p] = some a) =>
      setUnit_account s.passes held time.day.toNat time.second.toNat w
    have missing := fun (p : Slot) (none : s.metering.accounts[p] = none) =>
      minuteWork_missing (l := s.passes) (setRunning_missing none time.day.toNat time.second.toNat w)
    have reassessed := (reassessAll_spec s.metering (setDay s.metering time.day.toNat time.second.toNat w)).2.2.2
    have evaluated := evaluateCurfew_nodup s.passes slots_nodup (setRunning s.metering time.day.toNat time.second.toNat w)
    have warned := (giveCurfewWarnings_spec s.passes
      (evaluateCurfew s.passes slots (setRunning s.metering time.day.toNat time.second.toNat w)).unit).2.2.2
    have reassessedNames := fun m => setReassessed_names (u := s.metering) (day := time.day.toNat)
      (second := time.second.toNat) (w := w) (m := m)
    have evaluatedNames := fun m => evaluateCurfew_names (l := s.passes)
      (u := setRunning s.metering time.day.toNat time.second.toNat w) (m := m)
    have warnedNames := fun m => giveCurfewWarnings_names (l := s.passes)
      (u := setRunning s.metering time.day.toNat time.second.toNat w) (m := m)
    have holds := fun (p : Slot) => setRunning_held (u := s.metering) (day := time.day.toNat)
      (second := time.second.toNat) (w := w) (p := p)
    rw [show (reassessAll s.metering (setDay s.metering time.day.toNat time.second.toNat w)) =
      setReassessed s.metering time.day.toNat time.second.toNat w from rfl] at reassessed
    generalize (giveCurfewWarnings s.passes
      (evaluateCurfew s.passes slots (setRunning s.metering time.day.toNat time.second.toNat w)).unit).sent = g at *
    generalize (evaluateCurfew s.passes slots (setRunning s.metering time.day.toNat time.second.toNat w)).sent = e at *
    generalize (setReassessed s.metering time.day.toNat time.second.toNat w).sent = m at *
    generalize (minuteWork s.passes (setRunning s.metering time.day.toNat time.second.toNat w)).unit = u at *
    generalize setRunning s.metering time.day.toNat time.second.toNat w = x at *
    have running : u.running = true := by rw [clock]
    refine ⟨u, m, e, g, if s.metering.accountDay < time.day.toNat then [.dirtyMark .metering true]
      else if storedChanged s.metering u = true then [.dirtyMark .metering false] else [], set.trans ?_, clock, reassessed, evaluated, warned, reassessedNames,
      fun i sent => ?_, fun i sent => ?_, fun day => if_pos day, fun same => ?_, fun p => ⟨missing p, fun a held => accounts p a held⟩⟩
    · simp only [State.sendAll_metering, State.withMetering_metering, running]
      rfl
    · obtain ⟨p, held, named⟩ := evaluatedNames i sent
      exact ⟨p, holds p held, named⟩
    · obtain ⟨p, held, named⟩ := warnedNames i sent
      exact ⟨p, holds p held, named⟩
    · rw [if_neg same]
      have sameDay : u.accountDay = s.metering.accountDay := by
        rw [clock]
        exact max_eq_left (Nat.not_lt.mp same)
      have flags := storedChanged_flags_iff sameDay missing fun p a held =>
        (accounts p a held).imp fun b now => ⟨now.1, clockMoves_kept same now.2.2⟩
      split
      next changed => exact ⟨.inr rfl, iff_of_true (List.cons_ne_nil _ _) (flags.mp changed)⟩
      next kept => exact ⟨.inl rfl, iff_of_false (not_not.mpr rfl) (mt flags.mpr kept)⟩

/-! ### The second tick on one account (R36 to R40) -/

section Ticked

variable {l : PassList} {u v : MeteringUnit} {p : Slot} {a b : Account} {m : Instr}

/-- R39: the account comes near to the end of its allowance. -/
def nearsEnd (today : DayKind) (a b : Account) : Prop :=
  0 < a.terms.lead ∧ a.warned = false ∧ 0 < b.remaining today ∧ b.remaining today ≤ a.terms.lead * 60

theorem warnAccount_fst (u : MeteringUnit) (p : Slot) (a : Account) :
    (warnAccount u p a).1 = { a with warned := (warnAccount u p a).1.warned } ∧
    ((warnAccount u p a).1.warned = true ↔ a.warned = true ∨ givesWarning u a) := by
  unfold warnAccount givesWarning
  split
  next gives => exact ⟨rfl, iff_of_true rfl (.inr gives)⟩
  next keeps => exact ⟨rfl, (or_iff_left keeps).symm⟩

/-- R37, R38: what the charge and the overrun make of an account; its flag is set by the warning alone. -/
theorem tickedAccount_eq (u : MeteringUnit) (p : Slot) (a : Account) :
    tickedAccount u p a = { a with
      used := a.used + min (tickCost a.terms.mode (u.chargeCount p .view)) (a.remaining u.today)
      overrun := min (a.overrun + tickCost a.terms.mode (u.chargeCount p .overrun)) 86400
      warned := (tickedAccount u p a).warned } := (warnAccount_fst u p _).1

/-- R39: the account that is warned has come near to its end. -/
theorem givesWarning_ticked_iff : givesWarning u (overrunAccount u p (chargeAccount u p a)) ↔
    nearsEnd u.today a (tickedAccount u p a) := by
  have left : (tickedAccount u p a).remaining u.today = (overrunAccount u p (chargeAccount u p a)).remaining u.today :=
    Account.remaining_congr (by rw [tickedAccount_eq]; rfl) (by rw [tickedAccount_eq]; rfl)
      (by rw [tickedAccount_eq]; rfl) _
  unfold givesWarning nearsEnd
  rw [left]
  rfl

theorem tickedAccount_warned : (tickedAccount u p a).warned = true ↔
    a.warned = true ∨ nearsEnd u.today a (tickedAccount u p a) := by
  rw [← givesWarning_ticked_iff]
  exact (warnAccount_fst u p _).2

theorem tickAccounts_names : m ∈ (tickAccounts u).sent → ∃ q : Slot, m = .warn q .allowance ∨ m = .exhausted q := by
  intro sent
  obtain ⟨q, a, -, told | told⟩ := ((tickAccounts_spec u).2.2 m).mp sent
  · exact ⟨q, .inl told.1⟩
  · exact ⟨q, .inr told.1⟩

theorem mem_tickAccounts (held : u.accounts[p] = some a) :
    (.warn p .allowance ∈ (tickAccounts u).sent ↔ nearsEnd u.today a (tickedAccount u p a)) ∧
    (.exhausted p ∈ (tickAccounts u).sent ↔ 0 < a.remaining u.today ∧ (tickedAccount u p a).remaining u.today = 0) := by
  obtain ⟨-, -, sent⟩ := tickAccounts_spec u
  rw [sent, sent]
  refine ⟨⟨?_, fun near => ⟨p, a, held, .inl ⟨rfl, givesWarning_ticked_iff.mpr near⟩⟩⟩,
    ⟨?_, fun ends => ⟨p, a, held, .inr ⟨rfl, ends⟩⟩⟩⟩
  · rintro ⟨q, c, holds, ⟨same, gives⟩ | ⟨other, -⟩⟩
    · cases same
      cases held.symm.trans holds
      exact givesWarning_ticked_iff.mp gives
    · cases other
  · rintro ⟨q, c, holds, ⟨other, -⟩ | ⟨same, ends⟩⟩
    · cases other
    · cases same
      cases held.symm.trans holds
      exact ends

/-! ### The minute boundary (R36 part 6) -/

/-- R36 part 6: the minute work, at a minute boundary alone. -/
def minuteIf (l : PassList) (u : MeteringUnit) : Metered := if u.second % 60 = 0 then minuteWork l u else ⟨u, []⟩

/-- The messages of its curfew evaluation and of its curfew warnings. -/
def evaluatedAt (l : PassList) (u : MeteringUnit) : List Instr :=
  if u.second % 60 = 0 then (evaluateCurfew l slots u).sent else []

def warnedAt (l : PassList) (u : MeteringUnit) : List Instr :=
  if u.second % 60 = 0 then (giveCurfewWarnings l (evaluateCurfew l slots u).unit).sent else []

theorem minuteIf_sent (l : PassList) (u : MeteringUnit) : (minuteIf l u).sent = evaluatedAt l u ++ warnedAt l u := by
  unfold minuteIf evaluatedAt warnedAt
  split
  · rw [minuteWork_eq]
  · rfl

theorem minuteIf_only (l : PassList) (u : MeteringUnit) : u.onlyAccounts (minuteIf l u).unit := by
  unfold minuteIf
  split
  · exact (minuteWork_spec l u).1
  · exact u.onlyAccounts_refl

theorem minuteIf_missing (missing : u.accounts[p] = none) : (minuteIf l u).unit.accounts[p] = none := by
  unfold minuteIf
  split
  · exact minuteWork_missing missing
  · exact missing

theorem evaluatedAt_names : m ∈ evaluatedAt l u → ∃ q : Slot, m = .curfewOn q ∨ m = .curfewOff q := by
  intro sent
  unfold evaluatedAt at sent
  split at sent
  · obtain ⟨q, -, named⟩ := evaluateCurfew_names sent
    exact ⟨q, named⟩
  · cases sent

theorem warnedAt_names : m ∈ warnedAt l u → ∃ q : Slot, m = .warn q .curfew := by
  intro sent
  unfold warnedAt at sent
  split at sent
  · obtain ⟨q, -, named⟩ := giveCurfewWarnings_names sent
    exact ⟨q, named⟩
  · cases sent

/-- What part 6 makes of an account: the minute work at a boundary, and nothing between boundaries. -/
def boundaryMoves (l : PassList) (now : MeteringUnit) (evaluated warned : List Instr) (p : Slot) (a b : Account) : Prop :=
  (now.second % 60 = 0 → curfewMoves l now evaluated warned p a b) ∧
  (now.second % 60 ≠ 0 → b = a ∧ evaluated = [] ∧ warned = [])

theorem minuteIf_moves (running : u.running = true) (held : u.accounts[p] = some a) :
    ∃ b : Account, (minuteIf l u).unit.accounts[p] = some b ∧
      boundaryMoves l (minuteIf l u).unit (evaluatedAt l u) (warnedAt l u) p a b := by
  unfold minuteIf evaluatedAt warnedAt
  by_cases boundary : u.second % 60 = 0
  · rw [if_pos boundary, if_pos boundary, if_pos boundary]
    obtain ⟨b, now, moves⟩ := minuteWork_moves (l := l) running held
    obtain ⟨-, -, second, -⟩ := MeteringUnit.onlyAccounts_frame (minuteWork_spec l u).1
    exact ⟨b, now, fun _ => moves, fun other => absurd boundary (second ▸ other)⟩
  · rw [if_neg boundary, if_neg boundary, if_neg boundary]
    exact ⟨a, held, fun same => absurd same boundary, fun _ => ⟨rfl, rfl, rfl⟩⟩

end Ticked

/-! ### The whole tick (R36) -/

section Tick

variable {l : PassList} {u v : MeteringUnit} {p : Slot} {a b : Account} {m : Instr}

theorem tickUnit_eq (l : PassList) (u : MeteringUnit) : tickUnit l u =
    ⟨(minuteIf l (tickAccounts (advance u).unit).unit).unit,
      (advance u).sent ++ (tickAccounts (advance u).unit).sent ++
        (evaluatedAt l (tickAccounts (advance u).unit).unit ++ warnedAt l (tickAccounts (advance u).unit).unit)⟩ := by
  rw [← minuteIf_sent]
  unfold tickUnit minuteIf
  dsimp only

theorem tickUnit_only (l : PassList) (u : MeteringUnit) : (advance u).unit.onlyAccounts (tickUnit l u).unit := by
  rw [tickUnit_eq]
  dsimp only
  exact MeteringUnit.onlyAccounts_trans (tickAccounts_spec _).1 (minuteIf_only _ _)

theorem tickUnit_missing (missing : (advance u).unit.accounts[p] = none) : (tickUnit l u).unit.accounts[p] = none := by
  rw [tickUnit_eq]
  dsimp only
  refine minuteIf_missing ?_
  rw [(tickAccounts_spec _).2.1 p, missing, Option.map_none]

/-- What the tick makes of the account a, which part 1 has left. -/
def tickMoves (l : PassList) (now : MeteringUnit) (told evaluated warned : List Instr) (p : Slot) (a b : Account) : Prop :=
  b.terms = a.terms ∧ b.bonus = a.bonus ∧
  b.used = a.used + min (tickCost a.terms.mode (now.chargeCount p .view)) (a.remaining now.today) ∧
  b.overrun = min (a.overrun + tickCost a.terms.mode (now.chargeCount p .overrun)) 86400 ∧
  (.exhausted p ∈ told ↔ 0 < a.remaining now.today ∧ b.remaining now.today = 0) ∧
  (b.warned = true ↔ a.warned = true ∨ nearsEnd now.today a b) ∧
  (.warn p .allowance ∈ told ↔ nearsEnd now.today a b) ∧
  (now.second % 60 ≠ 0 → b.curfew = a.curfew ∧ b.curfewWarned = a.curfewWarned ∧ .warn p .curfew ∉ warned) ∧
  (now.second % 60 = 0 → (b.curfew = .inside ↔ insideCurfew l now p b = true)) ∧
  (.curfewOn p ∈ evaluated ↔ a.curfew = .outside ∧ b.curfew = .inside) ∧
  (.curfewOff p ∈ evaluated ↔ a.curfew = .inside ∧ b.curfew = .outside) ∧
  (now.second % 60 = 0 → ¬ mayWarn l p b → b.curfewWarned = a.curfewWarned ∧ .warn p .curfew ∉ warned) ∧
  (now.second % 60 = 0 → mayWarn l p b → a.curfewWarned.length = a.terms.windows.length →
    b.curfewWarned.length = a.curfewWarned.length ∧
    (∀ (i : Nat) (w : CurfewWindow), a.terms.windows[i]? = some w →
      (b.curfewWarned[i]? = some true ↔ a.curfewWarned[i]? = some true ∨ reachesWindow now.today now.minute a.terms.lead w)) ∧
    (.warn p .curfew ∈ warned ↔ ∃ (i : Nat) (w : CurfewWindow), a.terms.windows[i]? = some w ∧
      a.curfewWarned[i]? = some false ∧ reachesWindow now.today now.minute a.terms.lead w))

/-- A tick by its two halves on the account: parts 2 to 5, and part 6. -/
theorem tickMoves_of_parts {now : MeteringUnit} {told evaluated warned : List Instr} {c : Account} (ticked : c = { a with
      used := a.used + min (tickCost a.terms.mode (now.chargeCount p .view)) (a.remaining now.today)
      overrun := min (a.overrun + tickCost a.terms.mode (now.chargeCount p .overrun)) 86400, warned := c.warned })
    (warns : c.warned = true ↔ a.warned = true ∨ nearsEnd now.today a c)
    (tells : .warn p .allowance ∈ told ↔ nearsEnd now.today a c)
    (ends : .exhausted p ∈ told ↔ 0 < a.remaining now.today ∧ c.remaining now.today = 0)
    (moves : boundaryMoves l now evaluated warned p c b) : tickMoves l now told evaluated warned p a b := by
  obtain ⟨at_boundary, between⟩ := moves
  have curfew : c.curfew = a.curfew := by rw [ticked]
  have flags : c.curfewWarned = a.curfewWarned := by rw [ticked]
  have terms : c.terms = a.terms := by rw [ticked]
  have bonus : c.bonus = a.bonus := by rw [ticked]
  have used : c.used = a.used + min (tickCost a.terms.mode (now.chargeCount p .view)) (a.remaining now.today) := by rw [ticked]
  have overrun : c.overrun = min (a.overrun + tickCost a.terms.mode (now.chargeCount p .overrun)) 86400 := by rw [ticked]
  by_cases boundary : now.second % 60 = 0
  · obtain ⟨record, inside, turnsOn, turnsOff, mayNot, may⟩ := at_boundary boundary
    have left : b.remaining now.today = c.remaining now.today :=
      Account.remaining_congr (by rw [record]) (by rw [record]) (by rw [record]) _
    have near : nearsEnd now.today a b ↔ nearsEnd now.today a c := by rw [nearsEnd, nearsEnd, left]
    have warned_kept : b.warned = c.warned := by rw [record]
    rw [curfew] at turnsOn turnsOff
    rw [flags] at mayNot may
    rw [terms] at may
    exact ⟨by rw [record, terms], by rw [record, bonus], by rw [record, used], by rw [record, overrun],
      by rw [left]; exact ends, by rw [near, warned_kept]; exact warns, by rw [near]; exact tells,
      fun other => absurd boundary other, fun _ => inside, turnsOn, turnsOff, fun _ => mayNot, fun _ => may⟩
  · obtain ⟨rfl, rfl, rfl⟩ := between boundary
    refine ⟨terms, bonus, used, overrun, ends, warns, tells, fun _ => ⟨curfew, flags, List.not_mem_nil⟩,
      fun same => absurd same boundary, iff_of_false List.not_mem_nil ?_, iff_of_false List.not_mem_nil ?_,
      fun same => absurd same boundary, fun same => absurd same boundary⟩
    · rw [curfew]
      rintro ⟨outside, inside⟩
      rw [outside] at inside
      cases inside
    · rw [curfew]
      rintro ⟨inside, outside⟩
      rw [inside] at outside
      cases outside

/-- R36: the tick on the account that part 1 has left. -/
theorem tickUnit_moves (l : PassList) (running : (advance u).unit.running = true) (held : (advance u).unit.accounts[p] = some a) :
    ∃ b : Account, (tickUnit l u).unit.accounts[p] = some b ∧
      tickMoves l (tickUnit l u).unit (tickAccounts (advance u).unit).sent
        (evaluatedAt l (tickAccounts (advance u).unit).unit) (warnedAt l (tickAccounts (advance u).unit).unit) p a b := by
  obtain ⟨only, accounts, -⟩ := tickAccounts_spec (advance u).unit
  obtain ⟨runs, -, -, -, -, -, -, -, -, -, -, -⟩ := MeteringUnit.onlyAccounts_frame only
  obtain ⟨-, -, -, -, -, -, -, -, -, -, today, -⟩ := MeteringUnit.onlyAccounts_frame (tickUnit_only l u)
  have charges := MeteringUnit.chargeCount_onlyAccounts (tickUnit_only l u) p
  have account : (tickAccounts (advance u).unit).unit.accounts[p] = some (tickedAccount (advance u).unit p a) := by
    rw [accounts p, held, Option.map_some]
  obtain ⟨b, now, moves⟩ := minuteIf_moves (l := l) (runs.trans running) account
  obtain ⟨tells, ends⟩ := mem_tickAccounts held
  have ticked := tickedAccount_eq (advance u).unit p a
  have warns := tickedAccount_warned (u := (advance u).unit) (p := p) (a := a)
  rw [tickUnit_eq] at charges today ⊢
  dsimp only at charges today ⊢
  generalize tickedAccount (advance u).unit p a = c at *
  generalize (minuteIf l (tickAccounts (advance u).unit).unit).unit = x at *
  rw [← charges, ← charges, ← today] at ticked
  rw [← today] at warns tells ends
  exact ⟨b, now, tickMoves_of_parts ticked warns tells ends moves⟩

end Tick

/-! ### The messages of a tick (R36, R54) -/

section TickMessages

variable {l : PassList} {u v : MeteringUnit} {p : Slot} {a b : Account} {m : Instr}

/-- What the Metering Unit sends after the messages of the tick's parts. -/
def tickTail (l : PassList) (u : MeteringUnit) : List Instr :=
  (if (tickUnit l u).sent = [] then [] else [.notice .metering .time .every 0]) ++
  (if (tickUnit l u).unit.second % 60 = 0 then [.minute] else []) ++
  (if 86399 ≤ u.second then [.dirtyMark .metering true] else []) ++
  (if activityBetween u (tickUnit l u).unit = true then [.accountActivity] else [])

/-- All messages of a tick. -/
def tickSent (l : PassList) (u : MeteringUnit) : List Instr := (tickUnit l u).sent ++ tickTail l u

theorem State.takeTick_eq (s : State) : s.takeTick =
    (s.withMetering (tickUnit s.passes s.metering).unit).sendAll (tickSent s.passes s.metering) := by
  unfold State.takeTick tickSent tickTail
  dsimp only
  rw [State.metered_told]
  generalize tickUnit s.passes s.metering = m
  split_ifs <;> simp only [State.send_eq, State.sendAll_sendAll, List.append_assoc, List.append_nil, List.nil_append]

/-- Parts 1 to 6 in order, and what follows them. -/
theorem tickSent_eq (l : PassList) (u : MeteringUnit) : tickSent l u =
    ((advance u).sent ++ (tickAccounts (advance u).unit).sent) ++
      ((evaluatedAt l (tickAccounts (advance u).unit).unit ++ warnedAt l (tickAccounts (advance u).unit).unit) ++
        tickTail l u) := by
  have sent : (tickUnit l u).sent = (advance u).sent ++ (tickAccounts (advance u).unit).sent ++
      (evaluatedAt l (tickAccounts (advance u).unit).unit ++ warnedAt l (tickAccounts (advance u).unit).unit) := by
    rw [tickUnit_eq]
  rw [tickSent, sent, List.append_assoc]

theorem mem_tickUnit_sent : m ∈ (tickUnit l u).sent ↔ m ∈ (advance u).sent ∨ m ∈ (tickAccounts (advance u).unit).sent ∨
    m ∈ evaluatedAt l (tickAccounts (advance u).unit).unit ∨ m ∈ warnedAt l (tickAccounts (advance u).unit).unit := by
  rw [tickUnit_eq]
  simp only [List.mem_append, or_assoc]

theorem mem_tickSent : m ∈ tickSent l u ↔ m ∈ (advance u).sent ∨ m ∈ (tickAccounts (advance u).unit).sent ∨
    m ∈ evaluatedAt l (tickAccounts (advance u).unit).unit ∨ m ∈ warnedAt l (tickAccounts (advance u).unit).unit ∨
    m ∈ tickTail l u := by
  rw [tickSent_eq]
  simp only [List.mem_append, or_assoc]

/-- Part 1 tells of the rollover and its reassessment alone. -/
theorem advance_names : m ∈ (advance u).sent → m = .rolloverTaken ∨ ∃ q : Slot, m = .exhausted q ∨ m = .replenished q := by
  intro sent
  unfold advance at sent
  split at sent
  · unfold rolloverAtTick at sent
    dsimp only at sent
    rw [List.mem_append, List.mem_singleton] at sent
    refine sent.symm.imp id fun told => ?_
    obtain ⟨-, -, messages, -⟩ := reassessAll_spec u
      (({ u with day := (u.day + 1) % cycleDays, weekday := u.weekday + 1, second := 0, yesterday := u.today
                 override := none } : MeteringUnit).startDay ((u.day + 1) % cycleDays))
    rw [messages m] at told
    obtain ⟨q, a, -, named⟩ := told
    exact ⟨q, reassessFrom_names named⟩
  · cases sent

theorem mem_if_singleton {c : Prop} [Decidable c] {m x : Instr} : m ∈ (if c then [x] else []) ↔ c ∧ m = x := by
  split
  next holds => rw [List.mem_singleton, and_iff_right holds]
  next fails => exact iff_of_false List.not_mem_nil fun both => fails both.1

/-- R36, R54, R45: the TIME notice, MINUTE, the rollover's dirty mark, the account activity. -/
theorem mem_tickTail : m ∈ tickTail l u ↔ ((tickUnit l u).sent ≠ [] ∧ m = .notice .metering .time .every 0) ∨
    ((tickUnit l u).unit.second % 60 = 0 ∧ m = .minute) ∨ (86399 ≤ u.second ∧ m = .dirtyMark .metering true) ∨
    (activityBetween u (tickUnit l u).unit = true ∧ m = .accountActivity) := by
  rw [tickTail, ← ite_not, List.mem_append, List.mem_append, List.mem_append, mem_if_singleton, mem_if_singleton,
    mem_if_singleton, mem_if_singleton, or_assoc, or_assoc]

theorem tickTail_names (tail : m ∈ tickTail l u) : m = .notice .metering .time .every 0 ∨ m = .minute ∨
    m = .dirtyMark .metering true ∨ m = .accountActivity :=
  (mem_tickTail.mp tail).imp And.right (Or.imp And.right (Or.imp And.right And.right))

theorem tickSent_exhausted : .exhausted p ∈ tickSent l u ↔
    .exhausted p ∈ (advance u).sent ∨ .exhausted p ∈ (tickAccounts (advance u).unit).sent := by
  rw [mem_tickSent]
  refine or_congr_right (or_iff_left ?_)
  rintro (evaluated | warned | tail)
  · obtain ⟨q, e | e⟩ := evaluatedAt_names evaluated <;> cases e
  · obtain ⟨q, e⟩ := warnedAt_names warned
    cases e
  · rcases tickTail_names tail with e | e | e | e <;> cases e

theorem tickSent_replenished : .replenished p ∈ tickSent l u ↔ .replenished p ∈ (advance u).sent := by
  rw [mem_tickSent]
  refine or_iff_left ?_
  rintro (told | evaluated | warned | tail)
  · obtain ⟨q, e | e⟩ := tickAccounts_names told <;> cases e
  · obtain ⟨q, e | e⟩ := evaluatedAt_names evaluated <;> cases e
  · obtain ⟨q, e⟩ := warnedAt_names warned
    cases e
  · rcases tickTail_names tail with e | e | e | e <;> cases e

theorem tickSent_curfew (named : m = .curfewOn p ∨ m = .curfewOff p) :
    m ∈ tickSent l u ↔ m ∈ evaluatedAt l (tickAccounts (advance u).unit).unit := by
  rw [mem_tickSent]
  refine ⟨?_, fun sent => .inr (.inr (.inl sent))⟩
  rintro (first | told | evaluated | warned | tail)
  · rcases named with rfl | rfl
    · obtain e | ⟨q, e | e⟩ := advance_names first <;> cases e
    · obtain e | ⟨q, e | e⟩ := advance_names first <;> cases e
  · rcases named with rfl | rfl
    · obtain ⟨q, e | e⟩ := tickAccounts_names told <;> cases e
    · obtain ⟨q, e | e⟩ := tickAccounts_names told <;> cases e
  · exact evaluated
  · rcases named with rfl | rfl
    · obtain ⟨q, e⟩ := warnedAt_names warned
      cases e
    · obtain ⟨q, e⟩ := warnedAt_names warned
      cases e
  · rcases named with rfl | rfl
    · rcases tickTail_names tail with e | e | e | e <;> cases e
    · rcases tickTail_names tail with e | e | e | e <;> cases e

theorem tickSent_warn_allowance :
    .warn p .allowance ∈ tickSent l u ↔ .warn p .allowance ∈ (tickAccounts (advance u).unit).sent := by
  rw [mem_tickSent]
  refine ⟨?_, fun sent => .inr (.inl sent)⟩
  rintro (first | told | evaluated | warned | tail)
  · obtain e | ⟨q, e | e⟩ := advance_names first <;> cases e
  · exact told
  · obtain ⟨q, e | e⟩ := evaluatedAt_names evaluated <;> cases e
  · obtain ⟨q, e⟩ := warnedAt_names warned
    cases e
  · rcases tickTail_names tail with e | e | e | e <;> cases e

theorem tickSent_warn_curfew :
    .warn p .curfew ∈ tickSent l u ↔ .warn p .curfew ∈ warnedAt l (tickAccounts (advance u).unit).unit := by
  rw [mem_tickSent]
  refine ⟨?_, fun sent => .inr (.inr (.inr (.inl sent)))⟩
  rintro (first | told | evaluated | warned | tail)
  · obtain e | ⟨q, e | e⟩ := advance_names first <;> cases e
  · obtain ⟨q, e | e⟩ := tickAccounts_names told <;> cases e
  · obtain ⟨q, e | e⟩ := evaluatedAt_names evaluated <;> cases e
  · exact warned
  · rcases tickTail_names tail with e | e | e | e <;> cases e

/-- What is about no account comes after the parts, but for the rollover. -/
theorem tickSent_tail (foreign : ∀ q : Slot, ¬ aboutAccount q m) (warns : ∀ (q : Slot) (x : WarnReason), m ≠ .warn q x)
    (other : m ≠ .rolloverTaken) : m ∈ tickSent l u ↔ m ∈ tickTail l u := by
  rw [mem_tickSent]
  refine ⟨?_, fun sent => .inr (.inr (.inr (.inr sent)))⟩
  rintro (first | told | evaluated | warned | tail)
  · obtain e | ⟨q, named⟩ := advance_names first
    · exact absurd e other
    · exact absurd (named.imp id .inl) (foreign q)
  · obtain ⟨q, named | named⟩ := tickAccounts_names told
    · exact absurd named (warns q _)
    · exact absurd (.inl named) (foreign q)
  · obtain ⟨q, named⟩ := evaluatedAt_names evaluated
    exact absurd (.inr (.inr named)) (foreign q)
  · obtain ⟨q, named⟩ := warnedAt_names warned
    exact absurd named (warns q _)
  · exact tail

theorem tickSent_minute : .minute ∈ tickSent l u ↔ (tickUnit l u).unit.second % 60 = 0 := by
  rw [tickSent_tail (by simp [aboutAccount]) (by simp) (by simp), mem_tickTail]
  simp

theorem tickSent_dirty {rollover : Bool} : .dirtyMark .metering rollover ∈ tickSent l u ↔
    86399 ≤ u.second ∧ rollover = true := by
  rw [tickSent_tail (by simp [aboutAccount]) (by simp) (by simp), mem_tickTail]
  simp

theorem tickSent_activity : .accountActivity ∈ tickSent l u ↔ activityBetween u (tickUnit l u).unit = true := by
  rw [tickSent_tail (by simp [aboutAccount]) (by simp) (by simp), mem_tickTail]
  simp

theorem tickSent_notice : .notice .metering .time .every 0 ∈ tickSent l u ↔ (tickUnit l u).sent ≠ [] := by
  rw [tickSent_tail (by simp [aboutAccount]) (by simp) (by simp), mem_tickTail]
  simp

/-- R36: activity is a change of used, overrun or a warned flag of an account. -/
theorem activityBetween_iff (missing : ∀ p : Slot, u.accounts[p] = none → v.accounts[p] = none)
    (kept : ∀ (p : Slot) (a : Account), u.accounts[p] = some a → ∃ b : Account, v.accounts[p] = some b) :
    activityBetween u v = true ↔ ∃ (p : Slot) (a b : Account), u.accounts[p] = some a ∧ v.accounts[p] = some b ∧
      (b.used ≠ a.used ∨ b.overrun ≠ a.overrun ∨ b.warned ≠ a.warned ∨ b.curfewWarned ≠ a.curfewWarned) := by
  unfold activityBetween
  rw [List.any_eq_true]
  simp only [mem_slots, true_and, bne_iff_ne]
  refine exists_congr fun p => ?_
  cases held : u.accounts[p] with
  | none => simp [missing p held]
  | some a =>
    obtain ⟨b, now⟩ := kept p a held
    simp only [now, Option.map_some, ne_eq, Option.some.injEq, Prod.mk.injEq, not_and_or]
    refine ⟨fun differs => ⟨a, b, rfl, rfl, ?_⟩, ?_⟩
    · simpa only [eq_comm] using differs
    · rintro ⟨_, _, rfl, rfl, differs⟩
      simpa only [eq_comm] using differs

/-- R54: a tick without rollover tells the time exactly when it has told of an account. -/
theorem tickUnit_sent_ne_nil (within : (advance u).sent = []) : (tickUnit l u).sent ≠ [] ↔
    ∃ p : Slot, .exhausted p ∈ tickSent l u ∨ .curfewOn p ∈ tickSent l u ∨ .curfewOff p ∈ tickSent l u ∨
      ∃ x : WarnReason, .warn p x ∈ tickSent l u := by
  have whole : ∀ m, m ∈ (tickUnit l u).sent → m ∈ tickSent l u := fun m sent => List.mem_append_left _ sent
  constructor
  · intro some_sent
    obtain ⟨m, sent⟩ := List.exists_mem_of_ne_nil _ some_sent
    have member := whole m sent
    rw [mem_tickUnit_sent, within] at sent
    rcases sent with first | told | evaluated | warned
    · cases first
    · obtain ⟨q, rfl | rfl⟩ := tickAccounts_names told
      · exact ⟨q, .inr (.inr (.inr ⟨_, member⟩))⟩
      · exact ⟨q, .inl member⟩
    · obtain ⟨q, rfl | rfl⟩ := evaluatedAt_names evaluated
      · exact ⟨q, .inr (.inl member)⟩
      · exact ⟨q, .inr (.inr (.inl member))⟩
    · obtain ⟨q, rfl⟩ := warnedAt_names warned
      exact ⟨q, .inr (.inr (.inr ⟨_, member⟩))⟩
  · rintro ⟨p, ends | on | off | ⟨x, warns⟩⟩ none
    · rw [tickSent_exhausted] at ends
      exact List.ne_nil_of_mem (mem_tickUnit_sent.mpr (ends.imp id .inl)) none
    · rw [tickSent_curfew (.inl rfl)] at on
      exact List.ne_nil_of_mem (mem_tickUnit_sent.mpr (.inr (.inr (.inl on)))) none
    · rw [tickSent_curfew (.inr rfl)] at off
      exact List.ne_nil_of_mem (mem_tickUnit_sent.mpr (.inr (.inr (.inl off)))) none
    · cases x with
      | allowance =>
        rw [tickSent_warn_allowance] at warns
        exact List.ne_nil_of_mem (mem_tickUnit_sent.mpr (.inr (.inl warns))) none
      | curfew =>
        rw [tickSent_warn_curfew] at warns
        exact List.ne_nil_of_mem (mem_tickUnit_sent.mpr (.inr (.inr (.inr warns)))) none

end TickMessages

/-! ### The command (R28, R36) -/

section SecondTick

variable {s : State}

/-- R28: a reference second moves timers and the reference alone. -/
theorem State.referenceSecond_frame (s : State) : s.referenceSecond.metering = s.metering ∧
    s.referenceSecond.passes = s.passes ∧ s.referenceSecond.transit = s.transit ∧ s.referenceSecond.receiver = s.receiver ∧
    s.referenceSecond.cache = s.cache ∧ s.referenceSecond.port = s.port ∧ s.referenceSecond.signal = s.signal := by
  unfold State.referenceSecond
  simp

/-- R28, R36: a tick due is taken from the count; when none is due the reference second passes first. -/
theorem exec_secondTick_of_running (awake : s.awake = true) (running : s.metering.running = true) :
    ∃ x : State, exec .secondTick s = .next x.takeTick ∧ x.metering = s.metering ∧ x.passes = s.passes ∧
      x.transit = s.transit ∧ x.receiver = s.receiver ∧ x.cache = s.cache ∧ x.port = s.port ∧ x.signal = s.signal ∧
      (0 < s.ref.ticksDue → x.profiles = s.profiles ∧ x.screens = s.screens ∧ x.store = s.store ∧
        x.ref = { s.ref with ticksDue := s.ref.ticksDue - 1 }) := by
  have base : exec .secondTick s = execSecondTick s := rfl
  rw [base, execSecondTick, onOccasion_due awake, if_pos running]
  split
  next due =>
    exact ⟨_, rfl, rfl, rfl, rfl, rfl, rfl, rfl, rfl, fun _ => ⟨rfl, rfl, rfl, rfl⟩⟩
  next none =>
    obtain ⟨metering, passes, transit, receiver, cache, port, signal⟩ := s.referenceSecond_frame
    exact ⟨s.referenceSecond, rfl, metering, passes, transit, receiver, cache, port, signal, fun due => absurd due none⟩

/-- The state after the tick: the unit and the messages of the tick, and all else as the command left it. -/
theorem exec_secondTick_frame (awake : s.awake = true) (running : s.metering.running = true) :
    ∃ t : State, exec .secondTick s = .next t ∧ t.transit = s.transit ++ tickSent s.passes s.metering ∧
      t.metering = (tickUnit s.passes s.metering).unit ∧
      t.passes = s.passes ∧ t.receiver = s.receiver ∧ t.cache = s.cache ∧ t.port = s.port ∧ t.signal = s.signal ∧
      (0 < s.ref.ticksDue → t.profiles = s.profiles ∧ t.screens = s.screens ∧ t.store = s.store ∧
        t.ref = { s.ref with ticksDue := s.ref.ticksDue - 1 }) := by
  obtain ⟨x, next, metering, passes, transit, receiver, cache, port, signal, due⟩ := exec_secondTick_of_running awake running
  refine ⟨x.takeTick, next, ?_⟩
  rw [State.takeTick_eq, metering, passes]
  generalize tickSent s.passes s.metering = ms
  generalize (tickUnit s.passes s.metering).unit = u
  exact ⟨congrArg (· ++ ms) transit, rfl, passes, receiver, cache, port, signal, due⟩

end SecondTick

/-! ### A tick within the day (R36) -/

section Within

variable {l : PassList} {u : MeteringUnit} {p : Slot} {a : Account}

theorem advance_within (within : u.second < 86399) : advance u = ⟨{ u with second := u.second + 1 }, []⟩ :=
  if_neg (Nat.not_le.mpr within)

theorem tickUnit_within (l : PassList) (within : u.second < 86399) :
    (tickUnit l u).unit = { u with second := u.second + 1, accounts := (tickUnit l u).unit.accounts } := by
  have only := tickUnit_only l u
  rw [advance_within within] at only
  exact only

theorem tickUnit_within_missing (within : u.second < 86399) (missing : u.accounts[p] = none) :
    (tickUnit l u).unit.accounts[p] = none := by
  refine tickUnit_missing ?_
  rw [advance_within within]
  exact missing

theorem tickUnit_within_moves (l : PassList) (within : u.second < 86399) (running : u.running = true)
    (held : u.accounts[p] = some a) : ∃ b : Account, (tickUnit l u).unit.accounts[p] = some b ∧
      tickMoves l (tickUnit l u).unit (tickAccounts (advance u).unit).sent
        (evaluatedAt l (tickAccounts (advance u).unit).unit) (warnedAt l (tickAccounts (advance u).unit).unit) p a b := by
  refine tickUnit_moves l ?_ ?_
  · rw [advance_within within]
    exact running
  · rw [advance_within within]
    exact held

/-- What R41 says of inside curfew, window by window. -/
theorem windowCovers_iff {w : CurfewWindow} (other : w.start ≠ w.stop) (today yesterday : DayKind) (m : Nat) :
    windowCovers today yesterday m w = true ↔
      (w.start < w.stop ∧ w.start ≤ m ∧ m < w.stop ∧ appliesTo w today = true) ∨
      (w.stop < w.start ∧ w.start ≤ m ∧ appliesTo w today = true) ∨
      (w.stop < w.start ∧ m < w.stop ∧ appliesTo w yesterday = true) := by
  unfold windowCovers
  split
  next forward =>
    have notBack : ¬ w.stop < w.start := Nat.not_lt.mpr forward.le
    simp [forward, notBack, and_assoc]
  next notForward =>
    have back : w.stop < w.start := lt_of_le_of_ne (Nat.not_lt.mp notForward) (Ne.symm other)
    simp [notForward, back]

theorem insideCurfew_iff {l : PassList} {u : MeteringUnit} {p : Slot} {a : Account}
    (proper : ∀ w ∈ a.terms.windows, w.start ≠ w.stop) : insideCurfew l u p a = true ↔
      (∀ x ∈ l.held, x.scope ≠ .curfew p) ∧ ∃ w ∈ a.terms.windows,
        (w.start < w.stop ∧ w.start ≤ u.minute ∧ u.minute < w.stop ∧ appliesTo w u.today = true) ∨
        (w.stop < w.start ∧ w.start ≤ u.minute ∧ appliesTo w u.today = true) ∨
        (w.stop < w.start ∧ u.minute < w.stop ∧ appliesTo w u.yesterday = true) := by
  rw [insideCurfew, Bool.and_eq_true, Bool.not_eq_true', PassList.curfewPass_eq_false, List.any_eq_true, and_comm]
  refine and_congr_right fun _ => exists_congr fun w => and_congr_right fun member => ?_
  exact windowCovers_iff (proper w member) _ _ _

end Within

/-- R36, R40, R42: EXHAUSTED comes before CURFEW_ON. -/
theorem tickSent_ordered {l : PassList} {u : MeteringUnit} {p : Slot} (within : (advance u).sent = [])
    (ends : .exhausted p ∈ tickSent l u) (on : .curfewOn p ∈ tickSent l u) :
    [.exhausted p, .curfewOn p].Sublist (tickSent l u) := by
  rw [tickSent_exhausted, within, or_iff_right List.not_mem_nil] at ends
  rw [tickSent_curfew (.inl rfl)] at on
  rw [tickSent_eq]
  exact List.Sublist.append (List.singleton_sublist.mpr (List.mem_append_right _ ends))
    (List.singleton_sublist.mpr (List.mem_append_left _ (List.mem_append_left _ on)))

/-- Settles O20: the unit by part 1, the messages by their parts, each account by the parts of the tick. -/
theorem tickChargesWhatIsViewed : Obligations.TickChargesWhatIsViewed := by
  refine ⟨fun s awake running within => ?tick, fun l u p a proper => ?inside⟩
  case inside =>
    rw [insideCurfew_iff proper]
    simp only [appliesTo_iff]
    rfl
  case tick =>
    obtain ⟨t, next, transit, metering, frame⟩ := exec_secondTick_frame awake running
    have silent : (advance s.metering).sent = [] := by rw [advance_within within]
    have unit := tickUnit_within s.passes within
    have missing := fun p => tickUnit_within_missing (l := s.passes) (p := p) within
    have each := fun (p : Slot) (a : Account) (held : s.metering.accounts[p] = some a) =>
      tickUnit_within_moves s.passes within running held
    have activity := activityBetween_iff missing fun p a held => (each p a held).imp fun b now => now.1
    rw [← metering] at unit missing each activity
    have today : t.metering.today = s.metering.today := by rw [unit]; rfl
    have counts : ∀ k p, t.metering.chargeCount p k = s.metering.chargeCount p k := fun k p => by rw [unit]; rfl
    obtain ⟨passes, receiver, cache, port, signal, due⟩ := frame
    refine ⟨t, tickSent s.passes s.metering, next, transit, unit, passes, receiver, cache, port, signal, due, ?_,
      fun rollover => ?_, ?_, ?_, fun p => ⟨missing p, fun a held => ?_⟩⟩
    · rw [tickSent_minute, metering]
    · rw [tickSent_dirty]
      exact fun both => absurd both.1 (Nat.not_le.mpr within)
    · rw [tickSent_notice]
      exact tickUnit_sent_ne_nil silent
    · rw [tickSent_activity, ← metering]
      exact activity
    obtain ⟨b, now, terms, bonus, used, overrun, ends, warned, near, between, inside, on, off, mayNot, may⟩ := each p a held
    rw [today] at used ends warned near may
    rw [counts] at used overrun
    rw [mayWarn, terms] at mayNot may
    refine ⟨b, now, terms, bonus, used, overrun, ?_, ?_, warned, ?_, fun other => (between other).1, inside, ?_, ?_,
      tickSent_ordered silent, fun not => ?_, fun ⟨boundary, held⟩ same => ?_⟩
    · rw [tickSent_exhausted, silent, or_iff_right List.not_mem_nil]
      exact ends
    · rw [tickSent_replenished, silent]
      exact List.not_mem_nil
    · rw [tickSent_warn_allowance]
      exact near
    · rw [tickSent_curfew (.inl rfl)]
      exact on
    · rw [tickSent_curfew (.inr rfl)]
      exact off
    · rw [tickSent_warn_curfew]
      by_cases boundary : t.metering.second % 60 = 0
      · exact mayNot boundary fun held => not ⟨boundary, held⟩
      · exact ⟨(between boundary).2.1, (between boundary).2.2⟩
    · rw [tickSent_warn_curfew]
      exact may boundary held same

/-! ### The rollover (R45) -/

section Rollover

variable {l : PassList} {u : MeteringUnit} {p : Slot} {a : Account}

/-- R45 steps 1 and 2: the clock and the day kinds at the first second of the next day. -/
def movedToNextDay (u : MeteringUnit) : MeteringUnit :=
  { u with
    day := (u.day + 1) % cycleDays, weekday := u.weekday + 1, second := 0, yesterday := u.today, override := none }

/-- R45 step 4: the unit whose accounts are emptied. -/
def nextDay (u : MeteringUnit) : MeteringUnit := (movedToNextDay u).startDay ((u.day + 1) % cycleDays)

theorem advance_rollover (ends : u.second = 86399) :
    advance u = ⟨(reassessAll u (nextDay u)).unit, (reassessAll u (nextDay u)).sent ++ [.rolloverTaken]⟩ := by
  unfold advance rolloverAtTick nextDay movedToNextDay
  rw [if_pos ends.ge]

theorem nextDay_eq (u : MeteringUnit) : nextDay u = { u with
    second := 0, day := (u.day + 1) % 65536, weekday := u.weekday + 1, accountDay := (u.day + 1) % 65536
    yesterday := u.today, override := none, accounts := (nextDay u).accounts } :=
  ((movedToNextDay u).startDay_spec _).1

theorem nextDay_accounts (u : MeteringUnit) (p : Slot) : (nextDay u).accounts[p] = u.accounts[p].map emptied :=
  ((movedToNextDay u).startDay_spec _).2 p

/-- R33: an emptied account has no flag to clear. -/
theorem reassess_emptied (p : Slot) (k : DayKind) (n : Nat) (w : Bool) (a : Account) :
    (reassess p k n w (emptied a)).1 = emptied a := reassess_fst ..

theorem emptied_remaining (k : DayKind) (a : Account) : (emptied a).remaining k = a.base k := by
  rw [Account.remaining_eq]
  exact (Nat.zero_max _).trans rfl

theorem advance_rollover_only (ends : u.second = 86399) : (nextDay u).onlyAccounts (advance u).unit := by
  obtain ⟨only, -⟩ := reassessAll_spec u (nextDay u)
  rw [advance_rollover ends]
  dsimp only
  exact only

theorem advance_rollover_account (ends : u.second = 86399) (held : u.accounts[p] = some a) :
    (advance u).unit.accounts[p] = some (emptied a) := by
  obtain ⟨-, accounts, -⟩ := reassessAll_spec u (nextDay u)
  rw [advance_rollover ends]
  dsimp only
  rw [accounts p, nextDay_accounts, held, Option.map_some, Option.map_some, reassessFrom_held held, reassess_emptied]

theorem advance_rollover_missing (ends : u.second = 86399) (missing : u.accounts[p] = none) :
    (advance u).unit.accounts[p] = none := by
  obtain ⟨-, accounts, -⟩ := reassessAll_spec u (nextDay u)
  rw [advance_rollover ends]
  dsimp only
  rw [accounts p, nextDay_accounts, missing, Option.map_none, Option.map_none]

/-- R45 step 5: the messages of the reassessment about p. -/
theorem mem_advance_rollover {m : Instr} (ends : u.second = 86399) (held : u.accounts[p] = some a)
    (named : m = .exhausted p ∨ m = .replenished p) : m ∈ (advance u).sent ↔
      m ∈ (reassess p (nextDay u).today (a.remaining u.today) a.warned (emptied a)).2 := by
  have foreign : m ∉ [.rolloverTaken] := by rcases named with rfl | rfl <;> simp
  rw [advance_rollover ends]
  dsimp only
  rw [List.mem_append, or_iff_left foreign, mem_reassessAll (by rw [nextDay_accounts, held, Option.map_some]) named,
    reassessFrom_held held]

theorem tickUnit_rollover_only (l : PassList) (ends : u.second = 86399) : (nextDay u).onlyAccounts (tickUnit l u).unit :=
  MeteringUnit.onlyAccounts_trans (advance_rollover_only ends) (tickUnit_only l u)

theorem tickUnit_rollover (l : PassList) (ends : u.second = 86399) : (tickUnit l u).unit = { u with
    second := 0, day := (u.day + 1) % 65536, weekday := u.weekday + 1, accountDay := (u.day + 1) % 65536
    yesterday := u.today, override := none, accounts := (tickUnit l u).unit.accounts } := by
  have only := tickUnit_rollover_only l ends
  have frame := nextDay_eq u
  generalize (tickUnit l u).unit = v at *
  generalize nextDay u = x at *
  unfold MeteringUnit.onlyAccounts at only
  rw [frame] at only
  exact only

theorem tickUnit_rollover_moves (l : PassList) (ends : u.second = 86399) (running : u.running = true)
    (held : u.accounts[p] = some a) : ∃ b : Account, (tickUnit l u).unit.accounts[p] = some b ∧
      tickMoves l (tickUnit l u).unit (tickAccounts (advance u).unit).sent
        (evaluatedAt l (tickAccounts (advance u).unit).unit) (warnedAt l (tickAccounts (advance u).unit).unit) p
        (emptied a) b := by
  refine tickUnit_moves l ?_ (advance_rollover_account ends held)
  obtain ⟨runs, -⟩ := MeteringUnit.onlyAccounts_frame (advance_rollover_only ends)
  rw [runs, nextDay_eq]
  exact running

theorem tickCost_le (mode : ChargeMode) (n : Nat) : tickCost mode n ≤ n := by
  unfold tickCost
  split
  · exact Nat.zero_le _
  next some_screens =>
    cases mode with
    | shared => exact Nat.one_le_iff_ne_zero.mpr some_screens
    | each => exact Nat.le_refl n

theorem MeteringUnit.chargeCount_le (u : MeteringUnit) (p : Slot) (k : ChargeKind) : u.chargeCount p k ≤ 4 :=
  List.length_filter_le _ _

/-- R37: the first second of a day exhausts no allowance, which is a whole number of minutes. -/
theorem first_second_leaves {k : DayKind} {b : Account} {mode : ChargeMode} {n : Nat} (few : n ≤ 4)
    (terms : b.terms = a.terms) (bonus : b.bonus = 0) (used : b.used = min (tickCost mode n) (a.base k))
    (some_base : 0 < a.base k) : b.remaining k ≠ 0 := by
  have cost := tickCost_le mode n
  have base : b.base k = a.base k := by rw [Account.base_eq, Account.base_eq, terms]
  have whole : ∃ minutes, a.base k = minutes * 60 := by
    rw [Account.base_eq]
    split
    · exact ⟨_, rfl⟩
    · exact ⟨_, rfl⟩
  obtain ⟨minutes, whole⟩ := whole
  rw [Account.remaining_eq, base, bonus, used]
  omega

theorem emptied_flags (a : Account) (i : Nat) : (emptied a).curfewWarned[i]? ≠ some true ∧
    (i < a.curfewWarned.length → (emptied a).curfewWarned[i]? = some false) := by
  have clear : (emptied a).curfewWarned = a.curfewWarned.map fun _ => false := rfl
  rw [clear, List.getElem?_map]
  refine ⟨?_, fun inside => ?_⟩
  · cases a.curfewWarned[i]? <;> simp
  · rw [List.getElem?_eq_getElem inside]
    rfl

/-- R43: at minute 0 the lead span of a window reaches back over the whole day's beginning. -/
theorem reachesWindow_zero {now : DayKind} {lead : Nat} {w : CurfewWindow} : reachesWindow now 0 lead w ↔
    (w.applies = .both ∨ (w.applies = .school ∧ now = .school) ∨ (w.applies = .free ∧ now = .free)) ∧
      w.start ≤ lead ∧ 0 < w.start := by
  rw [reachesWindow, Nat.le_zero, Nat.sub_eq_zero_iff_le]

/-- R45 step 4, R43: the curfew warnings of the first minute, when every flag has been cleared. -/
theorem cleared_warnings {now : DayKind} (same : a.curfewWarned.length = a.terms.windows.length) :
    (∃ (i : Nat) (w : CurfewWindow), (emptied a).terms.windows[i]? = some w ∧ (emptied a).curfewWarned[i]? = some false ∧
      reachesWindow now 0 (emptied a).terms.lead w) ↔
    ∃ w ∈ a.terms.windows, (w.applies = .both ∨ (w.applies = .school ∧ now = .school) ∨
      (w.applies = .free ∧ now = .free)) ∧ w.start ≤ a.terms.lead ∧ 0 < w.start := by
  constructor
  · rintro ⟨i, w, window, -, reached⟩
    exact ⟨w, List.mem_of_getElem? window, reachesWindow_zero.mp reached⟩
  · rintro ⟨w, member, reached⟩
    obtain ⟨i, window⟩ := List.mem_iff_getElem?.mp member
    obtain ⟨inside, -⟩ := List.getElem?_eq_some_iff.mp window
    exact ⟨i, w, window, (emptied_flags a i).2 (same ▸ inside), reachesWindow_zero.mpr reached⟩

/-- Settles O21: part 1 is the rollover, and the parts of the tick act on the emptied accounts. -/
theorem rolloverBeginsTheNewDay : Obligations.RolloverBeginsTheNewDay := by
  intro s awake running last
  obtain ⟨t, next, transit, metering, passes, receiver, cache, port, signal, due⟩ := exec_secondTick_frame awake running
  have unit := tickUnit_rollover s.passes last
  have missing := fun (p : Slot) (none : s.metering.accounts[p] = none) =>
    tickUnit_missing (l := s.passes) (advance_rollover_missing last none)
  have each := fun (p : Slot) (a : Account) (held : s.metering.accounts[p] = some a) =>
    tickUnit_rollover_moves s.passes last running held
  have activity := activityBetween_iff missing fun p a held => (each p a held).imp fun b now => now.1
  obtain ⟨-, -, -, -, -, -, -, -, -, -, today, -⟩ := MeteringUnit.onlyAccounts_frame (tickUnit_rollover_only s.passes last)
  rw [← metering] at unit missing each activity today
  have second : t.metering.second = 0 := by rw [unit]
  have minute : t.metering.minute = 0 := by rw [MeteringUnit.minute, second]
  have boundary : t.metering.second % 60 = 0 := by rw [second]
  have counts : ∀ k p, t.metering.chargeCount p k = s.metering.chargeCount p k := fun k p => by rw [unit]; rfl
  have rolled : .rolloverTaken ∈ (advance s.metering).sent := by
    rw [advance_rollover last]
    exact List.mem_append_right _ (List.mem_singleton_self _)
  refine ⟨t, tickSent s.passes s.metering, next, transit, unit, passes, receiver, cache, port, signal, due,
    mem_tickSent.mpr (.inl rolled), tickSent_minute.mpr (metering ▸ boundary), tickSent_dirty.mpr ⟨last.ge, rfl⟩,
    tickSent_notice.mpr (List.ne_nil_of_mem (mem_tickUnit_sent.mpr (.inl rolled))), ?_,
    fun p => ⟨missing p, fun a held => ?_⟩⟩
  · rw [tickSent_activity, ← metering]
    exact activity
  obtain ⟨b, now, terms, bonus, used, overrun, ends, warned, near, -, inside, on, off, mayNot, may⟩ := each p a held
  have first : .exhausted p ∈ (advance s.metering).sent ↔ 0 < a.remaining s.metering.today ∧ a.base t.metering.today = 0 := by
    rw [mem_advance_rollover last held (.inl rfl), exhausted_mem_reassess, emptied_remaining, today]
  have again : .replenished p ∈ (advance s.metering).sent ↔ (a.remaining s.metering.today = 0 ∧ 0 < a.base t.metering.today) ∨
      (a.warned = true ∧ a.terms.lead * 60 < a.base t.metering.today) := by
    rw [mem_advance_rollover last held (.inr rfl), replenished_mem_reassess, emptied_remaining, today]
    rfl
  rw [emptied_remaining] at used ends
  rw [counts] at used overrun
  rw [minute] at may
  have base_used : b.used = min (tickCost a.terms.mode (s.metering.chargeCount p .view)) (a.base t.metering.today) :=
    used.trans (Nat.zero_add _)
  have base_overrun : b.overrun = min (tickCost a.terms.mode (s.metering.chargeCount p .overrun)) 86400 :=
    overrun.trans (congrArg (min · 86400) (Nat.zero_add _))
  have nears : nearsEnd t.metering.today (emptied a) b ↔ 0 < a.terms.lead ∧ 0 < b.remaining t.metering.today ∧
      b.remaining t.metering.today ≤ a.terms.lead * 60 := and_congr_right fun _ => and_iff_right rfl
  have maySame : mayWarn s.passes p b ↔ 0 < a.terms.lead ∧ b.curfew = .outside ∧ ∀ x ∈ s.passes.held, x.scope ≠ .curfew p := by
    rw [mayWarn, terms]
    rfl
  refine ⟨b, now, terms, bonus, base_used, base_overrun, ?_, ?_, ?_, ?_, inside boundary, ?_, ?_, fun not => ?_,
    fun held same => ?_⟩
  · rw [tickSent_exhausted, first, ends]
    refine or_iff_left fun both => ?_
    exact first_second_leaves (s.metering.chargeCount_le p .view) terms bonus base_used both.1 both.2
  · rw [tickSent_replenished]
    exact again
  · rw [warned, nears]
    exact or_iff_right Bool.false_ne_true
  · rw [tickSent_warn_allowance, near, nears]
  · rw [tickSent_curfew (.inl rfl)]
    exact on
  · rw [tickSent_curfew (.inr rfl)]
    exact off
  · rw [tickSent_warn_curfew]
    obtain ⟨flags, silent⟩ := mayNot boundary (mt maySame.mp not)
    refine ⟨fun f member => ?_, silent⟩
    rw [flags] at member
    exact ((List.mem_map.mp member).elim fun _ same => same.2).symm
  · have cleared : (emptied a).curfewWarned.length = a.curfewWarned.length := List.length_map ..
    obtain ⟨length, flags, warns⟩ := may boundary (maySame.mpr held) (cleared.trans same)
    rw [tickSent_warn_curfew, warns, cleared_warnings same]
    refine ⟨length.trans cleared, fun i w window => ?_, Iff.rfl⟩
    rw [flags i w window, or_iff_right (emptied_flags a i).1, reachesWindow_zero]
    rfl

end Rollover

end Sys2Proof.Machine
end

section
/-! PROOFS. The management port's bus, frames and requests (07). The theorems at its ends settle O41 to O45. -/

namespace Sys2Proof.Machine

variable {s t : State} {u : ManagementPort} {r q : Role} {f : Frame} {b : Byte}

/-! ### The port's commands -/

theorem exec_startCondition (within : Bool) (s : State) :
    exec (.startCondition within) s = execStartCondition within s := rfl

theorem exec_stopCondition (within : Bool) (s : State) : exec (.stopCondition within) s = execStopCondition within s := rfl

theorem exec_transactionTimeout (s : State) : exec .transactionTimeout s = execTransactionTimeout s := rfl

theorem exec_addressByte (b : Byte) (s : State) : exec (.addressByte b) s = execAddressByte b s := rfl

theorem exec_codeByte (b : Byte) (s : State) : exec (.codeByte b) s = execCodeByte b s := rfl

theorem exec_lengthByte (b : Byte) (s : State) : exec (.lengthByte b) s = execLengthByte b s := rfl

theorem exec_bodyByte (b : Byte) (s : State) : exec (.bodyByte b) s = execBodyByte b s := rfl

theorem exec_checkByte (b : Byte) (s : State) : exec (.checkByte b) s = execCheckByte b s := rfl

theorem exec_responseByteSent (masterAcks : Bool) (s : State) :
    exec (.responseByteSent masterAcks) s = execResponseByteSent masterAcks s := rfl

/-! ### Roles and their addresses (R141) -/

/-- The three roles have addresses of their own. -/
theorem addressedRole_eq_some_iff {base a : Nat} : addressedRole base a = some r ↔ a = base + roleOffset r := by
  unfold addressedRole
  cases r <;> simp only [roleOffset] <;> grind

theorem addressedRole_eq_none {base a : Nat} (foreign : ∀ r : Role, a ≠ base + roleOffset r) :
    addressedRole base a = none := by
  unfold addressedRole
  rw [if_neg (foreign .console), if_neg (foreign .panel), if_neg (foreign .relay)]

theorem ManagementPort.takeAddress_ignored (u : ManagementPort) (b : Byte)
    (ignored : u.silent = true ∨ ∀ r : Role, b.toNat / 2 ≠ u.base + roleOffset r) :
    u.takeAddress b = u.goTo .ignore false := by
  have unnamed : (if u.silent then none else addressedRole u.base (b.toNat / 2)) = none := by
    rcases ignored with silent | foreign
    · exact if_pos silent
    · rw [addressedRole_eq_none foreign, ite_self]
  rw [takeAddress, unnamed]

theorem ManagementPort.takeAddress_named (loud : u.silent = false) (named : b.toNat / 2 = u.base + roleOffset r) :
    u.takeAddress b =
      if b.getLsbD 0 then u.goTo (.read r) true else (u.setFrame r (some (.fresh b))).goTo (.write r) true := by
  rw [takeAddress, loud, if_neg Bool.false_ne_true, addressedRole_eq_some_iff.mpr named]

/-- R142: bit 0 of the address byte says that the transaction is a read. -/
theorem readBit_iff (b : Byte) : b.getLsbD 0 = true ↔ b.toNat % 2 = 1 := by
  rw [BitVec.getLsbD, Nat.testBit_zero, decide_eq_true_iff]

theorem exec_addressByte_addressed (awake : s.awake = true) (bus : s.port.bus = .address) (b : Byte) :
    exec (.addressByte b) s = .next (s.withPort (s.port.takeAddress b)) := by
  rw [exec_addressByte, execAddressByte, onOccasion_due awake, State.onPort, if_pos bus]

theorem exec_addressByte_read (awake : s.awake = true) (bus : s.port.bus = .address) (loud : s.port.silent = false)
    (named : b.toNat / 2 = s.port.base + roleOffset r) (read : b.toNat % 2 = 1) :
    exec (.addressByte b) s = .next (s.withPort (s.port.goTo (.read r) true)) := by
  rw [exec_addressByte_addressed awake bus, ManagementPort.takeAddress_named loud named, if_pos ((readBit_iff b).mpr read)]

theorem exec_addressByte_write (awake : s.awake = true) (bus : s.port.bus = .address) (loud : s.port.silent = false)
    (named : b.toNat / 2 = s.port.base + roleOffset r) (write : b.toNat % 2 = 0) :
    exec (.addressByte b) s =
      .next (s.withPort ((s.port.setFrame r (some (.fresh b))).goTo (.write r) true)) := by
  have unread : ¬ b.getLsbD 0 = true := by rw [readBit_iff, write]; decide
  rw [exec_addressByte_addressed awake bus, ManagementPort.takeAddress_named loud named, if_neg unread]

/-! ### Frame bytes (R143 to R147) -/

/-- R157: the fault is counted, and its role is told. -/
theorem State.portEvent_eq (s : State) (r : Role) (count : PortCounts → PortCounts) :
    s.portEvent r count =
      (s.withPort (s.port.count r count)).sendAll [.notice .port .port (.only r) 0] := State.raisePort_eq _ r

theorem onFrameByte_awaited (writing : s.port.bus = .write r) (frame : s.port.frames.get r = some f)
    (act : Role → Frame → State) : onFrameByte f.phase s act = .next (act r f) := by
  have awaits : s.port.awaiting f.phase = some (r, f) := by
    unfold ManagementPort.awaiting
    simp only [writing, frame, if_true]
  rw [onFrameByte, awaits]

theorem inFlightNow_iff (e : Exchange) : inFlightNow e = true ↔ ∃ i : Option Instr, e = .inFlight i := by
  cases e with
  | inFlight i => exact iff_of_true rfl ⟨i, rfl⟩
  | noResponse | held => exact iff_of_false Bool.false_ne_true (by rintro ⟨i, held⟩; cases held)

theorem not_inFlightNow {e : Exchange} (free : ∀ i : Option Instr, e ≠ .inFlight i) : ¬ inFlightNow e = true :=
  fun held => (inFlightNow_iff e).mp held |>.elim free

section FrameByte

variable (writing : s.port.bus = .write r) (frame : s.port.frames.get r = some f)

include writing frame

theorem exec_codeByte_awaited (phase : f.phase = .code) (b : Byte) :
    exec (.codeByte b) s = .next (if inFlightNow (s.exchange r) then s.refuseFrame r
      else s.keepFrame r { f with phase := .length, code := some b, check := crc8Byte f.check b }) := by
  rw [exec_codeByte, execCodeByte, ← phase, onFrameByte_awaited writing frame]

theorem exec_lengthByte_awaited (phase : f.phase = .length) (b : Byte) :
    exec (.lengthByte b) s = .next (if 48 < b.toNat then (s.refuseFrame r).portEvent r addOverlong
      else s.keepFrame r { f with
        phase := if b.toNat = 0 then .check else .body, length := some b.toNat, check := crc8Byte f.check b }) := by
  rw [exec_lengthByte, execLengthByte, ← phase, onFrameByte_awaited writing frame]
  rfl

theorem exec_bodyByte_awaited (phase : f.phase = .body) (b : Byte) :
    exec (.bodyByte b) s = .next (s.keepFrame r { f with
      phase := if f.length = some (f.body.length + 1) then .check else .body
      body := f.body ++ [b]
      check := crc8Byte f.check b }) := by
  rw [exec_bodyByte, execBodyByte, ← phase, onFrameByte_awaited writing frame]

theorem exec_checkByte_awaited (phase : f.phase = .check) (b : Byte) :
    exec (.checkByte b) s = .next (if b = f.check then
        (s.onPort fun u => (u.setFrame r none).goTo .ignore true).acceptFrame r f
      else (s.refuseFrame r).portEvent r addCheck) := by
  rw [exec_checkByte, execCheckByte, ← phase, onFrameByte_awaited writing frame]

end FrameByte

/-- The exchange that follows from the port's ruling: the port's own answer held, or the request in flight to its owner. -/
def exchangeRuled : Admitted → Exchange
  | .answered result => .held (.bare result)
  | .handed i => .inFlight (some i)

/-- R147: an accepted frame sets the role's exchange by the port's ruling. -/
theorem State.acceptFrame_eq (s : State) (r : Role) (f : Frame) :
    s.acceptFrame r f = s.setExchange r (exchangeRuled (rulingOn r (f.code.getD 0) f.body)) := by
  unfold State.acceptFrame
  cases rulingOn r (f.code.getD 0) f.body <;> rfl

/-- Settles O41: the address byte by whom it names, then each byte of the frame by the phase that waits for it. -/
theorem bytesFillTheRequestFrame : Obligations.BytesFillTheRequestFrame := by
  refine ⟨fun b s awake bus => ⟨fun ignored => ?ignored, fun r loud named => ⟨fun read => ?read, fun write => ?write⟩⟩,
    fun r f b s writing frame => ⟨fun phase => ⟨fun held => ?busy, fun free => ?code⟩,
      fun phase => ⟨fun long => ?long, fun fits => ?length⟩, fun phase => ?body,
      fun phase => ⟨fun wrong => ?wrong, fun right => ?right⟩⟩⟩
  case ignored =>
    rw [exec_addressByte_addressed awake bus, ManagementPort.takeAddress_ignored _ b ignored]
    rfl
  case read => exact exec_addressByte_read awake bus loud named read
  case write => exact exec_addressByte_write awake bus loud named write
  case busy =>
    rw [exec_codeByte_awaited writing frame phase, if_pos ((inFlightNow_iff _).mpr held)]
    rfl
  case code =>
    rw [exec_codeByte_awaited writing frame phase, if_neg (not_inFlightNow free)]
    rfl
  case long =>
    rw [exec_lengthByte_awaited writing frame phase, if_pos long, State.portEvent_eq]
    rfl
  case length =>
    have zero : (b.toNat = 0) = (b = 0) := propext ⟨fun h => BitVec.eq_of_toNat_eq h, fun h => by rw [h]; rfl⟩
    rw [exec_lengthByte_awaited writing frame phase, if_neg (Nat.not_lt.mpr fits)]
    simp only [zero]
    rfl
  case body =>
    rw [exec_bodyByte_awaited writing frame phase]
    rfl
  case wrong =>
    rw [exec_checkByte_awaited writing frame phase, if_neg wrong, State.portEvent_eq]
    rfl
  case right =>
    rw [exec_checkByte_awaited writing frame phase, if_pos right, State.acceptFrame_eq]
    rfl

variable {s t : State} {u : ManagementPort} {r q : Role} {f g : Frame} {b : Byte} {c : Instr} {rest : List Instr}

/-! ### A whole frame (R143 to R147) -/

/-- The first of the commands, when it is executed. -/
theorem State.after_cons (executed : exec c s = .next t) (rest : List Instr) : s.after (c :: rest) = t.after rest := by
  rw [State.after, executed]

/-- The part while role r writes a frame to it that has filled the record f so far. -/
def State.writes (s : State) (r : Role) (f : Frame) : State :=
  s.withPort { s.port with bus := .write r, acked := true, sending := none, frames := s.port.frames.set r (some f) }

theorem PerRole.set_set {α : Type} (v : PerRole α) (r : Role) (x y : α) : (v.set r x).set r y = v.set r y := by
  cases r <;> rfl

theorem State.writes_bus (s : State) (r : Role) (f : Frame) : (s.writes r f).port.bus = .write r := rfl

theorem State.writes_frame (s : State) (r : Role) (f : Frame) : (s.writes r f).port.frames.get r = some f :=
  PerRole.get_set_self ..

theorem State.writes_keepFrame (s : State) (r : Role) (f g : Frame) : (s.writes r f).keepFrame r g = s.writes r g :=
  congrArg (fun frames => s.withPort { s.port with bus := .write r, acked := true, sending := none, frames := frames })
    (PerRole.set_set s.port.frames r (some f) (some g))

theorem exec_codeByte_writes (phase : f.phase = .code) (free : ∀ i : Option Instr, s.exchange r ≠ .inFlight i) (b : Byte) :
    exec (.codeByte b) (s.writes r f) =
      .next (s.writes r { f with phase := .length, code := some b, check := crc8Byte f.check b }) := by
  have idle : ¬ inFlightNow ((s.writes r f).exchange r) = true := not_inFlightNow free
  rw [exec_codeByte_awaited (s.writes_bus r f) (s.writes_frame r f) phase, if_neg idle, State.writes_keepFrame]

theorem exec_lengthByte_writes (phase : f.phase = .length) (fits : b.toNat ≤ 48) :
    exec (.lengthByte b) (s.writes r f) = .next (s.writes r { f with
      phase := if b.toNat = 0 then .check else .body, length := some b.toNat, check := crc8Byte f.check b }) := by
  rw [exec_lengthByte_awaited (s.writes_bus r f) (s.writes_frame r f) phase, if_neg (Nat.not_lt.mpr fits),
    State.writes_keepFrame]

theorem exec_bodyByte_writes (phase : f.phase = .body) (b : Byte) :
    exec (.bodyByte b) (s.writes r f) = .next (s.writes r { f with
      phase := if f.length = some (f.body.length + 1) then .check else .body
      body := f.body ++ [b]
      check := crc8Byte f.check b }) := by
  rw [exec_bodyByte_awaited (s.writes_bus r f) (s.writes_frame r f) phase, State.writes_keepFrame]

/-- The body bytes that a record still waits for are appended to it and run through its check. -/
theorem State.after_bodyBytes (s : State) (r : Role) (rest : List Instr) (bytes : List Byte) :
    ∀ f : Frame, f.phase = (if bytes.length = 0 then .check else .body) →
      f.length = some (f.body.length + bytes.length) →
      (s.writes r f).after (bytes.map .bodyByte ++ rest) =
        (s.writes r { f with
          phase := .check, body := f.body ++ bytes, check := bytes.foldl crc8Byte f.check }).after rest := by
  induction bytes with
  | nil =>
    intro f phase length
    have filled : { f with phase := Phase.check, body := f.body ++ [], check := [].foldl crc8Byte f.check } = f := by
      rw [List.append_nil, List.foldl_nil, ← (phase.trans (if_pos rfl) : f.phase = .check)]
    rw [List.map_nil, List.nil_append, filled]
  | cons b bytes ih =>
    intro f phase length
    have last : (f.length = some (f.body.length + 1)) = (bytes.length = 0) := by
      rw [length, List.length_cons]
      grind
    rw [List.map_cons, List.cons_append, State.after_cons (exec_bodyByte_writes phase b), ih]
    · rw [List.foldl_cons, List.append_assoc, List.singleton_append]
    · exact if_congr (iff_of_eq last) rfl rfl
    · rw [length, List.length_append, List.length_cons, List.length_singleton, Nat.add_assoc, Nat.add_comm 1]

theorem exec_checkByte_writes (phase : f.phase = .check) :
    exec (.checkByte f.check) (s.writes r f) = .next ((s.withPort { s.port with
      bus := .ignore, acked := true, sending := none, frames := s.port.frames.set r none }).setExchange r
        (exchangeRuled (rulingOn r (f.code.getD 0) f.body))) := by
  have emptied : ((s.writes r f).onPort fun u => (u.setFrame r none).goTo .ignore true) = s.withPort { s.port with
      bus := .ignore, acked := true, sending := none, frames := s.port.frames.set r none } :=
    congrArg (fun frames => s.withPort { s.port with bus := .ignore, acked := true, sending := none, frames := frames })
      (PerRole.set_set s.port.frames r (some f) none)
  rw [exec_checkByte_awaited (s.writes_bus r f) (s.writes_frame r f) phase, if_pos rfl, emptied, State.acceptFrame_eq]

/-- R142: what a START opens when no transaction is under way with the part. -/
theorem exec_startCondition_free (awake : s.awake = true) (bus : s.port.bus = .free) (within : Bool) :
    exec (.startCondition within) s = .next (s.withPort (s.port.goTo .address false)) := by
  have idle : s.endTransaction within = s := by rw [State.endTransaction, bus]
  rw [exec_startCondition, execStartCondition, onOccasion_due awake, idle]
  rfl

/-- R141: an address byte carries its address in the upper seven bits, and the direction in the lowest. -/
theorem toNat_addressByte {base : Nat} (small : base + 2 < 128) (r : Role) {bit : Nat} (isBit : bit < 2) :
    (byteOf (2 * (base + roleOffset r) + bit)).toNat / 2 = base + roleOffset r ∧
      (byteOf (2 * (base + roleOffset r) + bit)).toNat % 2 = bit := by
  have offset : roleOffset r ≤ 2 := by cases r <;> decide
  have whole : (byteOf (2 * (base + roleOffset r) + bit)).toNat = 2 * (base + roleOffset r) + bit := by
    rw [byteOf, BitVec.toNat_ofNat]
    omega
  omega

/-- R142, R143: a START and the address byte of a write begin the role's record. -/
theorem State.after_writeBegins (awake : s.awake = true) (bus : s.port.bus = .free) (loud : s.port.silent = false)
    (small : s.port.base + 2 < 128) (r : Role) (rest : List Instr) :
    let address := byteOf (2 * (s.port.base + roleOffset r))
    s.after (.startCondition false :: .addressByte address :: rest) = (s.writes r (.fresh address)).after rest := by
  intro address
  obtain ⟨named, write⟩ := toNat_addressByte small r (bit := 0) (by decide)
  have addressed : exec (.addressByte address) (s.withPort (s.port.goTo .address false)) =
      .next (s.writes r (.fresh address)) := exec_addressByte_write awake rfl loud named write
  rw [State.after_cons (exec_startCondition_free awake bus false), State.after_cons addressed]

/-- Settles O42: the bytes are followed one by one, those of the body by induction. -/
theorem wholeFrameBecomesTheRequest : Obligations.WholeFrameBecomesTheRequest := by
  intro r code body s awake bus loud small free fits
  dsimp only
  have count : (byteOf body.length).toNat = body.length := by
    rw [byteOf, BitVec.toNat_ofNat]
    omega
  have short : (byteOf body.length).toNat ≤ 48 := count.symm ▸ fits
  simp only [List.cons_append, List.nil_append]
  rw [State.after_writeBegins awake bus loud small, State.after_cons (exec_codeByte_writes rfl free code),
    State.after_cons (exec_lengthByte_writes rfl short),
    State.after_bodyBytes s r _ body _ (if_congr (by rw [count]) rfl rfl)
      (by rw [count]; exact congrArg some (Nat.zero_add _).symm)]
  exact State.after_cons (exec_checkByte_writes rfl) []

variable {s t : State} {u : ManagementPort} {r q : Role} {bytes : List Byte} {i : Instr}

/-! ### The response frame (R155, R156) -/

/-- What sending one byte of an answer can change of the port. -/
theorem ManagementPort.sendByte_eq (u : ManagementPort) (r : Role) (f : Sending) :
    ∃ (rest : List Byte) (x : Byte) (e : PerRole Exchange),
      u.sendByte r f = { u with sending := some { f with rest := rest }, sent := some x, exchanges := e } ∧
        (e = u.exchanges ∨ e = u.exchanges.set r .noResponse) := by
  unfold ManagementPort.sendByte
  split
  next empty => exact ⟨[], 0xFF, u.exchanges, by rw [← empty], .inl rfl⟩
  next b single =>
    refine ⟨[], b, _, rfl, ?_⟩
    split
    · exact .inr rfl
    · exact .inl rfl
  next b rest _ _ => exact ⟨rest, b, u.exchanges, rfl, .inl rfl⟩

theorem ManagementPort.sendByte_of_more {f : Sending} {b c : Byte} {rest : List Byte} (more : f.rest = b :: c :: rest) :
    u.sendByte r f = { u with sending := some { f with rest := c :: rest }, sent := some b } := by
  unfold ManagementPort.sendByte
  rw [more]

theorem ManagementPort.sendByte_of_last {f : Sending} {b : Byte} (last : f.rest = [b]) :
    u.sendByte r f = { u with
      sending := some { f with rest := [] }, sent := some b
      exchanges := if f.fromHeld then u.exchanges.set r .noResponse else u.exchanges } := by
  unfold ManagementPort.sendByte
  rw [last]

theorem exec_responseByteSent_read (bus : s.port.bus = .read r) (masterAcks : Bool) :
    exec (.responseByteSent masterAcks) s = .next (s.withPort
      ((s.port.sendByte r (s.port.sending.getD (s.port.response r))).afterByte masterAcks)) := by
  rw [exec_responseByteSent, execResponseByteSent, bus]
  rfl

/-- The part once the first k bytes of role r's held response frame have been sent. -/
def State.answering (s : State) (r : Role) (bytes : List Byte) (k : Nat) : State :=
  s.withPort { s.port with
    sending := some { rest := bytes.drop k, fromHeld := true }
    sent := bytes[k - 1]?
    exchanges := if k = bytes.length then s.port.exchanges.set r .noResponse else s.port.exchanges }

/-- A byte before the check byte leaves the exchange, and the check byte releases it. -/
theorem exec_responseByteSent_answering (bus : s.port.bus = .read r) {k : Nat} (more : k < bytes.length)
    (sending : s.port.sending.getD (s.port.response r) = { rest := bytes.drop k, fromHeld := true }) :
    exec (.responseByteSent true) s = .next (s.answering r bytes (k + 1)) := by
  rw [exec_responseByteSent_read bus, sending, ManagementPort.afterByte, if_pos rfl, State.answering,
    Nat.add_sub_cancel, List.getElem?_eq_getElem more]
  have front : bytes.drop k = bytes[k] :: bytes.drop (k + 1) := List.drop_eq_getElem_cons more
  cases left : bytes.drop (k + 1) with
  | nil =>
    have last : k + 1 = bytes.length := Nat.le_antisymm more (List.drop_eq_nil_iff.mp left)
    rw [ManagementPort.sendByte_of_last (front.trans (by rw [left])), if_pos rfl, if_pos last]
  | cons b rest =>
    have notLast : k + 1 ≠ bytes.length := fun last => by
      rw [List.drop_eq_nil_of_le (Nat.le_of_eq last.symm)] at left
      cases left
    rw [ManagementPort.sendByte_of_more (front.trans (by rw [left])), if_neg notLast]

theorem State.answering_answering (s : State) (r : Role) (bytes : List Byte) {j : Nat} (more : j < bytes.length) (k : Nat) :
    (s.answering r bytes j).answering r bytes k = s.answering r bytes k := by
  have unreleased : (s.answering r bytes j).port.exchanges = s.port.exchanges := if_neg (Nat.ne_of_lt more)
  unfold State.answering at unreleased ⊢
  rw [unreleased]
  rfl

/-- From the byte at position j on, each acknowledged byte is followed by the next. -/
theorem State.after_responseBytes (k : Nat) : ∀ {s : State} {j : Nat}, s.port.bus = .read r →
    j + k + 1 ≤ bytes.length →
    s.port.sending.getD (s.port.response r) = { rest := bytes.drop j, fromHeld := true } →
    s.after (List.replicate (k + 1) (.responseByteSent true)) = s.answering r bytes (j + k + 1) := by
  induction k with
  | zero =>
    intro s j bus within sending
    exact State.after_cons (exec_responseByteSent_answering bus (by omega) sending) []
  | succ k ih =>
    intro s j bus within sending
    have more : j + 1 < bytes.length := by omega
    rw [List.replicate_succ, State.after_cons (exec_responseByteSent_answering bus (by omega) sending),
      ih (s := s.answering r bytes (j + 1)) (j := j + 1) bus (by omega) rfl, State.answering_answering s r bytes more]
    exact congrArg (s.answering r bytes) (by omega)

/-- Settles O43: the START and the address byte begin the read, and the bytes are followed one by one. -/
theorem heldResponsesAreReadToTheEnd : Obligations.HeldResponsesAreReadToTheEnd := by
  intro r a k s awake bus loud small held address frame bytes some within t
  obtain ⟨named, read⟩ := toNat_addressByte small r (bit := 1) (by decide)
  obtain ⟨n, rfl⟩ : ∃ n, k = n + 1 := ⟨k - 1, by omega⟩
  have begins : exec (.addressByte address) (s.withPort (s.port.goTo .address false)) =
      .next (s.withPort (s.port.goTo (.read r) true)) := exec_addressByte_read awake rfl loud named read
  have response : s.port.response r = { rest := bytes.drop 0, fromHeld := true } := by
    have exchange : s.port.exchanges.get r = .held a := held
    rw [ManagementPort.response, exchange]
    rfl
  have reached : t = (s.withPort (s.port.goTo (.read r) true)).answering r bytes (n + 1) := by
    have after := State.after_responseBytes (r := r) (bytes := bytes) n (s := s.withPort (s.port.goTo (.read r) true))
      (j := 0) rfl (by omega) response
    rw [Nat.zero_add] at after
    rw [← after]
    exact (State.after_cons (exec_startCondition_free awake bus false) _).trans (State.after_cons begins _)
  rw [reached]
  exact ⟨rfl, rfl, rfl, rfl, rfl, rfl, fun more => if_neg (Nat.ne_of_lt more), fun last => if_pos last⟩

/-! ### START, STOP and the timeout (R149 to R151) -/

theorem State.endTransaction_idle (idle : busRole s.port.bus = none) (within : Bool) : s.endTransaction within = s := by
  unfold State.endTransaction
  split
  next q bus => rw [bus] at idle; cases idle
  next q bus => rw [bus] at idle; cases idle
  all_goals rfl

theorem State.endTransaction_read (bus : s.port.bus = .read r) (within : Bool) :
    s.endTransaction within = if within then s.portEvent r addBus else s := by
  rw [State.endTransaction, bus]

theorem State.endTransaction_write (bus : s.port.bus = .write r) (within : Bool) :
    s.endTransaction within =
      if within then (s.onPort fun u => u.setFrame r none).portEvent r addBus
      else if frameBegun (s.port.frames.get r) then (s.onPort fun u => u.setFrame r none).portEvent r addTruncated
      else s.onPort fun u => u.setFrame r none := by
  rw [State.endTransaction, bus]

theorem State.portEvent_onPort (s : State) (r : Role) (count : PortCounts → PortCounts)
    (g : ManagementPort → ManagementPort) :
    (s.portEvent r count).onPort g =
      (s.withPort (g (s.port.count r count))).sendAll [.notice .port .port (.only r) 0] := by
  rw [State.portEvent_eq]
  rfl

/-- START and STOP end the transaction under way and move the bus. -/
theorem exec_bus_condition (awake : s.awake = true) {within : Bool} {b : BusState}
    (condition : (i = .startCondition within ∧ b = .address) ∨ (i = .stopCondition within ∧ b = .free)) :
    exec i s = .next ((s.endTransaction within).onPort fun u => u.goTo b false) := by
  rcases condition with ⟨rfl, rfl⟩ | ⟨rfl, rfl⟩
  · rw [exec_startCondition, execStartCondition, onOccasion_due awake]
  · rw [exec_stopCondition, execStopCondition, onOccasion_due awake]

theorem exec_transactionTimeout_busy (role : busRole s.port.bus = some r) :
    exec .transactionTimeout s =
      .next ((s.onPort fun u => (u.setFrame r none).goTo .ignore false).portEvent r addTimeout) := by
  rw [exec_transactionTimeout, execTransactionTimeout, role]

theorem exec_transactionTimeout_idle (idle : busRole s.port.bus = none) : exec .transactionTimeout s = .next s := by
  rw [exec_transactionTimeout, execTransactionTimeout, idle]

/-- The status byte of an exchange (R155). -/
def statusByte : Exchange → Byte
  | .noResponse => 0x01
  | .inFlight _ => 0x02
  | .held a => resultByte a.result

/-- R155: a response frame begins with the status byte, and is longer than that. -/
theorem ManagementPort.response_rest (u : ManagementPort) (r : Role) :
    ∃ c rest, (u.response r).rest = statusByte (u.exchanges.get r) :: c :: rest := by
  unfold ManagementPort.response
  cases u.exchanges.get r <;> exact ⟨_, _, rfl⟩

theorem ManagementPort.sendByte_first (u : ManagementPort) (r : Role) :
    (u.sendByte r (u.response r)).exchanges = u.exchanges ∧
      (u.sendByte r (u.response r)).sent = some (statusByte (u.exchanges.get r)) := by
  obtain ⟨c, rest, bytes⟩ := u.response_rest r
  rw [ManagementPort.sendByte_of_more bytes]
  exact ⟨rfl, rfl⟩

theorem ManagementPort.afterByte_exchanges (masterAcks : Bool) (u : ManagementPort) :
    (u.afterByte masterAcks).exchanges = u.exchanges ∧ (u.afterByte masterAcks).sent = u.sent := by
  cases masterAcks <;> exact ⟨rfl, rfl⟩

/-- One byte of a read: the other roles and everything but the sending are left alone. -/
theorem responseByteSent_frame (bus : s.port.bus = .read r) (masterAcks : Bool) :
    ∃ v : ManagementPort, exec (.responseByteSent masterAcks) s = .next (s.withPort v) ∧ v.frames = s.port.frames ∧
      v.counts = s.port.counts ∧ v.base = s.port.base ∧ v.silent = s.port.silent ∧
      (∀ q : Role, q ≠ r → v.exchanges.get q = s.port.exchanges.get q) ∧
      (masterAcks = true → v.bus = .read r ∧ v.sending ≠ none) ∧
      (masterAcks = false → v.bus = .ignore ∧ v.sending = none) ∧
      (s.port.sending = none → v.exchanges = s.port.exchanges ∧
        v.sent = some (statusByte (s.port.exchanges.get r))) := by
  have first : s.port.sending = none →
      ((s.port.sendByte r (s.port.sending.getD (s.port.response r))).afterByte masterAcks).exchanges = s.port.exchanges ∧
      ((s.port.sendByte r (s.port.sending.getD (s.port.response r))).afterByte masterAcks).sent =
        some (statusByte (s.port.exchanges.get r)) := fun fresh => by
    rw [(ManagementPort.afterByte_exchanges masterAcks _).1, (ManagementPort.afterByte_exchanges masterAcks _).2, fresh]
    exact s.port.sendByte_first r
  refine ⟨_, exec_responseByteSent_read bus masterAcks, ?_⟩
  obtain ⟨rest, x, e, sent, exchanges⟩ := s.port.sendByte_eq r (s.port.sending.getD (s.port.response r))
  rw [sent] at first ⊢
  have others : ∀ q : Role, q ≠ r → e.get q = s.port.exchanges.get q := fun q other => by
    rcases exchanges with rfl | rfl
    · rfl
    · exact PerRole.get_set_other _ _ (Ne.symm other)
  cases masterAcks with
  | true => exact ⟨rfl, rfl, rfl, rfl, others, fun _ => ⟨bus, Option.some_ne_none _⟩, fun h => (by cases h), first⟩
  | false => exact ⟨rfl, rfl, rfl, rfl, others, fun h => (by cases h), fun _ => ⟨rfl, rfl⟩, first⟩

/-- Settles O44: START and STOP by the transaction under way, the timeout by whether there is one, and the byte of a read. -/
theorem busFaultsAreCountedForTheirRole : Obligations.BusFaultsAreCountedForTheirRole := by
  intro s
  refine ⟨fun i within b awake condition => ⟨fun idle => ?idle, fun r bus quiet => ?readQuiet, fun r bus cut => ?readCut,
    fun r bus => ⟨fun cut => ?writeCut, fun quiet begun => ?truncated, fun quiet unbegun => ?unbegun⟩⟩,
    fun r role => ?timeout, fun idle => exec_transactionTimeout_idle idle, fun r acks bus => ?byte⟩
  case idle =>
    rw [exec_bus_condition awake condition, State.endTransaction_idle idle]
    rfl
  case readQuiet =>
    rw [exec_bus_condition awake condition, State.endTransaction_read bus, quiet, if_neg Bool.false_ne_true]
    rfl
  case readCut =>
    rw [exec_bus_condition awake condition, State.endTransaction_read bus, cut, if_pos rfl, State.portEvent_onPort]
    rfl
  case writeCut =>
    rw [exec_bus_condition awake condition, State.endTransaction_write bus, cut, if_pos rfl, State.portEvent_onPort]
    rfl
  case truncated =>
    rw [exec_bus_condition awake condition, State.endTransaction_write bus, quiet, if_neg Bool.false_ne_true, if_pos begun,
      State.portEvent_onPort]
    rfl
  case unbegun =>
    rw [exec_bus_condition awake condition, State.endTransaction_write bus, quiet, if_neg Bool.false_ne_true, unbegun,
      if_neg Bool.false_ne_true]
    rfl
  case timeout =>
    rw [exec_transactionTimeout_busy role, State.portEvent_eq]
    rfl
  case byte => exact responseByteSent_frame bus acks

/-! ### READ_PORT_COUNTS and RESET (R159, R160) -/

theorem exec_readPortCounts (r : Role) (s : State) : exec (.readPortCounts r) s = execReadPortCounts r s := rfl

theorem exec_reset (r : Role) (s : State) : exec (.reset r) s = execReset r s := rfl

theorem onResetRequest_handed {i : Instr} {r : Role} {s : State} (h : s.handed r i = true)
    (act : State → State × Option Answer) (unanswered : (act s).2 = none) :
    onResetRequest i r s act = .next (((act s).1).setExchange r (.inFlight none)) := by
  rw [onResetRequest, h, if_pos rfl, unanswered]

theorem ManagementPort.abandon_idle (idle : busRole u.bus = none) : u.abandon = u := by
  rw [ManagementPort.abandon, idle]

theorem ManagementPort.abandon_busy (role : busRole u.bus = some q) :
    u.abandon = (u.setFrame q none).goTo .ignore false := by
  rw [ManagementPort.abandon, role]

/-- R160, R162: falling silent abandons a transaction under way and leaves the rest of the port alone. -/
theorem ManagementPort.fallSilent_spec (u : ManagementPort) :
    u.fallSilent.silent = true ∧ u.fallSilent.exchanges = u.exchanges ∧ u.fallSilent.base = u.base ∧
      u.fallSilent.counts = u.counts ∧
      (busRole u.bus = none → u.fallSilent.bus = u.bus ∧ u.fallSilent.frames = u.frames) ∧
      (∀ q : Role, busRole u.bus = some q → u.fallSilent.bus = .ignore ∧ u.fallSilent.frames = u.frames.set q none ∧
        u.fallSilent.sending = none) := by
  unfold ManagementPort.fallSilent
  cases role : busRole u.bus with
  | none =>
    rw [ManagementPort.abandon_idle role]
    exact ⟨rfl, rfl, rfl, rfl, fun _ => ⟨rfl, rfl⟩, fun q h => by cases h⟩
  | some q =>
    rw [ManagementPort.abandon_busy role]
    refine ⟨rfl, rfl, rfl, rfl, fun h => (by cases h), fun p h => ?_⟩
    cases h
    exact ⟨rfl, rfl, rfl⟩

/-- Settles O45: the two requests, each as it is taken. -/
theorem portCountsAreClearedAndResetIsSilent : Obligations.PortCountsAreClearedAndResetIsSilent := by
  refine ⟨fun r s taken => ?_, fun r s taken => ?_⟩
  · rw [exec_readPortCounts, execReadPortCounts, onRequest_handed taken]
    rfl
  · obtain ⟨silent, exchanges, base, counts, idle, busy⟩ := s.port.fallSilent_spec
    refine ⟨{ s.port.fallSilent with exchanges := s.port.fallSilent.exchanges.set r (.inFlight none) }, ?_, silent,
      congrArg (fun e => e.set r (.inFlight none)) exchanges, base, counts, idle, busy⟩
    rw [exec_reset, execReset, onResetRequest_handed taken _ rfl]
    rfl

end Sys2Proof.Machine
end

section
/-! PROOFS. Notices, masks and alert lines (08). The theorem at its end settles O46. -/

namespace Sys2Proof.Machine

variable {s : State} {u : SignalUnit} {r q : Role} {category : Category} {roles : Concerned} {screens : ScreenSet}

/-! ### A notice for the roles it concerns (R163) -/

theorem exec_notice (source : Block) (category : Category) (roles : Concerned) (screens : ScreenSet) (s : State) :
    exec (.notice source category roles screens) s = execNotice source category roles screens s := rfl

theorem exec_getNotices (r : Role) (s : State) : exec (.getNotices r) s = execGetNotices r s := rfl

theorem exec_setNoticeMask (r : Role) (mask : Byte) (s : State) :
    exec (.setNoticeMask r mask) s = execSetNoticeMask r mask s := rfl

/-- The two pending sets of a role. -/
def SignalUnit.pendingOf (u : SignalUnit) (r : Role) : NoticeSet × ScreenSet := (u.notices.get r, u.changed.get r)

/-- The unit once role r has been told of a notice, if the notice concerns it. -/
def SignalUnit.told (category : Category) (roles : Concerned) (screens : ScreenSet) (u : SignalUnit) (r : Role) :
    SignalUnit :=
  if concerns roles r then u.noticeFor category screens r else u

theorem SignalUnit.take_eq (u : SignalUnit) (category : Category) (roles : Concerned) (screens : ScreenSet) :
    u.take category roles screens =
      told category roles screens (told category roles screens (told category roles screens u .console) .panel) .relay :=
  rfl

/-- A notice touches the pending sets alone. -/
theorem SignalUnit.told_rest (u : SignalUnit) (r : Role) :
    (told category roles screens u r).masks = u.masks ∧ (told category roles screens u r).lines = u.lines ∧
      (told category roles screens u r).reported = u.reported := by
  unfold told
  split <;> exact ⟨rfl, rfl, rfl⟩

theorem SignalUnit.told_other (other : r ≠ q) : (told category roles screens u r).pendingOf q = u.pendingOf q := by
  unfold told
  split
  · have changed : (u.noticeFor category screens r).changed.get q = u.changed.get q := by
      unfold noticeFor
      split
      · exact PerRole.get_set_other _ _ other
      · rfl
    exact Prod.ext (PerRole.get_set_other _ _ other) changed
  · rfl

theorem SignalUnit.told_own (u : SignalUnit) (r : Role) :
    (told category roles screens u r).pendingOf r =
      if concerns roles r then
        (u.notices.get r ||| categoryBit category,
          if category = .screen then u.changed.get r ||| screens else u.changed.get r)
      else u.pendingOf r := by
  unfold told
  split
  · have changed : (u.noticeFor category screens r).changed.get r =
        if category = .screen then u.changed.get r ||| screens else u.changed.get r := by
      unfold noticeFor
      split
      · exact PerRole.get_set_self _ _ _
      · rfl
    exact Prod.ext (PerRole.get_set_self _ _ _) changed
  · rfl

theorem SignalUnit.take_rest (u : SignalUnit) (category : Category) (roles : Concerned) (screens : ScreenSet) :
    (u.take category roles screens).masks = u.masks ∧ (u.take category roles screens).lines = u.lines ∧
      (u.take category roles screens).reported = u.reported := by
  simp only [SignalUnit.take_eq, told_rest, and_self]

/-- Each role is told once, and by nobody else's share. -/
theorem SignalUnit.take_pendingOf (u : SignalUnit) (r : Role) :
    (u.take category roles screens).pendingOf r =
      if concerns roles r then
        (u.notices.get r ||| categoryBit category,
          if category = .screen then u.changed.get r ||| screens else u.changed.get r)
      else u.pendingOf r := by
  rw [SignalUnit.take_eq]
  cases r with
  | console => rw [told_other (by decide), told_other (by decide), told_own]
  | panel =>
    have before : (told category roles screens u .console).pendingOf .panel = u.pendingOf .panel := told_other (by decide)
    rw [told_other (by decide), told_own, before, show (told category roles screens u .console).notices.get .panel =
      u.notices.get .panel from congrArg Prod.fst before, show (told category roles screens u .console).changed.get .panel =
      u.changed.get .panel from congrArg Prod.snd before]
  | relay =>
    generalize first : told category roles screens (told category roles screens u .console) .panel = v
    have before : v.pendingOf .relay = u.pendingOf .relay := by
      rw [← first, told_other (by decide), told_other (by decide)]
    rw [told_own, before, show v.notices.get .relay = u.notices.get .relay from congrArg Prod.fst before,
      show v.changed.get .relay = u.changed.get .relay from congrArg Prod.snd before]

/-! ### Alert lines (R165) -/

/-- The place of a category in a set of notices. -/
def categoryPlace : Category → Nat
  | .screen => 0
  | .time => 1
  | .guide => 2
  | .authority => 3
  | .store => 4
  | .port => 5

theorem categoryBit_eq (c : Category) : categoryBit c = BitVec.twoPow 6 (categoryPlace c) := by cases c <;> rfl

theorem exists_categoryPlace {i : Nat} (h : i < 6) : ∃ c : Category, categoryPlace c = i :=
  match i, h with
  | 0, _ => ⟨.screen, rfl⟩
  | 1, _ => ⟨.time, rfl⟩
  | 2, _ => ⟨.guide, rfl⟩
  | 3, _ => ⟨.authority, rfl⟩
  | 4, _ => ⟨.store, rfl⟩
  | 5, _ => ⟨.port, rfl⟩

theorem categoryBit_ne_zero (c : Category) : categoryBit c ≠ 0 := by cases c <;> decide

/-- A set holds a category when its bit is set. -/
theorem and_categoryBit_eq_zero (n : NoticeSet) (c : Category) :
    n &&& categoryBit c = 0 ↔ n.getLsbD (categoryPlace c) = false := by
  rw [categoryBit_eq, BitVec.and_twoPow]
  split
  next held => exact iff_of_false (categoryBit_eq c ▸ categoryBit_ne_zero c) (by rw [held]; exact Bool.false_ne_true ∘ Eq.symm)
  next absent => exact iff_of_true rfl (Bool.eq_false_of_not_eq_true absent)

/-- A set that is not empty holds one of the six categories. -/
theorem noticeSet_ne_zero_iff (n : NoticeSet) : n ≠ 0 ↔ ∃ c : Category, n.getLsbD (categoryPlace c) = true := by
  constructor
  · intro some
    by_contra none
    refine some (BitVec.eq_of_getLsbD_eq fun i inRange => ?_)
    obtain ⟨c, rfl⟩ := exists_categoryPlace inRange
    exact (Bool.eq_false_of_not_eq_true fun held => none ⟨c, held⟩).trans BitVec.getLsbD_zero.symm
  · rintro ⟨c, held⟩ rfl
    exact Bool.false_ne_true (BitVec.getLsbD_zero.symm.trans held)

theorem unmasked_iff (n m : NoticeSet) :
    n &&& ~~~m ≠ 0 ↔ ∃ c : Category, n &&& categoryBit c ≠ 0 ∧ m &&& categoryBit c = 0 := by
  rw [noticeSet_ne_zero_iff]
  refine exists_congr fun c => ?_
  have inRange : categoryPlace c < 6 := by cases c <;> decide
  rw [Ne, and_categoryBit_eq_zero, and_categoryBit_eq_zero, BitVec.getLsbD_and, BitVec.getLsbD_not, Bool.and_eq_true,
    Bool.not_eq_false, Bool.and_eq_true, decide_eq_true inRange, Bool.not_eq_true']
  exact and_congr_right fun _ => ⟨And.right, fun clear => ⟨rfl, clear⟩⟩

/-- A load releases every alert line; outside one a role is alerted by a pending category that it has not masked. -/
theorem State.alert_iff (s : State) (r : Role) : s.alert r = true ↔ s.store.state ≠ .loading ∧
    ∃ c : Category, s.signal.notices.get r &&& categoryBit c ≠ 0 ∧ s.signal.masks.get r &&& categoryBit c = 0 := by
  rw [State.alert, State.loading, Bool.and_eq_true, Bool.not_eq_true', beq_eq_false_iff_ne, bne_iff_ne, unmasked_iff]

/-- Settles O46: the notice role by role, the two requests as they are taken, and the alert line by its bits. -/
theorem noticesArePendingUntilTheyAreRead : Obligations.NoticesArePendingUntilTheyAreRead := by
  refine ⟨fun source category roles screens rest s taken => ?notice, fun r s taken => ?read,
    fun r mask s taken => ⟨fun named => ?mask, fun outside => ?outside⟩, fun r s => s.alert_iff r⟩
  case notice =>
    obtain ⟨masks, lines, reported⟩ := s.signal.take_rest category roles screens
    refine ⟨s.signal.take category roles screens, ?_, masks, lines, reported, fun r => ?_⟩
    · rw [exec_notice, execNotice, onMessage_taken taken]
      rfl
    · have pending := s.signal.take_pendingOf (category := category) (roles := roles) (screens := screens) r
      constructor
      · intro concerned
        rw [if_pos concerned] at pending
        exact ⟨congrArg Prod.fst pending, congrArg Prod.snd pending⟩
      · intro unconcerned
        rw [unconcerned, if_neg Bool.false_ne_true] at pending
        exact ⟨congrArg Prod.fst pending, congrArg Prod.snd pending⟩
  case read =>
    rw [exec_getNotices, execGetNotices, onRequest_handed taken]
    rfl
  case mask =>
    rw [exec_setNoticeMask, execSetNoticeMask, onRequest_handed taken, if_pos named]
  case outside =>
    rw [exec_setNoticeMask, execSetNoticeMask, onRequest_handed taken, if_neg (Nat.not_lt.mpr outside)]
    rfl

end Sys2Proof.Machine
end

section
/-! PROOFS. The profile store's marks, timers, commits, writes and loads (09). The theorems at its ends settle O48 to O52. -/

namespace Sys2Proof.Machine

variable {s t : State} {u : ProfileStore} {r : Role}

/-! ### The store's commands -/

theorem exec_dirtyMark (source : Block) (rollover : Bool) (s : State) :
    exec (.dirtyMark source rollover) s = execDirtyMark source rollover s := rfl

theorem exec_accountActivity (s : State) : exec .accountActivity s = execAccountActivity s := rfl

theorem exec_snapshotTimerExpiry (s : State) : exec .snapshotTimerExpiry s = execSnapshotTimerExpiry s := rfl

theorem exec_settleExpiry (s : State) : exec .settleExpiry s = execSettleExpiry s := rfl

theorem exec_writeAttemptEnd (verified : Bool) (s : State) :
    exec (.writeAttemptEnd verified) s = execWriteAttemptEnd verified s := rfl

theorem exec_softReset (s : State) : exec .softReset s = execSoftReset s := rfl

/-! ### Commits (R178) -/

theorem ProfileStore.not_resting (busy : u.state = .writing ∨ u.state = .loading) : u.resting = false := by
  unfold resting
  rcases busy with busy | busy <;> rw [busy] <;> rfl

theorem State.commitIfDirty_dirty (resting : s.store.state = .idle ∨ s.store.state = .failed) (dirty : s.store.dirty = true) :
    s.commitIfDirty = s.beginCommit := by
  rw [State.commitIfDirty, ProfileStore.resting_iff.mpr resting, dirty, Bool.and_self, if_pos rfl]

theorem State.commitIfDirty_clean (clean : s.store.dirty = false) : s.commitIfDirty = s := by
  rw [State.commitIfDirty, clean, Bool.and_false, if_neg Bool.false_ne_true]

theorem State.commitIfDirty_busy (busy : s.store.state = .writing ∨ s.store.state = .loading) : s.commitIfDirty = s := by
  rw [State.commitIfDirty, ProfileStore.not_resting busy, Bool.false_and, if_neg Bool.false_ne_true]

/-! ### Dirty marks (R176) -/

theorem State.takeDirtyMark_settles (outside : s.store.state ≠ .loading) (underWay : s.store.underWay = .nothing) :
    s.takeDirtyMark = s.withStore { s.store with dirty := true, settle := some 2 } := by
  unfold State.takeDirtyMark
  rw [if_neg outside]
  split
  next => rfl
  next other => exact absurd (underWay.symm.trans other) UnderWay.noConfusion
  next other => exact absurd (underWay.symm.trans other) UnderWay.noConfusion

theorem State.takeDirtyMark_reset (outside : s.store.state ≠ .loading) (underWay : s.store.underWay = .reset) :
    s.takeDirtyMark = (s.withStore { s.store with dirty := true }).commitIfDirty := by
  unfold State.takeDirtyMark
  rw [if_neg outside]
  split
  next other => exact absurd (underWay.symm.trans other) UnderWay.noConfusion
  next => rfl
  next other => exact absurd (underWay.symm.trans other) UnderWay.noConfusion

theorem State.takeDirtyMark_writing (writing : s.store.state = .writing) (underWay : s.store.underWay = .reset) :
    s.takeDirtyMark = s.withStore { s.store with dirty := true } := by
  have outside : s.store.state ≠ .loading := by rw [writing]; exact StoreState.noConfusion
  exact (State.takeDirtyMark_reset outside underWay).trans (State.commitIfDirty_busy (.inl writing))

theorem State.takeDirtyMark_commits (resting : s.store.state = .idle ∨ s.store.state = .failed)
    (underWay : s.store.underWay = .reset) :
    s.takeDirtyMark = (s.withStore { s.store with dirty := true }).beginCommit := by
  have outside : s.store.state ≠ .loading := by rcases resting with h | h <;> rw [h] <;> exact StoreState.noConfusion
  exact (State.takeDirtyMark_reset outside underWay).trans (State.commitIfDirty_dirty resting rfl)

theorem State.takeDirtyMark_kept
    (kept : s.store.state = .loading ∨ ∃ (d : Nat) (g : FactoryStage), s.store.underWay = .factoryClear d g) :
    s.takeDirtyMark = s.withStore { s.store with dirty := true } := by
  by_cases loading : s.store.state = .loading
  · exact if_pos loading
  obtain ⟨d, g, underWay⟩ := kept.resolve_left loading
  unfold State.takeDirtyMark
  rw [if_neg loading]
  split
  next other => exact absurd (underWay.symm.trans other) UnderWay.noConfusion
  next other => exact absurd (underWay.symm.trans other) UnderWay.noConfusion
  next => rfl

/-- R176: a mark says whether it is a rollover's. -/
theorem State.takeMark_eq (s : State) (rollover : Bool) :
    s.takeMark rollover =
      (s.withStore { s.store with rolloverUnsaved := s.store.rolloverUnsaved || rollover }).takeDirtyMark := by
  cases rollover with
  | true => rw [State.takeMark, if_pos rfl, Bool.or_true]
  | false => rw [State.takeMark, if_neg Bool.false_ne_true, Bool.or_false]; rfl

section DirtyMark

variable {source : Block} {rollover : Bool} {rest : List Instr}
  (taken : takeFrom (.dirtyMark source rollover) s.transit = some rest)

include taken

theorem exec_dirtyMark_taken :
    exec (.dirtyMark source rollover) s = .next (((s.withTransit rest).withStore { s.store with
      rolloverUnsaved := s.store.rolloverUnsaved || rollover }).takeDirtyMark) := by
  rw [exec_dirtyMark, execDirtyMark, onMessage_taken taken, State.takeMark_eq]
  rfl

/-- A mark while a load or a factory clear is under way. -/
theorem exec_dirtyMark_kept
    (kept : s.store.state = .loading ∨ ∃ (d : Nat) (g : FactoryStage), s.store.underWay = .factoryClear d g) :
    exec (.dirtyMark source rollover) s = .next ((s.withTransit rest).withStore { s.store with
      dirty := true, rolloverUnsaved := s.store.rolloverUnsaved || rollover }) := by
  exact (exec_dirtyMark_taken taken).trans (congrArg _ (State.takeDirtyMark_kept kept))

theorem exec_dirtyMark_settles (outside : s.store.state ≠ .loading) (underWay : s.store.underWay = .nothing) :
    exec (.dirtyMark source rollover) s = .next ((s.withTransit rest).withStore { s.store with
      dirty := true, rolloverUnsaved := s.store.rolloverUnsaved || rollover, settle := some 2 }) := by
  exact (exec_dirtyMark_taken taken).trans (congrArg _ (State.takeDirtyMark_settles outside underWay))

/-- A mark while the write before a soft reset's load is under way. -/
theorem exec_dirtyMark_writing (writing : s.store.state = .writing) (underWay : s.store.underWay = .reset) :
    exec (.dirtyMark source rollover) s = .next ((s.withTransit rest).withStore { s.store with
      dirty := true, rolloverUnsaved := s.store.rolloverUnsaved || rollover }) := by
  exact (exec_dirtyMark_taken taken).trans (congrArg _ (State.takeDirtyMark_writing writing underWay))

/-- A mark between a soft reset's last write and its load. -/
theorem exec_dirtyMark_commits (resting : s.store.state = .idle ∨ s.store.state = .failed)
    (underWay : s.store.underWay = .reset) :
    exec (.dirtyMark source rollover) s = .next ((s.withTransit rest).withStore { s.store with
      dirty := false, rolloverUnsaved := false, state := .writing, snapshot := some (sealed s.storedContent)
      attempt := some .first, image := .torn }) := by
  exact (exec_dirtyMark_taken taken).trans (congrArg _ (State.takeDirtyMark_commits resting underWay))

end DirtyMark

/-! ### Account activity and the snapshot timer (R177) -/

section Activity

variable {rest : List Instr} (taken : takeFrom .accountActivity s.transit = some rest)

include taken

theorem exec_accountActivity_resetting (underWay : s.store.underWay ≠ .nothing) :
    exec .accountActivity s = .next (s.withTransit rest).takeDirtyMark := by
  rw [exec_accountActivity, execAccountActivity, onMessage_taken taken]
  exact congrArg _ (if_pos underWay)

theorem exec_accountActivity_running (free : s.store.underWay = .nothing) (running : s.store.snapshotTimer ≠ none) :
    exec .accountActivity s = .next ((s.withTransit rest).withStore { s.store with activity := true }) := by
  rw [exec_accountActivity, execAccountActivity, onMessage_taken taken]
  exact congrArg _ ((if_neg (not_not_intro free)).trans (if_pos (Option.isSome_iff_ne_none.mpr running)))

theorem exec_accountActivity_starts (free : s.store.underWay = .nothing) (stopped : s.store.snapshotTimer = none) :
    exec .accountActivity s =
      .next ((s.withTransit rest).withStore { s.store with snapshotTimer := some 60 }).takeDirtyMark := by
  have idle : ¬ s.store.snapshotTimer.isSome = true := by rw [stopped]; exact Bool.false_ne_true
  rw [exec_accountActivity, execAccountActivity, onMessage_taken taken]
  exact congrArg _ ((if_neg (not_not_intro free)).trans (if_neg idle))

end Activity

theorem exec_snapshotTimerExpiry_due (due : s.store.snapshotTimer = some 0) :
    exec .snapshotTimerExpiry s = .next (if s.store.activity then
      (s.withStore { s.store with activity := false, snapshotTimer := some 60 }).takeDirtyMark
    else s.withStore { s.store with snapshotTimer := none }) := by
  rw [exec_snapshotTimerExpiry, execSnapshotTimerExpiry, onOccasion_due (beq_iff_eq.mpr due)]

theorem exec_settleExpiry_due (due : s.store.settle = some 0) :
    exec .settleExpiry s = .next (s.withStore { s.store with settle := none }).commitIfDirty := by
  rw [exec_settleExpiry, execSettleExpiry, onOccasion_due (beq_iff_eq.mpr due)]

/-- Settles O48: each command by the state of the store and the reset under way. -/
theorem marksSettleIntoACommit : Obligations.MarksSettleIntoACommit := by
  refine ⟨fun source rollover rest s taken => ⟨exec_dirtyMark_kept taken, exec_dirtyMark_settles taken,
      exec_dirtyMark_writing taken, exec_dirtyMark_commits taken⟩,
    fun rest s taken free => ⟨exec_accountActivity_running taken free, fun stopped loading => ?loading,
      fun stopped outside => ?outside⟩,
    fun rest s taken underWay => exec_accountActivity_resetting taken underWay,
    fun s due => ⟨fun quiet => ?quiet, fun active outside free => ?active, fun active _ => ?again⟩,
    fun s due => ⟨fun resting dirty => ?commit, fun idle => ?idle⟩⟩
  case loading =>
    exact (exec_accountActivity_starts taken free stopped).trans (congrArg _ (State.takeDirtyMark_kept (.inl loading)))
  case outside =>
    exact (exec_accountActivity_starts taken free stopped).trans
      (congrArg _ (State.takeDirtyMark_settles outside free))
  case quiet =>
    have inactive : ¬ s.store.activity = true := by rw [quiet]; exact Bool.false_ne_true
    rw [exec_snapshotTimerExpiry_due due, if_neg inactive]
  case active =>
    rw [exec_snapshotTimerExpiry_due due, active, if_pos rfl]
    exact congrArg _ (State.takeDirtyMark_settles outside free)
  case again => rw [exec_snapshotTimerExpiry_due due, active, if_pos rfl]
  case commit =>
    exact (exec_settleExpiry_due due).trans (congrArg _ (State.commitIfDirty_dirty resting dirty))
  case idle =>
    rw [exec_settleExpiry_due due]
    rcases idle with writing | loading | clean
    · exact congrArg _ (State.commitIfDirty_busy (.inl writing))
    · exact congrArg _ (State.commitIfDirty_busy (.inr loading))
    · exact congrArg _ (State.commitIfDirty_clean clean)

variable {s : State} {r : Role}

/-! ### The end of a write attempt (R179, R184, R185) -/

/-- The store as a write of an image begins. -/
def ProfileStore.committing (content : Content) (w : ProfileStore) : ProfileStore :=
  { w with dirty := false, rolloverUnsaved := false }.beginWrite (sealed content)

/-- What the reset under way makes of a store at rest whose write has ended. -/
def ProfileStore.afterWrite (content : Content) (w : ProfileStore) : ProfileStore :=
  match w.underWay with
  | .nothing => if w.dirty = true ∧ w.settle = none then w.committing content else w
  | .reset => if w.dirty = true then w.committing content else w
  | .factoryClear d .waiting => { w with underWay := .factoryClear d .writing }.beginWrite (sealed (factoryContent d))
  | .factoryClear d .writing => { w with underWay := .factoryClear d .written }
  | .factoryClear _ .written => w

theorem State.commitIfDirty_resting (resting : s.store.state = .idle ∨ s.store.state = .failed) :
    s.commitIfDirty = s.withStore (if s.store.dirty = true then s.store.committing s.storedContent else s.store) := by
  split
  next dirty => exact State.commitIfDirty_dirty resting dirty
  next clean => exact State.commitIfDirty_clean (Bool.eq_false_of_not_eq_true clean)

theorem State.commitIfSettled_resting (resting : s.store.state = .idle ∨ s.store.state = .failed) :
    s.commitIfSettled =
      s.withStore (if s.store.dirty = true ∧ s.store.settle = none then s.store.committing s.storedContent
        else s.store) := by
  unfold State.commitIfSettled
  by_cases settled : s.store.settle = none
  · simp only [settled, Option.isNone_none, if_true, and_true]
    exact State.commitIfDirty_resting resting
  · have running : ¬ s.store.settle.isNone = true := settled ∘ Option.isNone_iff_eq_none.mp
    rw [if_neg running, if_neg (settled ∘ And.right), State.withStore_self]

theorem State.afterWrite_eq (resting : s.store.state = .idle ∨ s.store.state = .failed) :
    s.afterWrite = s.withStore (s.store.afterWrite s.storedContent) := by
  unfold State.afterWrite ProfileStore.afterWrite
  cases s.store.underWay with
  | nothing => exact State.commitIfSettled_resting resting
  | reset => exact State.commitIfDirty_resting resting
  | factoryClear day stage => cases stage <;> rfl

theorem exec_writeAttemptEnd_writing (writing : s.store.state = .writing) (verified : Bool) :
    exec (.writeAttemptEnd verified) s = .next (s.endAttempt verified) := by
  rw [exec_writeAttemptEnd, execWriteAttemptEnd, onOccasion_due (beq_iff_eq.mpr writing)]

theorem State.endAttempt_verified (s : State) :
    s.endAttempt true = s.withStore (s.store.writeSucceeds.afterWrite s.storedContent) :=
  State.afterWrite_eq (s := s.withStore s.store.writeSucceeds) (.inl rfl)

theorem State.endAttempt_retry (first : s.store.attempt = some .first) :
    s.endAttempt false = s.withStore { s.store with attempt := some .retry } := by
  rw [State.endAttempt, if_neg Bool.false_ne_true, if_pos first]

theorem State.endAttempt_fails (again : s.store.attempt = some .retry) :
    s.endAttempt false =
      (s.withStore (s.store.writeFails.afterWrite s.storedContent)).sendAll [.notice .store .store .every 0] := by
  have notFirst : ¬ s.store.attempt = some .first := by rw [again]; decide
  rw [State.endAttempt, if_neg Bool.false_ne_true, if_neg notFirst, State.raise_eq]
  exact State.afterWrite_eq (s := (s.withStore s.store.writeFails).sendAll [.notice .store .store .every 0]) (.inr rfl)

theorem ProfileStore.writeSucceeds_eq {u : ProfileStore} {i : Image} (writing : u.snapshot = some i) :
    u.writeSucceeds = { u with
      state := .idle, snapshot := none, attempt := none, writeFailed := false, image := .whole i } := by
  rw [ProfileStore.writeSucceeds, writing]

/-- R185: what is left of the image when the write of the snapshot i has failed twice. -/
def imageAfterFailure (i : Image) (u : ProfileStore) : Nonvolatile :=
  match u.underWay with
  | .factoryClear _ .writing => .factoryFailed i
  | _ => u.image

theorem ProfileStore.writeFails_eq {u : ProfileStore} {i : Image} (writing : u.snapshot = some i) :
    u.writeFails = { u with
      state := .failed, snapshot := none, attempt := none, writeFailed := true, image := imageAfterFailure i u } := by
  have left : u.imageLeft = imageAfterFailure i u := by
    unfold ProfileStore.imageLeft imageAfterFailure
    rw [writing]
    cases u.underWay with
    | factoryClear day stage => cases stage <;> rfl
    | nothing | reset => rfl
  rw [ProfileStore.writeFails, left]

/-- Settles O49: the attempt by its outcome and number, and what follows by the reset under way. -/
theorem writeAttemptsEndIdleRetriedOrFailed : Obligations.WriteAttemptsEndIdleRetriedOrFailed := by
  intro i s writing snapshot
  refine ⟨?verified, fun first => ?first, fun again => ?again⟩
  case verified =>
    rw [exec_writeAttemptEnd_writing writing, State.endAttempt_verified, ProfileStore.writeSucceeds_eq snapshot]
    rfl
  case first => rw [exec_writeAttemptEnd_writing writing, State.endAttempt_retry first]
  case again =>
    rw [exec_writeAttemptEnd_writing writing, State.endAttempt_fails again, ProfileStore.writeFails_eq snapshot]
    rfl

/-! ### SOFT_RESET and FACTORY_CLEAR (R184, R185) -/

theorem exec_softReset_taken {rest : List Instr} (taken : takeFrom .softReset s.transit = some rest) :
    exec .softReset s = .next (s.withTransit rest).takeSoftReset := by
  rw [exec_softReset, execSoftReset, onMessage_taken taken]

theorem State.takeSoftReset_commits (unsaved : s.store.state = .failed ∨ (s.store.state = .idle ∧ s.store.dirty = true)) :
    s.takeSoftReset = (s.withStore { s.store with underWay := .reset, settle := none }).beginCommit := by
  unfold State.takeSoftReset
  by_cases failed : s.store.state = .failed
  · exact if_pos failed
  · obtain ⟨idle, dirty⟩ := unsaved.resolve_left failed
    exact (if_neg failed).trans (State.commitIfDirty_dirty (.inl idle) dirty)

theorem State.takeSoftReset_waits
    (saved : (s.store.state = .idle ∧ s.store.dirty = false) ∨ s.store.state = .writing) :
    s.takeSoftReset = s.withStore { s.store with underWay := .reset, settle := none } := by
  unfold State.takeSoftReset
  rcases saved with ⟨idle, clean⟩ | writing
  · have sound : ¬ s.store.state = .failed := by rw [idle]; exact StoreState.noConfusion
    exact (if_neg sound).trans (State.commitIfDirty_clean clean)
  · have sound : ¬ s.store.state = .failed := by rw [writing]; exact StoreState.noConfusion
    exact (if_neg sound).trans (State.commitIfDirty_busy (.inl writing))

/-- The store as an accepted FACTORY_CLEAR leaves it. -/
def ProfileStore.clearing (day : Nat) (w : ProfileStore) : ProfileStore :=
  let t := { w with settle := none, rolloverUnsaved := false }
  if w.resting then { t with underWay := .factoryClear day .writing }.beginWrite (sealed (factoryContent day))
  else { t with underWay := .factoryClear day .waiting }

theorem ProfileStore.clearing_resting {w : ProfileStore} (day : Nat) (resting : w.resting = true) :
    w.clearing day = { w with settle := none, rolloverUnsaved := false, underWay := .factoryClear day .writing }.beginWrite
      (sealed (factoryContent day)) := if_pos resting

theorem ProfileStore.clearing_busy {w : ProfileStore} (day : Nat) (busy : w.resting = false) :
    w.clearing day = { w with
      settle := none, rolloverUnsaved := false, underWay := .factoryClear day .waiting } := by
  unfold clearing
  rw [busy, if_neg Bool.false_ne_true]

/-- FACTORY_CLEAR drops the marks of a rollover and the settle timer, and leaves what is dirty. -/
theorem ProfileStore.clearing_flags (day : Nat) (w : ProfileStore) :
    (w.clearing day).settle = none ∧ (w.clearing day).rolloverUnsaved = false ∧ (w.clearing day).dirty = w.dirty := by
  cases resting : w.resting with
  | true => rw [clearing_resting day resting]; exact ⟨rfl, rfl, rfl⟩
  | false => rw [clearing_busy day resting]; exact ⟨rfl, rfl, rfl⟩

theorem ManagementPort.fallSilent_idle (u : ManagementPort) : busRole u.fallSilent.bus = none := by
  obtain ⟨_, _, _, _, idle, busy⟩ := u.fallSilent_spec
  cases role : busRole u.bus with
  | none => rw [(idle role).1, role]
  | some q => rw [(busy q role).1]; rfl

theorem exec_factoryClear_authorised (taken : s.handed r (.factoryClear r) = true) (authority : s.authority r ≠ none) :
    exec (.factoryClear r) s = .next ((s.withStore (s.store.clearing s.metering.accountDay)).withPort
      { s.port.fallSilent with exchanges := s.port.fallSilent.exchanges.set r (.inFlight none) }) := by
  obtain ⟨window, granted⟩ := Option.ne_none_iff_exists'.mp authority
  rw [exec_factoryClear, execFactoryClear]
  refine (onResetRequest_handed taken _ ?unanswered).trans ?cleared
  case unanswered => simp only [granted]
  case cleared => simp only [granted]; rfl

/-- Settles O50: SOFT_RESET by the state of the store, FACTORY_CLEAR by whether a write is under way. -/
theorem softResetsWriteBeforeTheyLoad : Obligations.SoftResetsWriteBeforeTheyLoad := by
  refine ⟨fun rest s taken => ⟨fun unsaved => ?_, fun saved => ?_⟩, fun r s taken authority => ?_⟩
  · exact (exec_softReset_taken taken).trans (congrArg _ (State.takeSoftReset_commits unsaved))
  · exact (exec_softReset_taken taken).trans (congrArg _ (State.takeSoftReset_waits saved))
  · obtain ⟨silent, exchanges, _⟩ := s.port.fallSilent_spec
    obtain ⟨settle, rollover, dirty⟩ := s.store.clearing_flags s.metering.accountDay
    refine ⟨s.store.clearing s.metering.accountDay, _, exec_factoryClear_authorised taken authority, silent,
      congrArg (fun e => e.set r (.inFlight none)) exchanges, s.port.fallSilent_idle, settle, rollover, dirty,
      fun resting => ?_, fun writing => ?_⟩
    · rw [ProfileStore.clearing_resting _ (ProfileStore.resting_iff.mpr resting)]
      exact ⟨rfl, rfl, rfl, rfl, rfl⟩
    · rw [ProfileStore.clearing_busy _ (ProfileStore.not_resting (.inl writing))]
      exact ⟨rfl, writing, rfl, rfl⟩

variable {s t : State} {u given : MeteringUnit} {p : Slot} {a : Account} {i : Instr} {hard : Bool}

/-! ### Accounts as a load begins (R30, R33, R42) -/

/-- The pass list that a load begins with. -/
def noPasses : PassList := { held := [], nextId := 1 }

theorem loadDayKindChange_same (same : u.today = given.today) : loadDayKindChange u given = given := by
  rw [loadDayKindChange, dayKindChange_same same]

theorem loadDayKindChange_moved (moved : u.today ≠ given.today) :
    loadDayKindChange u given = (evaluateCurfew noPasses slots (reassessAll u given).unit).unit := by
  unfold loadDayKindChange noPasses
  rw [dayKindChange_moved moved]

theorem loadDayKindChange_only (u given : MeteringUnit) : given.onlyAccounts (loadDayKindChange u given) := by
  by_cases same : u.today = given.today
  · rw [loadDayKindChange_same same]
    exact MeteringUnit.onlyAccounts_refl given
  · obtain ⟨reassessed, -⟩ := reassessAll_spec u given
    obtain ⟨evaluated, -⟩ := evaluateCurfew_spec noPasses slots_nodup (reassessAll u given).unit
    rw [loadDayKindChange_moved same]
    exact MeteringUnit.onlyAccounts_trans reassessed evaluated

theorem loadDayKindChange_missing (accounts : given.accounts = u.accounts) (missing : u.accounts[p] = none) :
    (loadDayKindChange u given).accounts[p] = none := by
  by_cases same : u.today = given.today
  · rw [loadDayKindChange_same same, accounts, missing]
  · obtain ⟨-, reassessed, -⟩ := reassessAll_spec u given
    obtain ⟨-, evaluated, -⟩ := evaluateCurfew_spec noPasses slots_nodup (reassessAll u given).unit
    rw [loadDayKindChange_moved same, evaluated p, reassessed p, accounts, missing, Option.map_none, Option.map_none,
      ite_self]

/-- What the change of today's kind that a load may begin with makes of one account. -/
theorem loadDayKindChange_account (accounts : given.accounts = u.accounts) (held : u.accounts[p] = some a) :
    ∃ b : Account, (loadDayKindChange u given).accounts[p] = some b ∧ b.terms = a.terms ∧ b.bonus = a.bonus ∧
      b.used = a.used ∧ b.overrun = a.overrun ∧ b.curfewWarned = a.curfewWarned ∧
      (b.warned = true ↔
        a.warned = true ∧ (given.today = u.today ∨ a.remaining given.today ≤ a.terms.lead * 60)) ∧
      (given.today = u.today ∨ given.running = false → b.curfew = a.curfew) ∧
      (given.today ≠ u.today → given.running = true →
        (b.curfew = .inside ↔ insideCurfew noPasses given p a = true)) := by
  have given_held : given.accounts[p] = some a := accounts ▸ held
  by_cases same : u.today = given.today
  · rw [loadDayKindChange_same same]
    exact ⟨a, given_held, rfl, rfl, rfl, rfl, rfl, ⟨fun warned => ⟨warned, .inl same.symm⟩, And.left⟩, fun _ => rfl,
      fun moved => absurd same.symm moved⟩
  have moved : ¬ given.today = u.today := fun h => same h.symm
  obtain ⟨only, reassessed, -, -⟩ := reassessAll_spec u given
  obtain ⟨running, -⟩ := MeteringUnit.onlyAccounts_frame only
  have account := reassessed p
  rw [given_held, Option.map_some, reassessFrom_held held, reassess_own] at account
  have evaluated := evaluateCurfew_account (l := noPasses) account
  have warned : (a.warned && decide (a.remaining given.today ≤ a.terms.lead * 60)) = true ↔
      a.warned = true ∧ (given.today = u.today ∨ a.remaining given.today ≤ a.terms.lead * 60) := by
    rw [Bool.and_eq_true, decide_eq_true_iff, or_iff_right moved]
  rw [loadDayKindChange_moved same]
  refine ⟨_, evaluated, ?_⟩
  rw [running]
  generalize reassessAll u given = m at *
  cases runs : given.running with
  | false => exact ⟨rfl, rfl, rfl, rfl, rfl, warned, fun _ => rfl, fun _ => Bool.noConfusion⟩
  | true =>
    refine ⟨rfl, rfl, rfl, rfl, rfl, warned, fun kept => ?_, fun _ _ => ?_⟩
    · exact absurd kept (not_or_intro moved Bool.noConfusion)
    · exact evaluated_inside_iff.trans (Bool.eq_iff_iff.mp
        ((insideCurfew_congr (by rfl) _ _ _).trans (insideCurfew_onlyAccounts only _ _ _)))

theorem MeteringUnit.curfewsOut_account (u : MeteringUnit) (p : Slot) :
    u.curfewsOut.accounts[p] = u.accounts[p].map fun x => { x with curfew := .outside } := by
  simp [MeteringUnit.curfewsOut]

theorem MeteringUnit.curfewsOut_only (u : MeteringUnit) : u.onlyAccounts u.curfewsOut := rfl

/-! ### The metering unit as a load begins (R181, Table 2-6) -/

/-- The metering unit as a load begins. -/
def MeteringUnit.begun (u : MeteringUnit) (hard : Bool) : MeteringUnit :=
  if hard then u.hardLoadBegins else u.softLoadBegins

/-- The registers as a load begins, before the change of today's kind that this may be. -/
def MeteringUnit.cleared (u : MeteringUnit) (hard : Bool) : MeteringUnit :=
  if hard then { u.loadBegins with running := false, second := 0, weekday := 0, trim := 0 } else u.loadBegins

theorem MeteringUnit.begun_hard (u : MeteringUnit) : u.begun true = (loadDayKindChange u (u.cleared true)).curfewsOut := rfl

theorem MeteringUnit.begun_soft (u : MeteringUnit) : u.begun false = loadDayKindChange u (u.cleared false) := rfl

theorem MeteringUnit.cleared_accounts (u : MeteringUnit) (hard : Bool) : (u.cleared hard).accounts = u.accounts := by
  cases hard <;> rfl

theorem MeteringUnit.begun_only (u : MeteringUnit) (hard : Bool) : (u.cleared hard).onlyAccounts (u.begun hard) := by
  cases hard with
  | true =>
    rw [begun_hard]
    exact MeteringUnit.onlyAccounts_trans (loadDayKindChange_only u _) (MeteringUnit.curfewsOut_only _)
  | false => exact loadDayKindChange_only u (u.cleared false)

/-- What every beginning of a load keeps and clears of the metering unit but its accounts. -/
theorem MeteringUnit.begun_frame (u : MeteringUnit) (hard : Bool) :
    (u.begun hard).override = none ∧ (∀ n : ScreenNo, (u.begun hard).charges[n].kind = .nothing) ∧
      (u.begun hard).plan = u.plan ∧ (u.begun hard).accountDay = u.accountDay ∧
      (hard = true → (u.begun hard).running = false ∧ (u.begun hard).second = 0 ∧ (u.begun hard).weekday = 0 ∧
        (u.begun hard).trim = 0) ∧
      (hard = false → (u.begun hard).running = u.running ∧ (u.begun hard).day = u.day ∧
        (u.begun hard).second = u.second ∧ (u.begun hard).weekday = u.weekday ∧ (u.begun hard).trim = u.trim ∧
        (u.begun hard).yesterday = u.yesterday) := by
  obtain ⟨running, day, second, weekday, trim, plan, override, yesterday, accountDay, charges, -, -⟩ :=
    MeteringUnit.onlyAccounts_frame (u.begun_only hard)
  rw [running, day, second, weekday, trim, plan, override, yesterday, accountDay, charges]
  have empty : (u.cleared hard).charges = Vector.replicate 4 { profile := 0, kind := .nothing } := by cases hard <;> rfl
  rw [empty]
  have idle : ∀ n : ScreenNo,
      (Vector.replicate 4 ({ profile := 0, kind := .nothing } : ChargeEntry))[n].kind = .nothing := by simp
  cases hard with
  | true => exact ⟨rfl, idle, rfl, rfl, fun _ => ⟨rfl, rfl, rfl, rfl⟩, Bool.noConfusion⟩
  | false => exact ⟨rfl, idle, rfl, rfl, Bool.noConfusion, fun _ => ⟨rfl, rfl, rfl, rfl, rfl, rfl⟩⟩

theorem MeteringUnit.begun_missing (hard : Bool) (missing : u.accounts[p] = none) : (u.begun hard).accounts[p] = none := by
  have dropped := loadDayKindChange_missing (u.cleared_accounts hard) missing
  cases hard with
  | true => rw [begun_hard, curfewsOut_account, dropped, Option.map_none]
  | false => exact dropped

/-- What the beginning of a load makes of one account. -/
theorem MeteringUnit.begun_account (hard : Bool) (held : u.accounts[p] = some a) :
    ∃ b : Account, (u.begun hard).accounts[p] = some b ∧ b.terms = a.terms ∧ b.bonus = a.bonus ∧ b.used = a.used ∧
      b.overrun = a.overrun ∧ b.curfewWarned = a.curfewWarned ∧
      (b.warned = true ↔ a.warned = true ∧ ((u.begun hard).today = u.today ∨
        a.remaining (u.begun hard).today ≤ a.terms.lead * 60)) ∧
      (hard = true → b.curfew = .outside) ∧
      (hard = false → (u.begun hard).today = u.today ∨ u.running = false → b.curfew = a.curfew) ∧
      (hard = false → (u.begun hard).today ≠ u.today → u.running = true →
        (b.curfew = .inside ↔ insideCurfew noPasses (u.begun hard) p a = true)) := by
  have only := u.begun_only hard
  obtain ⟨-, -, -, -, -, -, -, -, -, -, today, -⟩ := MeteringUnit.onlyAccounts_frame only
  have inside : insideCurfew noPasses (u.begun hard) p a = insideCurfew noPasses (u.cleared hard) p a :=
    insideCurfew_onlyAccounts only _ _ _
  obtain ⟨b, holds, terms, bonus, used, overrun, flags, warned, kept, moved⟩ :=
    loadDayKindChange_account (u.cleared_accounts hard) held
  rw [today, inside]
  cases hard with
  | true =>
    refine ⟨{ b with curfew := .outside }, ?_, terms, bonus, used, overrun, flags, warned, fun _ => rfl, Bool.noConfusion,
      Bool.noConfusion⟩
    rw [begun_hard, curfewsOut_account, holds, Option.map_some]
  | false =>
    exact ⟨b, holds, terms, bonus, used, overrun, flags, warned, Bool.noConfusion, fun _ => kept, fun _ => moved⟩

/-! ### The beginning of a load (R181) -/

/-- The part as a load begins, hard at power-on and RESET_N, soft otherwise. -/
def State.begun (s : State) (hard : Bool) (base : Nat) (power held : Bool) : State :=
  (((((s.loadBegins base hard).withMetering (s.metering.begun hard)).withTransit
    (if hard then [] else s.transit.filter toStore)).withRef
    (if hard then { phase := 0, length := 32768, ticksDue := 0 } else s.ref)).withPower power).withResetHeld held

theorem State.hardLoadBegins_eq (s : State) (base : Nat) (power held : Bool) :
    s.begun true base power held = ((s.hardLoadBegins base).withPower power).withResetHeld held := by
  simp only [State.begun, State.hardLoadBegins, MeteringUnit.begun, if_true]

theorem State.softLoadBegins_eq (s : State) (straps : BitVec 2) :
    s.begun false (strapBase straps) s.power s.resetHeld = s.softLoadBegins straps := by
  obtain ⟨ref, power, held⟩ : (s.softLoadBegins straps).ref = s.ref ∧ (s.softLoadBegins straps).power = s.power ∧
      (s.softLoadBegins straps).resetHeld = s.resetHeld := by
    simp [State.softLoadBegins, State.loadBegins]
  have written : s.begun false (strapBase straps) s.power s.resetHeld =
      (((s.softLoadBegins straps).withRef s.ref).withPower s.power).withResetHeld s.resetHeld := by
    simp only [State.begun, State.softLoadBegins, MeteringUnit.begun, Bool.false_eq_true, if_false]
  rw [written, ← ref, ← power, ← held]
  rfl

theorem State.hardLoadBegins_supply (s : State) (base : Nat) :
    (s.hardLoadBegins base).power = s.power ∧ (s.hardLoadBegins base).resetHeld = s.resetHeld := by
  simp [State.hardLoadBegins, State.loadBegins]

theorem exec_powerOn (straps : BitVec 2) (s : State) :
    exec (.powerOn straps) s = .next (s.begun true (strapBase straps) true s.resetHeld) := by
  have taken : exec (.powerOn straps) s = .next ((s.hardLoadBegins (strapBase straps)).withPower true) := rfl
  rw [taken, State.hardLoadBegins_eq, ← (s.hardLoadBegins_supply (strapBase straps)).2]
  rfl

theorem exec_resetNAssert (s : State) : exec .resetNAssert s = .next (s.begun true s.port.base s.power true) := by
  have taken : exec .resetNAssert s = .next ((s.hardLoadBegins s.port.base).withResetHeld true) := rfl
  rw [taken, State.hardLoadBegins_eq, ← (s.hardLoadBegins_supply s.port.base).1]
  rfl

theorem exec_powerLoss (s : State) : exec .powerLoss s = .next (s.begun true s.port.base false s.resetHeld) := by
  have taken : exec .powerLoss s = .next ((s.hardLoadBegins s.port.base).withPower false) := rfl
  rw [taken, State.hardLoadBegins_eq, ← (s.hardLoadBegins_supply s.port.base).2]
  rfl

theorem exec_resetNRelease_held (held : s.resetHeld = true) (straps : BitVec 2) :
    exec (.resetNRelease straps) s = .next (s.begun true (strapBase straps) s.power false) := by
  have taken : exec (.resetNRelease straps) s = execResetNRelease straps s := rfl
  rw [taken, execResetNRelease, onOccasion_due held, State.hardLoadBegins_eq,
    ← (s.hardLoadBegins_supply (strapBase straps)).1]
  rfl

theorem exec_loadBegin_ready (awake : s.awake = true) (ready : s.store.readyToLoad = true) (straps : BitVec 2) :
    exec (.loadBegin straps) s = .next (s.begun false (strapBase straps) s.power s.resetHeld) := by
  have taken : exec (.loadBegin straps) s = execLoadBegin straps s := rfl
  rw [taken, execLoadBegin, onOccasion_due (by rw [awake, ready]; rfl), State.softLoadBegins_eq]

/-- The blocks as a load begins. -/
theorem State.begun_blocks (s : State) (hard : Bool) (base : Nat) (power held : Bool) :
    (s.begun hard base power held).metering = s.metering.begun hard ∧
    (s.begun hard base power held).ref =
      (if hard then { phase := 0, length := 32768, ticksDue := 0 } else s.ref) ∧
    (s.begun hard base power held).profiles = s.profiles.loadBegins ∧
    (s.begun hard base power held).screens = s.screens.loadBegins ∧
    (s.begun hard base power held).passes = noPasses ∧
    (s.begun hard base power held).receiver = .cleared false false ∧
    (s.begun hard base power held).cache = .empty ∧
    (s.begun hard base power held).port = .silenced base ∧
    (s.begun hard base power held).signal = s.signal.loadBegins ∧
    (s.begun hard base power held).store = s.store.loadBegins hard := by
  simp [State.begun, State.loadBegins, noPasses]

theorem State.begun_supply (s : State) (hard : Bool) (base : Nat) (power held : Bool) :
    (s.begun hard base power held).power = power ∧ (s.begun hard base power held).resetHeld = held := by
  simp [State.begun]

/-- R184, R185: the store is ready once the soft reset's last write has ended. -/
theorem ProfileStore.readyToLoad_of {w : ProfileStore}
    (ended : (w.underWay = .reset ∧ (w.state = .idle ∨ w.state = .failed) ∧ w.dirty = false) ∨
      ∃ d : Nat, w.underWay = .factoryClear d .written) : w.readyToLoad = true := by
  unfold ProfileStore.readyToLoad
  rcases ended with ⟨reset, resting, clean⟩ | ⟨d, written⟩
  · rw [reset, clean]
    exact Bool.and_eq_true_iff.mpr ⟨ProfileStore.resting_iff.mpr resting, rfl⟩
  · rw [written]
    rfl

/-- The commands that begin a load, with the moment at which each does. -/
def beginsLoad (i : Instr) (hard : Bool) (s : State) : Prop :=
  (∃ straps : BitVec 2, i = .powerOn straps ∧ hard = true) ∨ (i = .resetNAssert ∧ hard = true) ∨
  (∃ straps : BitVec 2, i = .resetNRelease straps ∧ s.resetHeld = true ∧ hard = true) ∨
  (i = .powerLoss ∧ hard = true) ∨
  (∃ straps : BitVec 2, i = .loadBegin straps ∧ hard = false ∧ s.awake = true ∧
    ((s.store.underWay = .reset ∧ (s.store.state = .idle ∨ s.store.state = .failed) ∧ s.store.dirty = false) ∨
      ∃ d : Nat, s.store.underWay = .factoryClear d .written))

theorem exec_beginsLoad (begins : beginsLoad i hard s) :
    ∃ (base : Nat) (power held : Bool), exec i s = .next (s.begun hard base power held) ∧
      (∀ straps : BitVec 2, i = .powerOn straps ∨ i = .resetNRelease straps ∨ i = .loadBegin straps →
        base = 0x30 + 4 * straps.toNat) ∧
      (i = .powerLoss → power = false) ∧ (i = .resetNAssert → held = true) ∧
      ((∃ straps : BitVec 2, i = .resetNRelease straps) → held = false) ∧
      ((∃ straps : BitVec 2, i = .powerOn straps) → power = true) := by
  rcases begins with ⟨straps, rfl, rfl⟩ | ⟨rfl, rfl⟩ | ⟨straps, rfl, release, rfl⟩ | ⟨rfl, rfl⟩ |
    ⟨straps, rfl, rfl, awake, ended⟩
  · refine ⟨_, _, _, exec_powerOn straps s, ?_⟩
    simp [strapBase]
  · refine ⟨_, _, _, exec_resetNAssert s, ?_⟩
    simp
  · refine ⟨_, _, _, exec_resetNRelease_held release straps, ?_⟩
    simp [strapBase]
  · refine ⟨_, _, _, exec_powerLoss s, ?_⟩
    simp
  · refine ⟨_, _, _, exec_loadBegin_ready awake (ProfileStore.readyToLoad_of ended) straps, ?_⟩
    simp [strapBase]

theorem State.alert_of_loading (loading : s.store.state = .loading) (r : Role) : s.alert r = false :=
  Bool.eq_false_of_not_eq_true fun alert => (s.alert_iff r).mp alert |>.1 loading

theorem State.exchange_silenced {base : Nat} (port : t.port = .silenced base) (r : Role) : t.exchange r = .noResponse := by
  rw [State.exchange, port]
  exact PerRole.get_same _ r

theorem State.gate_dark {n : ScreenNo} {kind : ScreenKind} {wait : Nat} (dark : t.screens.cells[n] = .dark kind wait) :
    t.gate n = false := by
  rw [State.gate, dark]
  rfl

/-- Settles O51: every beginning of a load is the same but for the clock; the blocks' clearing, then the accounts. -/
theorem loadsBeginWithVolatileStateCleared : Obligations.LoadsBeginWithVolatileStateCleared := by
  intro i hard s begins
  obtain ⟨base, power, held, executed, straps, lost, asserted, released, valid⟩ := exec_beginsLoad begins
  obtain ⟨override, charges, plan, accountDay, hardClock, softClock⟩ := s.metering.begun_frame hard
  have missing := fun p => MeteringUnit.begun_missing (u := s.metering) (p := p) hard
  have account := fun p a => MeteringUnit.begun_account (u := s.metering) (p := p) (a := a) hard
  have cells := s.screens.loadBegins_cell
  obtain ⟨metering, ref, profiles, screens, passes, receiver, cache, port, signal, store⟩ :=
    s.begun_blocks hard base power held
  obtain ⟨powered, heldNow⟩ := s.begun_supply hard base power held
  generalize s.begun hard base power held = t at *
  rw [← metering] at override charges plan accountDay hardClock softClock missing account
  rw [← passes] at account
  rw [← screens] at cells
  refine ⟨t, executed, ?base, fun h => powered.trans (lost h), fun h => heldNow.trans (asserted h),
    fun h => heldNow.trans (released h), fun h => powered.trans (valid h), ?table, ?maps, ?household, ?lockouts, ?roles,
    override, charges, plan, accountDay, fun p => ⟨missing p, account p⟩, ?hard, ?soft,
    fun n => ⟨cells n, State.gate_dark (cells n)⟩, ?requested, passes, receiver, cache, ?silent, ?bus, ?store⟩
  case base => rw [port]; exact straps
  case table => rw [profiles]; rfl
  case maps => rw [profiles]; rfl
  case household => rw [profiles]; rfl
  case lockouts =>
    rw [profiles]
    exact fun p => ⟨Vector.getElem_replicate _, Vector.getElem_replicate _⟩
  case roles =>
    refine fun r => ⟨?_, State.exchange_silenced port r, ?_⟩
    · rw [profiles]
      exact PerRole.get_same _ r
    · rw [port, signal]
      exact ⟨PerRole.get_same _ r, PerRole.get_same _ r, PerRole.get_same _ r, PerRole.get_same _ r, PerRole.get_same _ r⟩
  case hard =>
    rintro rfl
    obtain ⟨running, second, weekday, trim⟩ := hardClock rfl
    exact ⟨running, second, weekday, trim, ref⟩
  case soft =>
    rintro rfl
    obtain ⟨running, day, second, weekday, trim, yesterday⟩ := softClock rfl
    exact ⟨running, day, second, weekday, trim, yesterday, ref⟩
  case requested => rw [screens]; rfl
  case silent => rw [port]; rfl
  case bus => rw [port]; rfl
  case store =>
    have loading : t.store.state = .loading := by rw [store]; rfl
    rw [store]
    exact ⟨rfl, rfl, rfl, rfl, rfl, rfl, fun r => State.alert_of_loading loading r⟩

variable {s t : State} {u : MeteringUnit} {p : Slot} {c : Content} {lost : Bool} {i : Image}

/-! ### Judging the image (R182, R185) -/

theorem judged_valid_image (valid : imageValid i = true) : judged (some i) = (i.content, false) := if_pos valid

theorem judged_invalid_image (invalid : imageValid i = false) : judged (some i) = (factoryContent 0, true) := by
  rw [judged, invalid, if_neg Bool.false_ne_true]

/-- What is judged, by whether it is lost. -/
theorem judged_cases (v : Option Image) :
    (∃ i, v = some i ∧ imageValid i = true ∧ judged v = (i.content, false)) ∨
      ((∀ i, v = some i → imageValid i = false) ∧ judged v = (factoryContent 0, true)) := by
  cases v with
  | none => exact .inr ⟨fun i read => (by cases read), rfl⟩
  | some i =>
    cases valid : imageValid i with
    | true => exact .inl ⟨i, rfl, valid, judged_valid_image valid⟩
    | false => exact .inr ⟨fun j same => by cases same; exact valid, judged_invalid_image valid⟩

/-- An image that no write has verified reads as whole from now on when it was found valid, and as lost otherwise. -/
theorem imageAfterReading_unverified {v : Nonvolatile} (unsure : unverified v = true) (n : Nat) :
    (∀ i, imageRead v n = some i → imageValid i = true → imageAfterReading v n = .whole i) ∧
      ((∀ i, imageRead v n = some i → imageValid i = false) → imageAfterReading v n = .lost) := by
  unfold imageAfterReading
  rw [if_pos unsure]
  refine ⟨fun i read valid => ?_, fun invalid => ?_⟩
  · rw [read]
    exact if_pos valid
  · cases read : imageRead v n with
    | none => rfl
    | some i =>
      have damaged : ¬ imageValid i = true := by rw [invalid i read]; exact Bool.false_ne_true
      exact if_neg damaged

theorem imageAfterReading_verified {v : Nonvolatile} (sure : unverified v = false) (n : Nat) : imageAfterReading v n = v := by
  rw [imageAfterReading, sure, if_neg Bool.false_ne_true]

/-- A content that was not found lost stands in the image from now on. -/
theorem imageAfterReading_kept {v : Nonvolatile} {n : Nat} (read : imageRead v n = some i) (valid : imageValid i = true) :
    imageAfterReading v n = .whole i := by
  cases unsure : unverified v with
  | true => exact (imageAfterReading_unverified unsure n).1 i read valid
  | false =>
    rw [imageAfterReading_verified unsure]
    cases v with
    | whole j => cases read; rfl
    | blank | lost => cases read
    | torn | factoryFailed => cases unsure

/-- What was found lost is nothing, or nothing that is valid. -/
theorem imageAfterReading_lost {v : Nonvolatile} {n : Nat} (invalid : ∀ i, imageRead v n = some i → imageValid i = false) :
    imageAfterReading v n = .blank ∨ imageAfterReading v n = .lost ∨
      ∃ i : Image, imageAfterReading v n = .whole i ∧ imageValid i = false := by
  cases unsure : unverified v with
  | true => exact .inr (.inl ((imageAfterReading_unverified unsure n).2 invalid))
  | false =>
    rw [imageAfterReading_verified unsure]
    cases v with
    | whole j => exact .inr (.inr ⟨j, rfl, invalid j rfl⟩)
    | blank => exact .inl rfl
    | lost => exact .inr (.inl rfl)
    | torn | factoryFailed => cases unsure

/-- The image that a load leaves, by its verdict on what it read. -/
theorem imageAfterReading_judged {v : Nonvolatile} {n : Nat} (verdict : judged (imageRead v n) = (c, lost)) :
    (lost = false → ∃ i : Image, imageAfterReading v n = .whole i ∧ imageValid i = true ∧ i.content = c) ∧
      (lost = true → imageAfterReading v n = .blank ∨ imageAfterReading v n = .lost ∨
        ∃ i : Image, imageAfterReading v n = .whole i ∧ imageValid i = false) := by
  rcases judged_cases (imageRead v n) with ⟨i, read, valid, found⟩ | ⟨invalid, found⟩
  · cases verdict.symm.trans found
    exact ⟨fun _ => ⟨i, imageAfterReading_kept read valid, valid, rfl⟩, Bool.noConfusion⟩
  · cases verdict.symm.trans found
    exact ⟨Bool.noConfusion, fun _ => imageAfterReading_lost invalid⟩

/-- An invalid image, or none, is found lost. -/
theorem judged_of_unreadable {v : Nonvolatile} (n : Nat)
    (unreadable : v = .blank ∨ v = .lost ∨
      ∃ i : Image, (v = .whole i ∨ v = .factoryFailed i) ∧ imageValid i = false) :
    judged (imageRead v n) = (factoryContent 0, true) := by
  rcases unreadable with rfl | rfl | ⟨i, rfl | rfl, invalid⟩
  · rfl
  · rfl
  · exact judged_invalid_image invalid
  · unfold imageRead
    dsimp only
    split
    · exact judged_invalid_image invalid
    · rfl

/-- A valid factory image whose write failed twice is found, or found lost. -/
theorem judged_factoryFailed (n : Nat) (valid : imageValid i = true) :
    judged (imageRead (.factoryFailed i) n) = (i.content, false) ∨
      judged (imageRead (.factoryFailed i) n) = (factoryContent 0, true) := by
  unfold imageRead
  dsimp only
  split
  · exact .inl (judged_valid_image valid)
  · exact .inr rfl

/-! ### The metering unit at the end of a load (R183) -/

/-- The metering unit that a content, the rollovers since and the passes give. -/
def MeteringUnit.resumed (u : MeteringUnit) (c : Content) (hard unsaved : Bool) (l : PassList) : MeteringUnit :=
  (((u.loaded c hard).rolledOver unsaved).reassessed).curfewsSet l

theorem MeteringUnit.rolledOver_unsaved (u : MeteringUnit) : u.rolledOver true = u.startDay u.day := if_pos rfl

theorem MeteringUnit.reassessed_eq (u : MeteringUnit) : u.reassessed = (reassessAll u u).unit := by unfold reassessed; rfl

theorem MeteringUnit.curfewsSet_eq (u : MeteringUnit) (l : PassList) : u.curfewsSet l = (evaluateCurfew l slots u).unit := by
  unfold curfewsSet
  rfl

theorem MeteringUnit.rolledOver_frame (u : MeteringUnit) (unsaved : Bool) :
    u.rolledOver unsaved = { u with
      accountDay := if unsaved then u.day else u.accountDay, accounts := (u.rolledOver unsaved).accounts } := by
  cases unsaved with
  | true =>
    rw [rolledOver_unsaved]
    exact (MeteringUnit.startDay_spec u u.day).1
  | false => rfl

theorem MeteringUnit.rolledOver_accounts (u : MeteringUnit) (unsaved : Bool) (p : Slot) :
    (u.rolledOver unsaved).accounts[p] = u.accounts[p].map (dayAccount (unsaved = true)) := by
  cases unsaved with
  | true =>
    have emptyAll : dayAccount (true = true) = emptied := funext fun a => if_pos rfl
    rw [emptyAll, rolledOver_unsaved]
    exact (MeteringUnit.startDay_spec u u.day).2 p
  | false =>
    have keepAll : dayAccount (false = true) = id := funext fun a => if_neg Bool.false_ne_true
    rw [keepAll, Option.map_id]
    rfl

theorem MeteringUnit.resumed_only (u : MeteringUnit) (c : Content) (hard unsaved : Bool) (l : PassList) :
    ((u.loaded c hard).rolledOver unsaved).onlyAccounts (u.resumed c hard unsaved l) := by
  generalize at_load : (u.loaded c hard).rolledOver unsaved = v
  obtain ⟨reassessed, -⟩ := reassessAll_spec v v
  obtain ⟨evaluated, -⟩ := evaluateCurfew_spec l slots_nodup (reassessAll v v).unit
  rw [resumed, at_load, reassessed_eq, curfewsSet_eq]
  exact MeteringUnit.onlyAccounts_trans reassessed evaluated

/-- What the end of a load makes of the metering unit but its accounts. -/
theorem MeteringUnit.resumed_frame (u : MeteringUnit) (c : Content) (hard unsaved : Bool) (l : PassList) :
    let v := u.resumed c hard unsaved l
    v.plan = c.plan ∧ v.accountDay = (if unsaved then v.day else c.accountDay) ∧
      v.day = (if hard then c.accountDay else u.day) ∧ v.yesterday = (if hard then c.plan[(6 : Fin 7)] else u.yesterday) ∧
      v.running = u.running ∧ v.second = u.second ∧ v.weekday = u.weekday ∧ v.trim = u.trim ∧ v.override = u.override ∧
      v.charges = u.charges := by
  intro v
  obtain ⟨running, day, second, weekday, trim, plan, override, yesterday, accountDay, charges, -, -⟩ :=
    MeteringUnit.onlyAccounts_frame (u.resumed_only c hard unsaved l)
  simp only [v, running, day, second, weekday, trim, plan, override, yesterday, accountDay, charges]
  rw [MeteringUnit.rolledOver_frame]
  exact ⟨rfl, rfl, rfl, rfl, rfl, rfl, rfl, rfl, rfl, rfl⟩

theorem MeteringUnit.loaded_account (u : MeteringUnit) (c : Content) (hard : Bool) (p : Slot) :
    (u.loaded c hard).accounts[p] = accountLoaded c.table[p] c.accounts[p] := by
  simp [MeteringUnit.loaded]

theorem accountLoaded_adult {q : Profile} (adult : childOf q = none) (a : Option StoredAccount) :
    accountLoaded q a = none := by
  simp only [accountLoaded, adult]

/-- The account that a child part and the stored fields give. -/
def accountFilled (k : ChildPart) (a : StoredAccount) : Account where
  terms := termsOf k
  bonus := a.bonus
  used := a.used
  overrun := a.overrun
  warned := a.warned
  curfewWarned := a.curfewWarned
  curfew := .outside

theorem accountLoaded_child {q : Profile} {k : ChildPart} (child : childOf q = some k) (a : StoredAccount) :
    accountLoaded q (some a) = some (accountFilled k a) := by
  simp only [accountLoaded, child, accountFilled]

/-- R30, R33, R42: an account that is reassessed against itself and evaluated for curfew, without messages. -/
theorem MeteringUnit.settled_account {v : MeteringUnit} {b : Account} (l : PassList) (held : v.accounts[p] = some b)
    (outside : b.curfew = .outside) :
    ∃ d : Account, (v.reassessed.curfewsSet l).accounts[p] = some d ∧ d.terms = b.terms ∧ d.bonus = b.bonus ∧
      d.used = b.used ∧ d.overrun = b.overrun ∧ d.curfewWarned = b.curfewWarned ∧
      d.warned = (b.warned && decide (b.remaining v.today ≤ b.terms.lead * 60)) ∧
      (d.curfew = .inside ↔ v.running = true ∧ insideCurfew l v p b = true) := by
  obtain ⟨only, reassessed, -⟩ := reassessAll_spec v v
  obtain ⟨running, -⟩ := MeteringUnit.onlyAccounts_frame only
  have account := reassessed p
  rw [held, Option.map_some, reassessFrom_held held, reassess_own] at account
  have evaluated := evaluateCurfew_account (l := l) account
  rw [curfewsSet_eq, reassessed_eq]
  generalize reassessAll v v = m at *
  refine ⟨_, evaluated, ?_⟩
  rw [running]
  cases v.running with
  | true =>
    refine ⟨rfl, rfl, rfl, rfl, rfl, rfl, ?_⟩
    have inside := (insideCurfew_congr (by rfl) l m.unit p).trans (insideCurfew_onlyAccounts only l p b)
    exact evaluated_inside_iff.trans ((Bool.eq_iff_iff.mp inside).trans (and_iff_right rfl).symm)
  | false =>
    refine ⟨rfl, rfl, rfl, rfl, rfl, rfl, iff_of_false ?_ fun both => Bool.noConfusion both.1⟩
    intro inside
    exact CurfewState.noConfusion (outside.symm.trans inside)

theorem MeteringUnit.settled_missing {v : MeteringUnit} (l : PassList) (missing : v.accounts[p] = none) :
    (v.reassessed.curfewsSet l).accounts[p] = none := by
  obtain ⟨-, reassessed, -⟩ := reassessAll_spec v v
  obtain ⟨-, evaluated, -⟩ := evaluateCurfew_spec l slots_nodup (reassessAll v v).unit
  rw [curfewsSet_eq, reassessed_eq, evaluated p, reassessed p, missing, Option.map_none, Option.map_none, ite_self]

theorem MeteringUnit.resumed_missing {hard unsaved : Bool} {l : PassList} (adult : childOf c.table[p] = none) :
    (u.resumed c hard unsaved l).accounts[p] = none := by
  refine MeteringUnit.settled_missing l ?_
  rw [MeteringUnit.rolledOver_accounts, MeteringUnit.loaded_account, accountLoaded_adult adult, Option.map_none]

/-- R183: a loaded account, and what an unsaved rollover makes of it. -/
theorem MeteringUnit.resumed_account {hard unsaved : Bool} {l : PassList} {k : ChildPart} {a : StoredAccount}
    (child : childOf c.table[p] = some k) (stored : c.accounts[p] = some a) :
    let v := u.resumed c hard unsaved l
    ∃ b : Account, v.accounts[p] = some b ∧ b.terms = termsOf k ∧
      (b.curfew = .inside ↔ v.running = true ∧ insideCurfew l v p b = true) ∧
      (unsaved = false → b.bonus = a.bonus ∧ b.used = a.used ∧ b.overrun = a.overrun ∧
        b.curfewWarned = a.curfewWarned ∧
        (b.warned = true ↔ a.warned = true ∧ b.remaining v.today ≤ k.lead * 60)) ∧
      (unsaved = true → b.bonus = 0 ∧ b.used = 0 ∧ b.overrun = 0 ∧ b.warned = false ∧
        b.curfewWarned = a.curfewWarned.map fun _ => false) := by
  intro v
  have only := u.resumed_only c hard unsaved l
  obtain ⟨running, -, -, -, -, -, -, -, -, -, today, -⟩ := MeteringUnit.onlyAccounts_frame only
  have loaded := (u.loaded c hard).rolledOver_accounts unsaved p
  rw [MeteringUnit.loaded_account, stored, accountLoaded_child child, Option.map_some] at loaded
  have outside : (dayAccount (unsaved = true) (accountFilled k a)).curfew = .outside := by cases unsaved <;> rfl
  have terms : (dayAccount (unsaved = true) (accountFilled k a)).terms = termsOf k := by cases unsaved <;> rfl
  obtain ⟨b, holds, sameTerms, bonus, used, overrun, flags, warned, curfew⟩ :=
    MeteringUnit.settled_account l loaded outside
  have inside : insideCurfew l v p b =
      insideCurfew l ((u.loaded c hard).rolledOver unsaved) p (dayAccount (unsaved = true) (accountFilled k a)) :=
    (insideCurfew_congr sameTerms l v p).trans (insideCurfew_onlyAccounts only l p _)
  refine ⟨b, holds, sameTerms.trans terms, ?_, fun saved => ?_, fun unsaved => ?_⟩
  · rw [curfew, inside, running]
  · subst saved
    refine ⟨bonus, used, overrun, flags, ?_⟩
    rw [Account.remaining_congr sameTerms bonus used, today, warned, Bool.and_eq_true, decide_eq_true_iff]
    rfl
  · subst unsaved
    exact ⟨bonus, used, overrun, warned.trans (Bool.false_and _), flags⟩

/-! ### The end of a load (R183) -/

theorem exec_loadEnd_due (awake : s.awake = true) (loading : s.store.state = .loading) (pins : BitVec 4) :
    exec (.loadEnd pins) s = .next (s.readsImage.loadEnds (judged (imageRead s.store.image s.freeCount)).1
      (judged (imageRead s.store.image s.freeCount)).2 pins) := by
  have taken : exec (.loadEnd pins) s = execLoadEnd pins s := rfl
  have due : (s.awake && s.loading) = true := by rw [awake, State.loading, loading]; rfl
  rw [taken, execLoadEnd, onOccasion_due due]

/-- Reading the image settles it, and nothing else of the blocks. -/
theorem State.readsImage_blocks (s : State) :
    s.readsImage.store = { s.store with image := imageAfterReading s.store.image s.freeCount } ∧
      s.readsImage.metering = s.metering ∧ s.readsImage.passes = s.passes ∧ s.readsImage.cache = s.cache ∧
      s.readsImage.ref = s.ref ∧ s.readsImage.transit = s.transit := by
  unfold State.readsImage
  split
  next => exact ⟨rfl, rfl, rfl, rfl, rfl, rfl⟩
  next sure =>
    rw [imageAfterReading_verified (Bool.eq_false_of_not_eq_true sure)]
    exact ⟨rfl, rfl, rfl, rfl, rfl, rfl⟩

theorem State.loadEnds_others (s : State) (c : Content) (lost : Bool) (pins : BitVec 4) :
    (s.loadEnds c lost pins).passes = s.passes ∧ (s.loadEnds c lost pins).cache = s.cache ∧
      (s.loadEnds c lost pins).transit =
        s.transit ++ (if lost || s.store.writeFailed then [.notice .store .store .every 0] else []) := by
  simp [State.loadEnds, State.raiseIf_eq]

/-- The blocks at the end of a load. -/
theorem State.loadEnd_blocks (s : State) (c : Content) (lost : Bool) (pins : BitVec 4) :
    let t := s.readsImage.loadEnds c lost pins
    t.profiles = s.profiles.loaded c ∧
      t.metering = s.metering.resumed c s.store.hardLoad s.store.rolloverUnsaved s.passes ∧
      t.signal = s.signal.loaded c pins ∧ t.screens = s.screens.loaded c (s.signal.loaded c pins).reported ∧
      t.store = { s.store with image := imageAfterReading s.store.image s.freeCount }.loaded lost ∧
      t.port = { s.port with silent := false, bus := .ignore } ∧ t.ref = s.ref ∧ t.passes = s.passes ∧ t.cache = s.cache ∧
      t.transit = s.transit ++ (if lost || s.store.writeFailed then [.notice .store .store .every 0] else []) := by
  intro t
  obtain ⟨store, metering, passes, cache, ref, transit⟩ := s.readsImage_blocks
  obtain ⟨passes', cache', transit'⟩ := s.readsImage.loadEnds_others c lost pins
  rw [passes] at passes'
  rw [cache] at cache'
  rw [transit, store] at transit'
  refine ⟨?_, ?_, ?_, ?_, ?_, ?_, ?_, passes', cache', transit'⟩
  · rw [State.loadEnds_profiles, State.readsImage_profiles]
  · rw [State.loadEnds_metering, store, metering, passes]
    rfl
  · rw [State.loadEnds_signal, State.readsImage_signal]
  · rw [State.loadEnds_screens, State.readsImage_screens, State.readsImage_signal]
  · rw [State.loadEnds_store, store]
  · rw [State.loadEnds_port, State.readsImage_port]
  · rw [State.loadEnds_ref, ref]

theorem SignalUnit.loaded_line (u : SignalUnit) (c : Content) (pins : BitVec 4) (l : Fin 4) :
    (u.loaded c pins).lines[l] = { setting := c.lines[l], level := pins.getLsbD l } := by
  simp [SignalUnit.loaded]

theorem SignalUnit.loaded_reported (u : SignalUnit) (c : Content) (pins : BitVec 4) :
    (u.loaded c pins).reported = (u.loaded c pins).standbyLevel := rfl

/-- Settles O52: the load by its verdict on the image, the blocks by what each is handed. -/
theorem loadsEndWithTheImageOrFactoryContent : Obligations.LoadsEndWithTheImageOrFactoryContent := by
  intro pins s awake loading unsaved loaded
  have executed := exec_loadEnd_due awake loading pins
  cases verdict : judged (imageRead s.store.image s.freeCount) with | mk c lost =>
  rw [verdict] at executed
  obtain ⟨profiles, metering, signal, screens, store, port, ref, passes, cache, transit⟩ := s.loadEnd_blocks c lost pins
  obtain ⟨found, notFound⟩ := imageAfterReading_judged verdict
  obtain ⟨plan, accountDay, day, yesterday, running, second, weekday, trim, override, charges⟩ :=
    s.metering.resumed_frame c s.store.hardLoad unsaved s.passes
  have missing := fun p => MeteringUnit.resumed_missing (u := s.metering) (c := c) (p := p) (hard := s.store.hardLoad)
    (unsaved := unsaved) (l := s.passes)
  have account := fun p k a => MeteringUnit.resumed_account (u := s.metering) (c := c) (p := p) (hard := s.store.hardLoad)
    (unsaved := unsaved) (l := s.passes) (k := k) (a := a)
  dsimp only at executed profiles metering signal screens store port ref passes cache transit
  generalize s.readsImage.loadEnds c lost pins = t at *
  dsimp only at plan accountDay day yesterday running second weekday trim override charges account
  rw [← metering] at plan accountDay day yesterday running second weekday trim override charges missing account
  rw [← passes] at account
  have cells : ∀ n : ScreenNo, t.screens.cells[n] =
      { s.screens.cells[n] with kind := c.screens[n].kind, guideWait := c.screens[n].guideWait } := fun n => by
    rw [screens]
    exact ScreenController.loaded_cell ..
  have handed : loaded t c lost := by
    refine ⟨by rw [profiles]; rfl, by rw [profiles]; rfl, by rw [profiles]; rfl, plan,
      fun n => by rw [cells n]; exact ⟨rfl, rfl⟩, fun l => by rw [signal]; exact SignalUnit.loaded_line .., ?_, ?_,
      by rw [store]; rfl, by rw [store]; rfl, by rw [store]; rfl, transit,
      fun hard => ⟨by rw [day, hard, if_pos rfl], by rw [yesterday, hard, if_pos rfl]⟩, accountDay,
      fun p => ⟨missing p, account p⟩⟩
    · rw [store]
      exact found
    · rw [store]
      exact notFound
  refine ⟨t, executed, fun i image valid => ?whole, fun unreadable => ?unreadable, fun i image valid => ?factory,
    fun torn => ?torn, fun soft => ⟨by rw [day, soft, if_neg Bool.false_ne_true], by
      rw [yesterday, soft, if_neg Bool.false_ne_true]⟩, running, second, weekday, trim, override, charges, ref,
    by rw [store]; rfl, by rw [port], by rw [port], by rw [port], by rw [store]; rfl, by rw [store]; rfl,
    by rw [signal]; exact SignalUnit.loaded_reported .., by rw [screens, signal]; rfl, fun n => by rw [cells n], passes, cache,
    fun p => by rw [profiles]; rfl⟩
  case whole =>
    rw [image] at verdict
    cases verdict.symm.trans (judged_valid_image valid)
    exact handed
  case unreadable =>
    cases verdict.symm.trans (judged_of_unreadable s.freeCount unreadable)
    exact handed
  case factory =>
    rw [image] at verdict
    rcases judged_factoryFailed s.freeCount valid with same | same
    · cases verdict.symm.trans same
      exact .inl handed
    · cases verdict.symm.trans same
      exact .inr handed
  case torn =>
    rcases judged_cases (imageRead s.store.image s.freeCount) with ⟨i, -, valid, same⟩ | ⟨-, same⟩
    · cases verdict.symm.trans same
      exact .inl ⟨i, valid, handed⟩
    · cases verdict.symm.trans same
      exact .inr handed

end Sys2Proof.Machine
end
